-- ==== Sys2Proof/Word.lean ====
section
/-! DEFINITION. Word.lean: the byte of the serial lines and the two plainest sums every block uses. -/

namespace Sys2Proof

/-- One character of a serial line (8 data bits, spec/00_scope.md, "Pin summary"). -/
abbrev Byte := BitVec 8

/-- One more on a counter that stops at 65,535 and holds there (spec/00_scope.md, "Counters"). -/
def satInc (n : Nat) : Nat := if n < 65535 then n + 1 else n

/-- `k` more on such a counter. -/
def satAdd (n k : Nat) : Nat := if n + k ≤ 65535 then n + k else max n 65535

end Sys2Proof
end

