-- ==== Sys2Proof/Config.lean ====
section
/-! DEFINITION. Config.lean: the numbers the part fixes (spec/00_scope.md, "Device numbers"; spec/11, 11.1 to 11.8).
The spec leaves no value open that an implementation or a free value would have to fill, so no opaque constant stands here. -/

namespace Sys2Proof.Config

/-- Cue table capacity (R2). -/
def tableCapacity : Nat := 512
/-- Journal capacity (R149). -/
def journalCapacity : Nat := 1024
/-- The last sequence number (R149, R151). -/
def lastSequence : Nat := 16777215
/-- The greatest frame index of a reel. -/
def lastFrame : Nat := 1048575
/-- Places of a port's receive queue (R177). -/
def receivePlaces : Nat := 4
/-- Places of a port's ordinary notice queue (R181). -/
def ordinaryPlaces : Nat := 32
/-- PRESENT debounce in samples of 1 ms (R174). -/
def presentDebounce : Nat := 20
/-- The greatest body of a client frame (11.1). -/
def maxBody : Nat := 63
/-- Sync byte of a client frame (11.1). -/
def frameSync : Byte := 0xA7
/-- Sync byte of a position word (11.8). -/
def positionSync : Byte := 0xC5
/-- Sync byte of an overlay word (11.8). -/
def overlaySync : Byte := 0xB9

end Sys2Proof.Config
end

