-- ==== Sys2Proof/Syntax.lean ====
section
/-! DEFINITION. Syntax.lean: the commands of the CJ408, one constructor for each row of spec/opcode_table.json, in
the table's order. A command is one whole step of the part: an event at a pin or a line, a timer's expiry, one block
taking what another block offered it, or a port taking one request. -/

namespace Sys2Proof

/-- Client ports P0 to P3. -/
abbrev PortId := Fin 4
/-- Lanes L0 to L7. -/
abbrev LaneId := Fin 8
/-- Overlay channels V0 to V3. -/
abbrev ChannelId := Fin 4
/-- Tone lines T0 to T7. -/
abbrev ToneId := Fin 8
/-- Input lines I0 to I7, output lines O0 to O7. -/
abbrev LineId := Fin 8
/-- Lead-in profiles 0 to 7. -/
abbrev ProfileId := Fin 8
/-- Loop groups, numbered 1 to 16: the group numbered `n` is `n - 1` here. -/
abbrev GroupId := Fin 16

/-- The level of a pin. -/
inductive Level where
  | low
  | high
  deriving DecidableEq, Repr

/-- A character received on a serial line, with or without its stop bit (R41, R176). -/
structure RxChar where
  byte : Byte
  stop : Bool
  deriving DecidableEq, Repr

/-- The commands. A request row carries the port that takes it and the body as received (R187, R188). -/
inductive Instr where
  /-- RESET_ASSERT (R168) -/
  | resetAssert
  /-- RESET_RELEASE (R169): the levels of O2, O1, O0 sampled at the release -/
  | resetRelease (o2 o1 o0 : Level)
  /-- POSITION_WORD (R41, R42): the bytes that arrive on POSIN, sync byte first -/
  | positionWord (bytes : List Byte)
  /-- WORD_GAP_TIMEOUT (R41): bytes arrive and then none for 2 ms -/
  | wordGapTimeout (bytes : List Byte)
  /-- WORD_WAIT_EXPIRY (R53) -/
  | wordWaitExpiry
  /-- FREEWHEEL_STEP_EXPIRY (R54) -/
  | freewheelStepExpiry
  /-- LANE_POSITION_ADVANCE (R75): the lane takes the advance offered to it -/
  | lanePositionAdvance (l : LaneId)
  /-- LANE_ROLL_LOST (R83): the lane takes the roll lost offered to it -/
  | laneRollLost (l : LaneId)
  /-- PUNCH_POSITION_ADVANCE (R125) -/
  | punchPositionAdvance
  /-- MARK_START_HANDOFF (R96): the Mark Generator takes the lane's start hand-off -/
  | markStartHandoff (l : LaneId)
  /-- MARK_END_HANDOFF (R98): the Mark Generator takes the lane's end hand-off -/
  | markEndHandoff (l : LaneId)
  /-- MARK_POSITION_ADVANCE (R97) -/
  | markPositionAdvance
  /-- OVERLAY_WORD (R110) -/
  | overlayWord
  /-- LOOP_POSITION_ADVANCE (R140) -/
  | loopPositionAdvance
  /-- LOOP_LOCK_ENTRY (R138) -/
  | loopLockEntry
  /-- LOOP_ROLL_LOST (R140, R141) -/
  | loopRollLost
  /-- LOCATE_TIMER_EXPIRY (R139) -/
  | locateTimerExpiry
  /-- GRANT_IDLE_EXPIRY (R34) -/
  | grantIdleExpiry
  /-- INPUT_LINE_CHANGE (R162): the line's other level is accepted -/
  | inputLineChange (i : LineId)
  /-- PORT_ATTACH (R174) -/
  | portAttach (p : PortId)
  /-- PORT_DETACH (R175) -/
  | portDetach (p : PortId)
  /-- RECEIVE_FRAME (R176, R177): the characters that arrive on the port's RXD -/
  | receiveFrame (p : PortId) (chars : List RxChar)
  /-- INTER_BYTE_TIMEOUT (R176): bytes arrive and then none for 10 ms -/
  | interByteTimeout (p : PortId) (bytes : List Byte)
  /-- FRAME_ERROR (R177) -/
  | frameError (p : PortId)
  /-- UNKNOWN_KIND (R178, R188) -/
  | unknownKind (p : PortId) (kind : Byte) (body : List Byte)
  /-- TRANSMIT_TAKE (R179) -/
  | transmitTake (p : PortId)
  /-- TRANSMIT_COMPLETE (R179) -/
  | transmitComplete (p : PortId)
  /-- IDENTIFY (R184) -/
  | identify (p : PortId) (body : List Byte)
  /-- PORT_STATUS (R184) -/
  | portStatus (p : PortId) (body : List Byte)
  /-- CONFIGURE_PORT (R183) -/
  | configurePort (p : PortId) (body : List Byte)
  /-- FETCH_NOTICES (R182, R189) -/
  | fetchNotices (p : PortId) (body : List Byte)
  /-- SET_PARAMETERS (R185) -/
  | setParameters (p : PortId) (body : List Byte)
  /-- READ_PARAMETERS (R185) -/
  | readParameters (p : PortId) (body : List Byte)
  /-- REQUEST_GRANT (R27) -/
  | requestGrant (p : PortId) (body : List Byte)
  /-- RELEASE_GRANT (R30, R31) -/
  | releaseGrant (p : PortId) (body : List Byte)
  /-- TABLE_STATUS (R15) -/
  | tableStatus (p : PortId) (body : List Byte)
  /-- INSERT_CUE (R7) -/
  | insertCue (p : PortId) (body : List Byte)
  /-- AMEND_CUE (R8) -/
  | amendCue (p : PortId) (body : List Byte)
  /-- DELETE_CUE (R9) -/
  | deleteCue (p : PortId) (body : List Byte)
  /-- HOLD_CUE (R10) -/
  | holdCue (p : PortId) (body : List Byte)
  /-- CLEAR_TABLE (R11) -/
  | clearTable (p : PortId) (body : List Byte)
  /-- READ_CUE (R13) -/
  | readCue (p : PortId) (body : List Byte)
  /-- NEXT_CUE (R14) -/
  | nextCue (p : PortId) (body : List Byte)
  /-- SET_PROFILE (R17) -/
  | setProfile (p : PortId) (body : List Byte)
  /-- READ_PROFILE (R18) -/
  | readProfile (p : PortId) (body : List Byte)
  /-- SET_LANE (R66) -/
  | setLane (p : PortId) (body : List Byte)
  /-- READ_LANE (R92) -/
  | readLane (p : PortId) (body : List Byte)
  /-- ENABLE_LANE (R69) -/
  | enableLane (p : PortId) (body : List Byte)
  /-- DISABLE_LANE (R70) -/
  | disableLane (p : PortId) (body : List Byte)
  /-- CANCEL_LANE (R86) -/
  | cancelLane (p : PortId) (body : List Byte)
  /-- CLEAR_STAGE (R87) -/
  | clearStage (p : PortId) (body : List Byte)
  /-- TRACKER_STATUS (R61) -/
  | trackerStatus (p : PortId) (body : List Byte)
  /-- READY (R115) -/
  | ready (p : PortId) (body : List Byte)
  /-- TALLY (R126) -/
  | tally (p : PortId) (body : List Byte)
  /-- RECONFIRM (R128) -/
  | reconfirm (p : PortId) (body : List Byte)
  /-- START_LOOP (R135, R136) -/
  | startLoop (p : PortId) (body : List Byte)
  /-- STOP_LOOP (R144) -/
  | stopLoop (p : PortId) (body : List Byte)
  /-- READ_LOOP (R147) -/
  | readLoop (p : PortId) (body : List Byte)
  /-- READ_JOURNAL (R158) -/
  | readJournal (p : PortId) (body : List Byte)
  /-- CIRCLE_TAKE (R154) -/
  | circleTake (p : PortId) (body : List Byte)
  /-- UNCIRCLE_TAKE (R155) -/
  | uncircleTake (p : PortId) (body : List Byte)
  /-- TRIM_JOURNAL (R159) -/
  | trimJournal (p : PortId) (body : List Byte)
  /-- SET_LINE (R170) -/
  | setLine (p : PortId) (body : List Byte)
  /-- READ_LINES (R171) -/
  | readLines (p : PortId) (body : List Byte)
  /-- WORD_BYTE_WITHOUT_STOP_BIT (R41): bytes arrive and then one without its stop bit -/
  | wordByteWithoutStopBit (bytes : List Byte)
  /-- INPUT_SAMPLE (R162): one 1 ms sample of an input pin -/
  | inputSample (i : LineId) (level : Level)
  /-- PRESENT_SAMPLE (R174): one 1 ms sample of a PRESENT pin -/
  | presentSample (p : PortId) (level : Level)
  deriving DecidableEq, Repr

end Sys2Proof
end

