-- ==== Sys2Proof/Decode.lean ====
section
/-! DEFINITION. Decode.lean: the block has no decoder of a processor's kind, and no row of spec/opcode_table.json gives
bits, so no word spells a command. How the bytes of a request become its kind and its fields is in
Machine/Operands.lean. -/

namespace Sys2Proof

/-- The command a word spells by the table's bits: no row gives any, so none. -/
def decodeTableWord (_nbits _w : Nat) : Option Instr := none

end Sys2Proof
end

