-- ==== Sys2Proof/Machine/Types.lean ====
section
/-! DEFINITION. Machine/Types.lean: what each block of the part holds, as plain data (R1, R26, R43, R65, R95, R101, R113,
R133, R149, R161, R167, R173). -/

namespace Sys2Proof.Machine

/-- A timer in the 1 ms timebase (spec/00_scope.md, "Timebase"): STOPPED, or RUNNING with the ms left. -/
inductive Timer where
  | stopped
  | running (ms : Nat)
  deriving DecidableEq, Repr

/-! ### Straps and parameters -/

/-- The strap values sampled at the release of RESET (R169). -/
structure Straps where
  o2 : Level
  o1 : Level
  o0 : Level
  deriving DecidableEq, Repr

/-- The settable parameters (R185). -/
structure Params where
  frameRate : Nat
  lockCount : Nat
  freewheelLimit : Nat
  tallyInterval : Nat
  missAllowance : Nat
  grantTimeout : Nat
  locateTimeout : Nat
  bidThreshold : Nat
  deriving DecidableEq, Repr

/-! ### Cue Table -/

/-- A lead-in profile (R16): wipe length W, pip count N, pip spacing S, pip length L, flash length F, record lead R, tail T. -/
structure Profile where
  wipe : Nat
  pips : Nat
  spacing : Nat
  pipLength : Nat
  flash : Nat
  recordLead : Nat
  tail : Nat
  deriving DecidableEq, Repr

/-- A cue record (R1). -/
structure CueRecord where
  number : Nat
  lane : LaneId
  reel : Nat
  inFrame : Nat
  outFrame : Nat
  profile : ProfileId
  group : Option GroupId
  character : Nat
  record : Bool
  hold : Bool
  takeLimit : Nat
  takeCount : Nat
  circled : Option Nat
  slate : List Byte
  deriving DecidableEq, Repr

/-- Derived status (R3). -/
inductive DerivedStatus where
  | opened
  | held
  | closed
  deriving DecidableEq, Repr

/-- Derived frames (R4). -/
structure DerivedFrames where
  leadIn : Nat
  punchIn : Nat
  markRef : Nat
  cycleEnd : Nat
  deriving DecidableEq, Repr

/-- The Cue Table (R2, R16, R24). The pins are the lanes' (`Lane.pinned`). -/
structure CueTable where
  records : List CueRecord
  confirmed : Bool
  generation : BitVec 16
  profiles : Vector Profile 8
  deriving DecidableEq, Repr

/-! ### Grant Arbiter -/

/-- The Grant Arbiter (R26). -/
structure Grant where
  holder : Option PortId
  waiting : List PortId
  changed : Bool
  idle : Timer
  deriving DecidableEq, Repr

/-- Causes of REVOKED (R39). -/
inductive RevokeCause where
  | idle
  | detach
  deriving DecidableEq, Repr

/-- Causes of TABLE STATE (R38). -/
inductive TableCause where
  | release
  | revoke
  deriving DecidableEq, Repr

/-! ### Position Tracker -/

/-- How the server is moving (R42). -/
inductive Motion where
  | still
  | playFwd
  | playRev
  | variFwd
  | variRev
  | shuttle
  deriving DecidableEq, Repr

/-- Tracker states (R44). -/
inductive TrackerMode where
  | idle
  | acquiring
  | locked
  | freewheel
  | parked
  | scanning
  deriving DecidableEq, Repr

/-- Causes of TRACKER STATE and of a roll lost (R58, R59). -/
inductive TrackerCause where
  | lock
  | jump
  | reel
  | loss
  | still
  | scan
  | signal
  deriving DecidableEq, Repr

/-- A position: a reel and a frame within it. -/
structure Position where
  reel : Nat
  frame : Nat
  deriving DecidableEq, Repr

/-- A valid position word (R42). -/
structure PositionWord where
  reel : Nat
  frame : Nat
  motion : Motion
  deriving DecidableEq, Repr

/-- The Position Tracker (R43) and the POSIN receiver (R41): `receiver` is none while it hunts, else the body bytes of the
word in progress. -/
structure Tracker where
  mode : TrackerMode
  position : Option Position
  motion : Option Motion
  run : Nat
  freewheel : Nat
  wordWait : Timer
  stepTimer : Timer
  words : Nat
  badWords : Nat
  jumps : Nat
  losses : Nat
  receiver : Option (List Byte)
  deriving DecidableEq, Repr

/-- The mark of a lock entry (R58). -/
inductive LockMark where
  | acquired
  | relocked
  deriving DecidableEq, Repr

/-- A position advance (R57). -/
structure Advance where
  reel : Nat
  frame : Nat
  freewheel : Bool
  lock : Option LockMark
  deriving DecidableEq, Repr

/-- A roll lost (R58). -/
structure RollLost where
  cause : TrackerCause
  mode : TrackerMode
  position : Option Position
  deriving DecidableEq, Repr

/-- The events the Tracker offers (section 3.5): a position advance, a lock entry without an advance, a roll lost. -/
inductive TrackerEvent where
  | advance (a : Advance)
  | relock (pos : Position)
  | lost (r : RollLost)
  deriving DecidableEq, Repr

/-- The event last offered and which receivers have still to take it (section 3.5). -/
structure Offered where
  event : Option TrackerEvent
  lanes : Vector Bool 8
  marks : Bool
  punch : Bool
  loop : Bool
  deriving DecidableEq, Repr

/-! ### Lanes -/

/-- A lane's routing record (R65). -/
structure Routing where
  recordPort : Option PortId
  tone : Option ToneId
  colour : Nat
  priority : Nat
  advance : Nat
  requireReady : Bool
  deriving DecidableEq, Repr

/-- Lane states (R67). -/
inductive LaneMode where
  | off
  | standby
  | armed
  | leadin
  | take
  | tail
  deriving DecidableEq, Repr

/-- Why a take is dry (R113, R117). -/
inductive DryReason where
  | noRecorder
  | reconfirm
  | notReady
  | portBehind
  | notSent
  deriving DecidableEq, Repr

/-- The journal flags a cycle record gathers (R68, R149). At most one dry reason stands in an entry (R149). -/
structure Flags where
  freewheeled : Bool
  wipeLate : Bool
  wipeDropped : Bool
  tailCut : Bool
  tailShort : Bool
  dry : Option DryReason
  deriving DecidableEq, Repr

/-- A loop group with the pass a take is in (R77). -/
structure LoopPass where
  group : GroupId
  pass : Nat
  deriving DecidableEq, Repr

/-- A cycle record (R68), with the slate text as held at pinning (R118). -/
structure CycleRecord where
  cue : Nat
  reel : Nat
  leadIn : Nat
  punchIn : Nat
  markRef : Nat
  inFrame : Nat
  outFrame : Nat
  cycleEnd : Nat
  profile : ProfileId
  record : Bool
  character : Nat
  slate : List Byte
  begun : Bool
  take : Option Nat
  begin : Option Nat
  last : Nat
  loop : Option LoopPass
  broken : Bool
  flags : Flags
  deriving DecidableEq, Repr

/-- A lane (R65, R67). -/
structure Lane where
  routing : Routing
  mode : LaneMode
  pinned : Option Nat
  cycle : Option CycleRecord
  readyLatch : Bool
  closing : Bool
  falseStarts : Nat
  deriving DecidableEq, Repr

/-- Outcomes of a take (R90). -/
inductive TakeOutcome where
  | complete
  | stopped
  | cancelled
  | broken
  deriving DecidableEq, Repr

/-- PUNCH OUT reasons (R121). -/
inductive PunchReason where
  | finish
  | stop
  | cancel
  | yield
  | broken
  deriving DecidableEq, Repr

/-! ### Mark Generator and Overlay Arbiter -/

/-- A mark setup (R95), with the number of the cue whose cycle it belongs to. -/
structure MarkSetup where
  cue : Nat
  markRef : Nat
  wipe : Nat
  pips : Nat
  spacing : Nat
  pipLength : Nat
  flash : Nat
  tone : Option ToneId
  colour : Nat
  priority : Nat
  deriving DecidableEq, Repr

/-- Mark phases (R95). -/
inductive MarkPhase where
  | none
  | leading
  | flashing
  | spent
  deriving DecidableEq, Repr

/-- Bid states (R95, R102), with the bid where it is present and the channel where one is held. -/
inductive BidState where
  | idle
  | waiting
  | bidding (bid : Nat)
  | holding (channel : ChannelId)
  | closed
  deriving DecidableEq, Repr

/-- What the Mark Generator holds for a lane (R95). -/
structure MarkLane where
  setup : Option MarkSetup
  lastFrame : Option Nat
  phase : MarkPhase
  pip : Option Nat
  bid : BidState
  deriving DecidableEq, Repr

/-- What a channel shows (R101): colour and progress where they are present. -/
inductive Drawing where
  | blank
  | wipe (colour progress : Nat)
  | flash (colour : Nat)
  deriving DecidableEq, Repr

/-- An overlay channel (R101). -/
structure Channel where
  holder : Option LaneId
  drawing : Drawing
  lastSent : Option Drawing
  deriving DecidableEq, Repr

/-- A lane's hand-off to the Mark Generator: the start with its setup and the frame of its advance (R96), or the end with
whether the lane is leaving TAKE (R98). -/
inductive Handoff where
  | start (l : LaneId) (setup : MarkSetup) (frame : Nat)
  | stop (l : LaneId) (leftTake : Bool)
  deriving DecidableEq, Repr

/-- The Mark Generator and the Overlay Arbiter (R95, R99, R100, R101) and the overlay word last begun on OVL (R110). -/
structure Marks where
  lanes : Vector MarkLane 8
  channels : Vector Channel 4
  frame : Option Nat
  collisions : Vector Nat 8
  ovl : Option (List Byte)
  deriving DecidableEq, Repr

/-! ### Punch Unit -/

/-- Punch states with the punch port, dry reason and next check point where they are present (R113). -/
inductive PunchMode where
  | idle
  | dry (reason : DryReason)
  | queued (port : PortId)
  | recording (port : PortId) (nextCheck : Nat)
  | broken (port : PortId)
  deriving DecidableEq, Repr

/-- What the Punch Unit holds for a lane (R113). -/
structure PunchLane where
  ready : Bool
  mode : PunchMode
  tallied : Bool
  consecutive : Nat
  total : Nat
  deriving DecidableEq, Repr

/-- Record link states (R128). -/
inductive LinkState where
  | normal
  | reconfirm
  deriving DecidableEq, Repr

/-! ### Loop Controller -/

/-- Loop group states (R133). -/
inductive LoopMode where
  | idle
  | locating
  | running
  | draining
  | done
  | failed
  deriving DecidableEq, Repr

/-- Causes of a loop group's change (R146). -/
inductive LoopCause where
  | none
  | start
  | lock
  | spanEnd
  | pass
  | limit
  | exhausted
  | reels
  | locateTimeout
  | rollLost
  | transportLost
  | stopRequest
  | stopLine
  | clear
  deriving DecidableEq, Repr

/-- A loop group record (R133). -/
structure Group where
  mode : LoopMode
  cause : LoopCause
  passes : Nat
  limit : Nat
  preroll : Nat
  reel : Option Nat
  spanStart : Option Nat
  spanEnd : Option Nat
  port : Option PortId
  deriving DecidableEq, Repr

/-- The Loop Controller (R133). -/
structure Loop where
  groups : Vector Group 16
  locateTimer : Timer
  locateSent : Bool
  deriving DecidableEq, Repr

/-! ### Take Journal -/

/-- A journal entry (R149). CIRCLED stands beside the flags that are fixed at the write. -/
structure JournalEntry where
  sequence : Nat
  cue : Nat
  lane : LaneId
  reel : Nat
  take : Nat
  outcome : TakeOutcome
  recorded : Bool
  flags : Flags
  circled : Bool
  begin : Nat
  last : Nat
  recordPort : Option PortId
  misses : Nat
  loop : Option LoopPass
  deriving DecidableEq, Repr

/-- The take journal (R149). -/
structure Journal where
  entries : List JournalEntry
  next : Option Nat
  isSealed : Bool
  deriving DecidableEq, Repr

/-! ### Line Unit -/

/-- Input line functions (R161). -/
inductive InputFunction where
  | none
  | actorReady (l : LaneId)
  | directorHold
  | circleLast (l : LaneId)
  | loopStop
  deriving DecidableEq, Repr

/-- Trigger of an input line (R161). -/
inductive Trigger where
  | edge
  | level
  deriving DecidableEq, Repr

/-- An input line (R161). -/
structure InputLine where
  function : InputFunction
  trigger : Trigger
  polarity : Level
  debounce : Nat
  level : Level
  differing : Nat
  deriving DecidableEq, Repr

/-- Output line functions (R167). -/
inductive OutputFunction where
  | none
  | cueLight (l : LaneId)
  | recordTally (l : LaneId)
  | rolling
  | loopActive
  | grantHeld
  | manualOn
  | manualOff
  deriving DecidableEq, Repr

/-- Span of a cue light (R167). -/
inductive Span where
  | toIn
  | toOut
  deriving DecidableEq, Repr

/-- An output line (R167). -/
structure OutputLine where
  function : OutputFunction
  polarity : Level
  span : Span
  deriving DecidableEq, Repr

/-- The Line Unit (R161, R167). -/
structure Lines where
  inputs : Vector InputLine 8
  outputs : Vector OutputLine 8
  holdToggle : Bool
  deriving DecidableEq, Repr

/-! ### Notices -/

/-- Notice classes (R173). -/
inductive NoticeClass where
  | table
  | grant
  | tracker
  | lane
  | loop
  | journal
  | lines
  deriving DecidableEq, Repr

/-- Source of a circle (R157). -/
inductive CircleSource where
  | port (p : PortId)
  | line (i : LineId)
  deriving DecidableEq, Repr

/-- A cue's circled take field as CIRCLED reports it (R157). -/
inductive CueField where
  | noRecord
  | field (circled : Option Nat)
  deriving DecidableEq, Repr

/-- Ordinary notices (kinds 0x40 to 0x4A). -/
inductive Notice where
  /-- GRANTED (R39) -/
  | granted (holder : PortId) (waiting : Nat) (generation : BitVec 16)
  /-- REVOKED (R39) -/
  | revoked (port : PortId) (cause : RevokeCause) (changes : Bool)
  /-- TABLE STATE (R38) -/
  | tableState (confirmed : Bool) (generation : BitVec 16) (port : PortId) (cause : TableCause)
  /-- TRACKER STATE (R59) -/
  | trackerState (mode : TrackerMode) (position : Option Position) (cause : TrackerCause)
  /-- CUE ARMED (R73): the replaced cue is present with cause REARM -/
  | cueArmed (l : LaneId) (cue : Nat) (replaced : Option Nat) (reel leadIn inFrame comingTake : Nat) (group : Option GroupId)
  /-- CYCLE ENDED (R91) -/
  | cycleEnded (l : LaneId) (cue take : Nat) (outcome : TakeOutcome) (recorded : Bool) (sequence : Option Nat) (nextMode : LaneMode)
  /-- LOOP STATE (R146) -/
  | loopState (group : GroupId) (mode : LoopMode) (passes : Nat) (cause : LoopCause) (locate : Option Position)
  /-- CIRCLED (R157) -/
  | circled (sequence cue take : Nat) (l : LaneId) (circled : Bool) (source : CircleSource) (field : CueField)
  /-- JOURNAL FULL (R157) -/
  | journalFull (sequence cue take : Nat) (cleared : Bool)
  /-- JOURNAL SEALED (R157) -/
  | journalSealed (last count : Nat)
  /-- LINE CHANGE (R166) -/
  | lineChange (i : LineId) (level : Level) (active : Bool) (function : InputFunction) (hold : Bool)
  deriving DecidableEq, Repr

/-- Priority notices (kinds 0x50 to 0x53). -/
inductive PriorityNotice where
  /-- PUNCH IN (R118) -/
  | punchIn (l : LaneId) (cue take character reel frame : Nat) (slate : List Byte)
  /-- PUNCH OUT (R121) -/
  | punchOut (l : LaneId) (cue take : Nat) (reason : PunchReason) (frame : Nat)
  /-- LOCATE AND ROLL (R137) -/
  | locate (group : GroupId) (reel frame pass : Nat)
  /-- HALT TRANSPORT (R137) -/
  | halt (group : GroupId) (cause : LoopCause)
  deriving DecidableEq, Repr

/-! ### Client ports -/

/-- Roles of a port (R173). -/
structure Roles where
  edit : Bool
  record : Bool
  transport : Bool
  deriving DecidableEq, Repr

/-- Subscription of a port (R173). -/
structure Subscription where
  table : Bool
  grant : Bool
  tracker : Bool
  lane : Bool
  loop : Bool
  journal : Bool
  lines : Bool
  deriving DecidableEq, Repr

/-- Port rates in baud (R173). -/
inductive Rate where
  | b38400
  | b115200
  | b230400
  | b460800
  | b921600
  deriving DecidableEq, Repr

/-- How a frame fails (R176). -/
inductive FrameFailure where
  | badLength
  | noStopBit
  | timeout
  | badSum
  deriving DecidableEq, Repr

/-- An item of a receive queue (R177). -/
inductive RxItem where
  | request (kind : Byte) (body : List Byte)
  | frameError (failure : FrameFailure)
  deriving DecidableEq, Repr

/-- An answer: its kind, its body and the rate that takes effect when it has been sent (R178, R183). -/
structure Answer where
  kind : Byte
  body : List Byte
  newRate : Option Rate
  deriving DecidableEq, Repr

/-- What a transmitter is sending (R179). -/
inductive Sending where
  | notice (n : PriorityNotice)
  | answer (a : Answer)
  deriving DecidableEq, Repr

/-- The message being sent, and the rate that takes effect at its end (R179, R183). -/
structure Transmission where
  message : Sending
  newRate : Option Rate
  deriving DecidableEq, Repr

/-- A client port (R173). `rate` is the setting, `lineRate` the rate in force on the line (R183); `receiver` is none while
it hunts, else the bytes after the sync byte (R176). -/
structure Port where
  attached : Bool
  presentLevel : Level
  presentDiffering : Nat
  roles : Roles
  subscription : Subscription
  rate : Rate
  lineRate : Rate
  threshold : Nat
  receiver : Option (List Byte)
  receiveQueue : List RxItem
  slot : Option Answer
  priority : List PriorityNotice
  ordinary : List Notice
  transmitting : Option Transmission
  lostSinceFetch : Nat
  frameErrors : Nat
  overruns : Nat
  noticesLost : Nat
  deriving DecidableEq, Repr

end Sys2Proof.Machine
end

