-- ==== Sys2Proof/Machine/Defaults.lean ====
section
/-! DEFINITION. Machine/Defaults.lean: what each block holds after device reset, as functions of the sampled straps
(R16, R25, R40, R64, R93, R112, R132, R148, R160, R172, R186). -/

namespace Sys2Proof.Machine

/-- The nominal frame rate FRATE gives (R169). -/
def Straps.frameRate (x : Straps) : Nat :=
  match x.o1, x.o0 with
  | .low, .low => 24
  | .low, .high => 25
  | .high, .low => 30
  | .high, .high => 48

/-- The port rate BAUDSEL gives (R169). -/
def Straps.baud (x : Straps) : Rate :=
  match x.o2 with
  | .low => .b115200
  | .high => .b460800

/-- The parameters after device reset (R185). -/
def defaultParams (x : Straps) : Params where
  frameRate := x.frameRate
  lockCount := 4
  freewheelLimit := 3
  tallyInterval := 48
  missAllowance := 1
  grantTimeout := 10
  locateTimeout := 8
  bidThreshold := 0

/-- A profile after device reset, from the nominal frame rate (R16). -/
def defaultProfile (nf : Nat) : Profile where
  wipe := 3 * nf
  pips := 3
  spacing := nf
  pipLength := 2
  flash := 2
  recordLead := 2 * nf
  tail := nf

/-- The Cue Table after device reset (R25). -/
def defaultTable (x : Straps) : CueTable where
  records := []
  confirmed := false
  generation := 0
  profiles := Vector.replicate 8 (defaultProfile x.frameRate)

/-- The Grant Arbiter after device reset (R40). -/
def defaultGrant : Grant where
  holder := none
  waiting := []
  changed := false
  idle := .stopped

/-- The Position Tracker after device reset (R64). -/
def defaultTracker : Tracker where
  mode := .idle
  position := none
  motion := none
  run := 0
  freewheel := 0
  wordWait := .stopped
  stepTimer := .stopped
  words := 0
  badWords := 0
  jumps := 0
  losses := 0
  receiver := none

/-- No tracker event outstanding. -/
def defaultOffered : Offered where
  event := none
  lanes := Vector.replicate 8 false
  marks := false
  punch := false
  loop := false

/-- A lane's routing record after device reset (R65). -/
def defaultRouting (colour : Nat) : Routing where
  recordPort := none
  tone := none
  colour := colour
  priority := 8
  advance := 0
  requireReady := false

/-- A lane after device reset (R93). -/
def defaultLane (colour : Nat) : Lane where
  routing := defaultRouting colour
  mode := .off
  pinned := none
  cycle := none
  readyLatch := false
  closing := false
  falseStarts := 0

/-- The lanes after device reset: each lane's colour is its number (R65). -/
def defaultLanes : Vector Lane 8 :=
  #v[defaultLane 0, defaultLane 1, defaultLane 2, defaultLane 3, defaultLane 4, defaultLane 5, defaultLane 6, defaultLane 7]

/-- A lane's marks with no mark setup (R95, R98). -/
def idleMarkLane : MarkLane where
  setup := none
  lastFrame := none
  phase := .none
  pip := none
  bid := .idle

/-- A channel after device reset (R101). -/
def defaultChannel : Channel where
  holder := none
  drawing := .blank
  lastSent := none

/-- The Mark Generator and Overlay Arbiter after device reset (R112). -/
def defaultMarks : Marks where
  lanes := Vector.replicate 8 idleMarkLane
  channels := Vector.replicate 4 defaultChannel
  frame := none
  collisions := Vector.replicate 8 0
  ovl := none

/-- A lane's punch record after device reset (R132). -/
def defaultPunch : PunchLane where
  ready := false
  mode := .idle
  tallied := false
  consecutive := 0
  total := 0

/-- A loop group record after device reset (R148). -/
def defaultGroup : Group where
  mode := .idle
  cause := .none
  passes := 0
  limit := 0
  preroll := 0
  reel := none
  spanStart := none
  spanEnd := none
  port := none

/-- The Loop Controller after device reset (R148). -/
def defaultLoop : Loop where
  groups := Vector.replicate 16 defaultGroup
  locateTimer := .stopped
  locateSent := false

/-- The take journal after device reset (R160). -/
def defaultJournal : Journal where
  entries := []
  next := some 1
  isSealed := false

/-- An input line after device reset (R161). -/
def defaultInput : InputLine where
  function := .none
  trigger := .edge
  polarity := .low
  debounce := 5
  level := .high
  differing := 0

/-- An output line after device reset (R167). -/
def defaultOutput : OutputLine where
  function := .none
  polarity := .high
  span := .toIn

/-- The Line Unit after device reset (R172). -/
def defaultLines : Lines where
  inputs := Vector.replicate 8 defaultInput
  outputs := Vector.replicate 8 defaultOutput
  holdToggle := false

/-- A client port after device reset (R173, R186). -/
def defaultPort (x : Straps) : Port where
  attached := false
  presentLevel := .low
  presentDiffering := 0
  roles := { edit := true, record := false, transport := false }
  subscription :=
    { table := true, grant := true, tracker := true, lane := true, loop := true, journal := true, lines := true }
  rate := x.baud
  lineRate := x.baud
  threshold := 1
  receiver := none
  receiveQueue := []
  slot := none
  priority := []
  ordinary := []
  transmitting := none
  lostSinceFetch := 0
  frameErrors := 0
  overruns := 0
  noticesLost := 0

end Sys2Proof.Machine
end

