-- ==== Sys2Proof/Machine/State.lean ====
section
/-! DEFINITION. Machine/State.lean: the whole part as plain data, its stops, and the state right after reset. -/

namespace Sys2Proof.Machine

/-- Faults: none. The spec names nothing that stops the part, so no meaning raises a fault (safe: nothing is shut out). -/
inductive Fault where
  deriving DecidableEq, Repr

/-- Refusals. -/
inductive Refusal where
  /-- The arm of a command that has no meaning yet (safe). No arm raises it: every command has its meaning. -/
  | notModelled (mnemonic : String)
  deriving DecidableEq, Repr

/-- The CJ408. `pending` is the queue of the commands that are waiting, first in, first out. -/
structure State where
  resetHeld : Bool
  straps : Straps
  params : Params
  table : CueTable
  grant : Grant
  tracker : Tracker
  offered : Offered
  lanes : Vector Lane 8
  handoffs : List Handoff
  marks : Marks
  punch : Vector PunchLane 8
  links : Vector LinkState 4
  loop : Loop
  journal : Journal
  lines : Lines
  ports : Vector Port 4
  pending : List Instr
  deriving DecidableEq, Repr

/-- Every block in its device-reset state under the given straps, RESET held or released (R25, R40, R64, R93, R112, R132,
R148, R160, R172, R186). -/
def State.deviceReset (held : Bool) (x : Straps) (queue : List Instr) : State where
  resetHeld := held
  straps := x
  params := defaultParams x
  table := defaultTable x
  grant := defaultGrant
  tracker := defaultTracker
  offered := defaultOffered
  lanes := defaultLanes
  handoffs := []
  marks := defaultMarks
  punch := Vector.replicate 8 defaultPunch
  links := Vector.replicate 4 .normal
  loop := defaultLoop
  journal := defaultJournal
  lines := defaultLines
  ports := Vector.replicate 4 (defaultPort x)
  pending := queue

/-- The machine right after reset: RESET has been released on a board whose three straps are LOW (DESIGN CHOICE, log 5). -/
def State.reset : State := State.deviceReset false { o2 := .low, o1 := .low, o0 := .low } []

end Sys2Proof.Machine
end

