-- ==== Sys2Proof/Machine/Ops.lean ====
section
/-! DEFINITION. Machine/Ops.lean: the named operations over the state that every block uses: reading and writing one
lane, port, group, channel or line, posting notices (R180, R181), timers (R52, R34, R139), the active group (R133). -/

namespace Sys2Proof.Machine

/-- The outcome type of the part's steps. -/
abbrev Result := Host.Outcome State Fault Refusal

/-! ### Numbering -/

def allPorts : List PortId := [0, 1, 2, 3]
def allLanes : List LaneId := [0, 1, 2, 3, 4, 5, 6, 7]
def allChannels : List ChannelId := [0, 1, 2, 3]
def allLines : List LineId := [0, 1, 2, 3, 4, 5, 6, 7]
def allTones : List ToneId := [0, 1, 2, 3, 4, 5, 6, 7]
def allGroups : List GroupId := [0, 1, 2, 3, 4, 5, 6, 7, 8, 9, 10, 11, 12, 13, 14, 15]

/-- A group's number, 1 to 16. -/
def groupNumber (g : GroupId) : Nat := g.val + 1

/-- The other level. -/
def otherLevel : Level → Level
  | .low => .high
  | .high => .low

/-! ### One lane, punch record, port, link, group, mark lane, channel, line -/

def State.lane (s : State) (l : LaneId) : Lane := s.lanes[l]
def State.setLane (s : State) (l : LaneId) (x : Lane) : State := { s with lanes := s.lanes.set l x }

def State.punchOf (s : State) (l : LaneId) : PunchLane := s.punch[l]
def State.setPunch (s : State) (l : LaneId) (x : PunchLane) : State := { s with punch := s.punch.set l x }

def State.port (s : State) (p : PortId) : Port := s.ports[p]
def State.setPort (s : State) (p : PortId) (x : Port) : State := { s with ports := s.ports.set p x }

def State.link (s : State) (p : PortId) : LinkState := s.links[p]
def State.setLink (s : State) (p : PortId) (x : LinkState) : State := { s with links := s.links.set p x }

def State.group (s : State) (g : GroupId) : Group := s.loop.groups[g]
def State.setGroup (s : State) (g : GroupId) (x : Group) : State :=
  { s with loop := { s.loop with groups := s.loop.groups.set g x } }

def State.markLane (s : State) (l : LaneId) : MarkLane := s.marks.lanes[l]
def State.setMarkLane (s : State) (l : LaneId) (x : MarkLane) : State :=
  { s with marks := { s.marks with lanes := s.marks.lanes.set l x } }

def State.channel (s : State) (c : ChannelId) : Channel := s.marks.channels[c]
def State.setChannel (s : State) (c : ChannelId) (x : Channel) : State :=
  { s with marks := { s.marks with channels := s.marks.channels.set c x } }

def State.input (s : State) (i : LineId) : InputLine := s.lines.inputs[i]
def State.setInput (s : State) (i : LineId) (x : InputLine) : State :=
  { s with lines := { s.lines with inputs := s.lines.inputs.set i x } }

def State.output (s : State) (o : LineId) : OutputLine := s.lines.outputs[o]
def State.setOutput (s : State) (o : LineId) (x : OutputLine) : State :=
  { s with lines := { s.lines with outputs := s.lines.outputs.set o x } }

def State.profile (s : State) (q : ProfileId) : Profile := s.table.profiles[q]

/-- Every port changed by one function of its number and its record. -/
def State.mapPorts (s : State) (f : PortId → Port → Port) : State :=
  { s with ports := #v[f 0 (s.port 0), f 1 (s.port 1), f 2 (s.port 2), f 3 (s.port 3)] }

/-! ### Records of the table -/

/-- The record of a cue number, where the table holds one (R2). -/
def State.record (s : State) (n : Nat) : Option CueRecord := s.table.records.find? fun c => c.number == n

/-- The table with new records. -/
def State.setRecords (s : State) (rs : List CueRecord) : State := { s with table := { s.table with records := rs } }

/-- The lane that pins a cue (R20). -/
def State.pinnedBy (s : State) (n : Nat) : Option LaneId := allLanes.find? fun l => (s.lane l).pinned == some n

/-- Whether a record is pinned (R20). -/
def State.isPinned (s : State) (n : Nat) : Bool := (s.pinnedBy n).isSome

/-- The pinned records (R15). -/
def State.pinnedRecords (s : State) : List CueRecord := s.table.records.filter fun c => s.isPinned c.number

/-! ### Posting notices -/

/-- Whether a subscription holds a class (R173). -/
def Subscription.holds (x : Subscription) : NoticeClass → Bool
  | .table => x.table
  | .grant => x.grant
  | .tracker => x.tracker
  | .lane => x.lane
  | .loop => x.loop
  | .journal => x.journal
  | .lines => x.lines

/-- A notice joins a port's ordinary queue, or is dropped and counted when 32 wait (R181). -/
def Port.enqueue (x : Port) (n : Notice) : Port :=
  if x.ordinary.length < Config.ordinaryPlaces then { x with ordinary := x.ordinary ++ [n] }
  else { x with lostSinceFetch := satInc x.lostSinceFetch, noticesLost := satInc x.noticesLost }

/-- Posting to the attached ports that a test picks; a detached port takes no notice (R175, R181). -/
def postWhere (pick : PortId → Port → Bool) (n : Notice) (s : State) : State :=
  s.mapPorts fun p x => if x.attached && pick p x then x.enqueue n else x

/-- Posting a notice of a class to every port that subscribes to it (R181). -/
def post (c : NoticeClass) (n : Notice) (s : State) : State := postWhere (fun _ x => x.subscription.holds c) n s

/-- Posting to one port whatever its subscription and to every subscriber of GRANT (R39). -/
def postGrantTo (q : PortId) (n : Notice) (s : State) : State :=
  postWhere (fun p x => p == q || x.subscription.grant) n s

/-- Posting to every subscriber of GRANT but one port (R28). -/
def postGrantExcept (q : PortId) (n : Notice) (s : State) : State :=
  postWhere (fun p x => p != q && x.subscription.grant) n s

/-- Whether a priority notice is a transport notice (R137). -/
def PriorityNotice.isTransport : PriorityNotice → Bool
  | .locate _ _ _ _ => true
  | .halt _ _ => true
  | .punchIn _ _ _ _ _ _ _ => false
  | .punchOut _ _ _ _ _ => false

/-- Whether a priority notice is a PUNCH IN of the lane (R122). -/
def PriorityNotice.isPunchIn (l : LaneId) : PriorityNotice → Bool
  | .punchIn k _ _ _ _ _ _ => k == l
  | .punchOut _ _ _ _ _ => false
  | .locate _ _ _ _ => false
  | .halt _ _ => false

/-- Whether a priority notice is a PUNCH OUT of the lane (R117). -/
def PriorityNotice.isPunchOut (l : LaneId) : PriorityNotice → Bool
  | .punchOut k _ _ _ _ => k == l
  | .punchIn _ _ _ _ _ _ _ => false
  | .locate _ _ _ _ => false
  | .halt _ _ => false

/-- A transport notice joins a queue: it takes the place of an older one still there, else the end (R180). -/
def replaceTransport (n : PriorityNotice) : List PriorityNotice → List PriorityNotice
  | [] => [n]
  | x :: xs => if x.isTransport then n :: xs.filter (fun y => !y.isTransport) else x :: replaceTransport n xs

/-- A punch notice joins the end of a port's priority queue (R180); a detached port discards it (R175). -/
def postPunch (p : PortId) (n : PriorityNotice) (s : State) : State :=
  if (s.port p).attached then s.setPort p { s.port p with priority := (s.port p).priority ++ [n] } else s

/-- A transport notice joins a port's priority queue (R137, R180). -/
def postTransport (p : PortId) (n : PriorityNotice) (s : State) : State :=
  if (s.port p).attached then s.setPort p { s.port p with priority := replaceTransport n (s.port p).priority } else s

/-! ### Timers -/

/-- A timer that runs for a number of seconds (R34, R139). -/
def seconds (n : Nat) : Timer := .running (1000 * n)

/-- Whether a timer runs. -/
def Timer.isRunning : Timer → Bool
  | .stopped => false
  | .running _ => true

/-- One millisecond passes on a timer. -/
def Timer.tick : Timer → Timer
  | .stopped => .stopped
  | .running ms => .running (ms - 1)

/-- The ms left, 0 when stopped. -/
def Timer.left : Timer → Nat
  | .stopped => 0
  | .running ms => ms

/-- The word-wait time: 1.5 nominal periods in whole ms, rounded up (R52). -/
def wordWaitMs (rate : Nat) : Nat := (1500 + rate - 1) / rate

/-- The freewheel step: 1 nominal period in whole ms, rounded up (R52). -/
def freewheelStepMs (rate : Nat) : Nat := (1000 + rate - 1) / rate

/-! ### Loop groups -/

/-- LOCATING, RUNNING and DRAINING are active (R133). -/
def LoopMode.isActive : LoopMode → Bool
  | .idle => false
  | .locating => true
  | .running => true
  | .draining => true
  | .done => false
  | .failed => false

/-- The active group, where there is one (R133). -/
def State.activeGroup (s : State) : Option GroupId := allGroups.find? fun g => (s.group g).mode.isActive

/-- Whether some lane pins a member of the group (R140, R147). -/
def State.lanePinsMember (s : State) (g : GroupId) (l : LaneId) : Bool :=
  match (s.lane l).pinned with
  | none => false
  | some n =>
    match s.record n with
    | none => false
    | some c => c.group == some g

/-- Whether at least one lane pins a member of the group (R140, R141). -/
def State.anyMemberPinned (s : State) (g : GroupId) : Bool := allLanes.any fun l => s.lanePinsMember g l

/-- The tracker is rolling in LOCKED and FREEWHEEL (R44). -/
def TrackerMode.rolling : TrackerMode → Bool
  | .idle => false
  | .acquiring => false
  | .locked => true
  | .freewheel => true
  | .parked => false
  | .scanning => false

/-- ARMED, LEADIN, TAKE and TAIL: the lane is in a cue cycle (R67). -/
def LaneMode.inCycle : LaneMode → Bool
  | .off => false
  | .standby => false
  | .armed => true
  | .leadin => true
  | .take => true
  | .tail => true

/-- LEADIN, TAKE and TAIL: the states in which closing may be ON (R67). -/
def LaneMode.running : LaneMode → Bool
  | .off => false
  | .standby => false
  | .armed => false
  | .leadin => true
  | .take => true
  | .tail => true

/-- No journal flag (R68). -/
def Flags.empty : Flags where
  freewheeled := false
  wipeLate := false
  wipeDropped := false
  tailCut := false
  tailShort := false
  dry := none

/-- A change of a lane's cycle record, where it has one (R68). -/
def modCycle (l : LaneId) (f : CycleRecord → CycleRecord) (s : State) : State :=
  s.setLane l { s.lane l with cycle := (s.lane l).cycle.map f }

/-! ### Answers -/

/-- Status codes (R178, 11.3). -/
inductive Status where
  | ok
  | queued
  | already
  | role
  | noGrant
  | notHeld
  | range
  | noCue
  | duplicate
  | tableFull
  | laneOverlap
  | pinned
  | busy
  | noTransport
  | notFound
  | notRecording
  | wrongPort
  | unknownKind
  | length
  deriving DecidableEq, Repr

/-- A block's reply to a request: the status, the fields after it and a rate that takes effect when it has been sent. -/
structure Reply where
  status : Status
  fields : List Byte
  newRate : Option Rate
  deriving DecidableEq, Repr

/-- A reply of a status alone (R187). -/
def Reply.bare (x : Status) : Reply := { status := x, fields := [], newRate := none }

/-- A reply OK with its fields (R187). -/
def Reply.okWith (fs : List Byte) : Reply := { status := .ok, fields := fs, newRate := none }

end Sys2Proof.Machine
end

