-- ==== Sys2Proof/Machine/Flags.lean ====
section
/-! DEFINITION. Machine/Flags.lean: the conditions the spec computes from state: readiness (R71, R163), director hold
(R164), ATTN (R181), record tally (R124), the output lines (R167, R168), the tone lines (R99), "profile in use" (R16). -/

namespace Sys2Proof.Machine

/-- A line is active while its debounced level equals its polarity (R161). -/
def InputLine.active (x : InputLine) : Bool := x.level == x.polarity

/-- A lane's ready level (R71, R163). -/
def State.readyLevel (s : State) (l : LaneId) : Bool :=
  allLines.any fun i => (s.input i).function == .actorReady l && (s.input i).trigger == .level && (s.input i).active

/-- A lane is ready when its latch is SET or its ready level is active (R71). -/
def State.laneReady (s : State) (l : LaneId) : Bool := (s.lane l).readyLatch || s.readyLevel l

/-- Director hold (R164). -/
def State.directorHold (s : State) : Bool :=
  s.lines.holdToggle ||
    allLines.any fun i => (s.input i).function == .directorHold && (s.input i).trigger == .level && (s.input i).active

/-- Whether some input line has DIRECTOR_HOLD with the EDGE trigger (R164). -/
def State.hasEdgeHold (s : State) : Bool :=
  allLines.any fun i => (s.input i).function == .directorHold && (s.input i).trigger == .edge

/-- A port's ATTN (R181): inactive while DETACHED; a port is detached while RESET is held. -/
def Port.attn (x : Port) : Bool := x.attached && decide (x.threshold ≤ x.ordinary.length)

/-- A PUNCH OUT of the lane is being transmitted (R124). -/
def Port.sendingPunchOut (x : Port) (l : LaneId) : Bool :=
  match x.transmitting with
  | none => false
  | some t =>
    match t.message with
    | .notice n => n.isPunchOut l
    | .answer _ => false

/-- A lane's record tally condition (R124). -/
def State.recordTally (s : State) (l : LaneId) : Bool :=
  (match (s.punchOf l).mode with
    | .queued _ => true
    | .recording _ _ => true
    | .idle => false
    | .dry _ => false
    | .broken _ => false) ||
  allPorts.any fun p => (s.port p).priority.any (fun n => n.isPunchOut l) || (s.port p).sendingPunchOut l

/-- Whether an output line's condition holds (R167). -/
def State.outputActive (s : State) (o : LineId) : Bool :=
  match (s.output o).function with
  | .none => false
  | .cueLight l =>
    match (s.output o).span with
    | .toIn => (s.lane l).mode == .leadin
    | .toOut => (s.lane l).mode == .leadin || (s.lane l).mode == .take
  | .recordTally l => s.recordTally l
  | .rolling => s.tracker.mode.rolling
  | .loopActive => s.activeGroup.isSome
  | .grantHeld => s.grant.holder.isSome
  | .manualOn => true
  | .manualOff => false

/-- The level an output line is driven to (R168). -/
def State.outputLevel (s : State) (o : LineId) : Level :=
  if s.outputActive o then (s.output o).polarity else otherLevel (s.output o).polarity

/-- The level of an output pin: O0 to O2 are high-impedance while RESET is held (R168). -/
def State.outputPin (s : State) (o : LineId) : Option Level :=
  if s.resetHeld && decide (o.val ≤ 2) then none else some (s.outputLevel o)

/-- A lane whose mark setup names the tone line has an active pip (R99). -/
def State.pipOn (s : State) (t : ToneId) (l : LaneId) : Bool :=
  (s.markLane l).pip.isSome &&
    match (s.markLane l).setup with
    | none => false
    | some m => m.tone == some t

/-- A tone line sounds while at least one lane on it has an active pip (R99). -/
def State.toneSounding (s : State) (t : ToneId) : Bool := allLanes.any fun l => s.pipOn t l

/-- A profile is in use while at least one pinned record names it (R16). -/
def State.profileUsers (s : State) (q : ProfileId) : Nat := (s.pinnedRecords.filter fun c => c.profile == q).length

/-- A record's derived status (R3). -/
def CueRecord.status (c : CueRecord) : DerivedStatus :=
  if c.hold then .held else if c.takeCount = c.takeLimit then .closed else .opened

/-- The channel a lane holds (R92, R95). -/
def MarkLane.channel (x : MarkLane) : Option ChannelId :=
  match x.bid with
  | .holding c => some c
  | .idle => none
  | .waiting => none
  | .bidding _ => none
  | .closed => none

end Sys2Proof.Machine
end

