-- ==== Sys2Proof/Machine/Operands.lean ====
section
/-! DEFINITION. Machine/Operands.lean: reading bytes and fields: the numbers of a body (R187), the enumerations and masks
(11.4), the request kinds with their lengths and needs (R178, R188, 11.2), the words of POSIN (R42) and the two
receivers (R41, R176). -/

namespace Sys2Proof.Machine

/-! ### Numbers in a body (R187): high byte first -/

/-- The byte at a place of a body, as a number. -/
def byteAt (b : List Byte) (i : Nat) : Nat := (b.getD i 0).toNat
/-- Two bytes, high byte first. -/
def wordAt (b : List Byte) (i : Nat) : Nat := 256 * byteAt b i + byteAt b (i + 1)
/-- Three bytes, high byte first. -/
def frameAt (b : List Byte) (i : Nat) : Nat := 65536 * byteAt b i + 256 * byteAt b (i + 1) + byteAt b (i + 2)

/-- The sum of bytes modulo 256, as the check bytes of R42 and R176 use it. -/
def byteSum (b : List Byte) : Byte := b.foldl (· + ·) 0

/-! ### Enumerations and masks (11.4) -/

/-- OFF/ON, NO/YES, CLEAR/SET. -/
def boolOf (n : Nat) : Option Bool :=
  match n with
  | 0 => some false
  | 1 => some true
  | _ => none

/-- A port that may not be absent. -/
def portOf (n : Nat) : Option PortId := if h : n < 4 then some ⟨n, h⟩ else none
/-- A lane that may not be absent. -/
def laneOf (n : Nat) : Option LaneId := if h : n < 8 then some ⟨n, h⟩ else none
/-- A lead-in profile. -/
def profileOf (n : Nat) : Option ProfileId := if h : n < 8 then some ⟨n, h⟩ else none
/-- A loop group 1 to 16. -/
def groupOf (n : Nat) : Option GroupId := if h : 1 ≤ n ∧ n ≤ 16 then some ⟨n - 1, by omega⟩ else none
/-- A port or NONE (0xFF). -/
def portOrNone (n : Nat) : Option (Option PortId) := if n = 0xFF then some none else (portOf n).map some
/-- A tone line or NONE (0xFF). -/
def toneOrNone (n : Nat) : Option (Option ToneId) := if n = 0xFF then some none else (laneOf n).map some

/-- Motion codes. -/
def motionOf (n : Nat) : Option Motion :=
  match n with
  | 0 => some .still
  | 1 => some .playFwd
  | 2 => some .playRev
  | 3 => some .variFwd
  | 4 => some .variRev
  | 5 => some .shuttle
  | _ => none

/-- Port rate codes. -/
def rateOf (n : Nat) : Option Rate :=
  match n with
  | 0 => some .b38400
  | 1 => some .b115200
  | 2 => some .b230400
  | 3 => some .b460800
  | 4 => some .b921600
  | _ => none

/-- The roles mask; a bit that names no role has no meaning (R188). -/
def rolesOf (n : Nat) : Option Roles :=
  if n < 8 then some { edit := n.testBit 0, record := n.testBit 1, transport := n.testBit 2 } else none

/-- The subscription mask; a bit that names no class has no meaning (R188). -/
def subscriptionOf (n : Nat) : Option Subscription :=
  if n < 128 then
    some { table := n.testBit 0, grant := n.testBit 1, tracker := n.testBit 2, lane := n.testBit 3, loop := n.testBit 4,
           journal := n.testBit 5, lines := n.testBit 6 }
  else none

/-- Trigger codes. -/
def triggerOf (n : Nat) : Option Trigger :=
  match n with
  | 0 => some .edge
  | 1 => some .level
  | _ => none

/-- Polarity codes: active LOW 0, active HIGH 1. -/
def polarityOf (n : Nat) : Option Level :=
  match n with
  | 0 => some .low
  | 1 => some .high
  | _ => none

/-- Span codes. -/
def spanOf (n : Nat) : Option Span :=
  match n with
  | 0 => some .toIn
  | 1 => some .toOut
  | _ => none

/-- Input function codes: ACTOR_READY 0x10 + lane, CIRCLE_LAST 0x20 + lane. -/
def inputFunctionOf (n : Nat) : Option InputFunction :=
  if n = 0 then some .none
  else if n = 1 then some .directorHold
  else if n = 2 then some .loopStop
  else if 0x10 ≤ n ∧ n < 0x20 then (laneOf (n - 0x10)).map .actorReady
  else if 0x20 ≤ n then (laneOf (n - 0x20)).map .circleLast
  else none

/-- Output function codes: CUE_LIGHT 0x10 + lane, RECORD_TALLY 0x20 + lane. -/
def outputFunctionOf (n : Nat) : Option OutputFunction :=
  if n = 0 then some .none
  else if n = 1 then some .rolling
  else if n = 2 then some .loopActive
  else if n = 3 then some .grantHeld
  else if n = 4 then some .manualOn
  else if n = 5 then some .manualOff
  else if 0x10 ≤ n ∧ n < 0x20 then (laneOf (n - 0x10)).map .cueLight
  else if 0x20 ≤ n then (laneOf (n - 0x20)).map .recordTally
  else none

/-- A nominal frame rate (R63). -/
def isFrameRate (n : Nat) : Bool := n == 24 || n == 25 || n == 30 || n == 48

/-- A printable character (R1, R5). -/
def isPrintable (c : Byte) : Bool := 0x20 ≤ c.toNat && c.toNat ≤ 0x7E

/-! ### Request kinds (11.2, R178) -/

/-- The 37 request kinds. -/
inductive Request where
  | identify | portStatus | configurePort | fetchNotices | setParameters | readParameters
  | requestGrant | releaseGrant | tableStatus
  | insertCue | amendCue | deleteCue | holdCue | clearTable | readCue | nextCue
  | setProfile | readProfile | setLane | readLane | enableLane | disableLane | cancelLane | clearStage
  | trackerStatus | ready | tally | reconfirm | startLoop | stopLoop | readLoop
  | readJournal | circleTake | uncircleTake | trimJournal | setLine | readLines
  deriving DecidableEq, Repr

/-- The code of a request kind (11.2). -/
def Request.code : Request → Byte
  | .identify => 0x01
  | .portStatus => 0x02
  | .configurePort => 0x03
  | .fetchNotices => 0x04
  | .setParameters => 0x05
  | .readParameters => 0x06
  | .requestGrant => 0x08
  | .releaseGrant => 0x09
  | .tableStatus => 0x0A
  | .insertCue => 0x10
  | .amendCue => 0x11
  | .deleteCue => 0x12
  | .holdCue => 0x13
  | .clearTable => 0x14
  | .readCue => 0x15
  | .nextCue => 0x16
  | .setProfile => 0x18
  | .readProfile => 0x19
  | .setLane => 0x1A
  | .readLane => 0x1B
  | .enableLane => 0x1C
  | .disableLane => 0x1D
  | .cancelLane => 0x1E
  | .clearStage => 0x1F
  | .trackerStatus => 0x20
  | .ready => 0x22
  | .tally => 0x23
  | .reconfirm => 0x24
  | .startLoop => 0x26
  | .stopLoop => 0x27
  | .readLoop => 0x28
  | .readJournal => 0x2A
  | .circleTake => 0x2B
  | .uncircleTake => 0x2C
  | .trimJournal => 0x2D
  | .setLine => 0x2E
  | .readLines => 0x2F

/-- Every request kind, in the order of 11.2. -/
def allRequests : List Request :=
  [.identify, .portStatus, .configurePort, .fetchNotices, .setParameters, .readParameters, .requestGrant, .releaseGrant,
   .tableStatus, .insertCue, .amendCue, .deleteCue, .holdCue, .clearTable, .readCue, .nextCue] ++
  [.setProfile, .readProfile, .setLane, .readLane, .enableLane, .disableLane, .cancelLane, .clearStage, .trackerStatus,
   .ready, .tally, .reconfirm, .startLoop, .stopLoop, .readLoop, .readJournal, .circleTake, .uncircleTake, .trimJournal,
   .setLine, .readLines]

/-- Whether a kind byte is a request kind; a code absent from the request columns of 11.2, an answer code, a notice code
and 0xFF are none (R188). -/
def isRequestCode (k : Byte) : Bool := allRequests.any fun r => r.code == k

/-- Whether a body's length fits the kind (11.2, R188). For INSERT CUE and AMEND CUE it is 17 plus the text length byte. -/
def Request.lengthFits (k : Request) (b : List Byte) : Bool :=
  match k with
  | .identify => b.length == 0
  | .portStatus => b.length == 1
  | .configurePort => b.length == 5
  | .fetchNotices => b.length == 0
  | .setParameters => b.length == 8
  | .readParameters => b.length == 0
  | .requestGrant => b.length == 0
  | .releaseGrant => b.length == 0
  | .tableStatus => b.length == 0
  | .insertCue => b.length == 17 + byteAt b 16
  | .amendCue => b.length == 17 + byteAt b 16
  | .deleteCue => b.length == 2
  | .holdCue => b.length == 3
  | .clearTable => b.length == 0
  | .readCue => b.length == 2
  | .nextCue => b.length == 2
  | .setProfile => b.length == 8
  | .readProfile => b.length == 1
  | .setLane => b.length == 7
  | .readLane => b.length == 1
  | .enableLane => b.length == 1
  | .disableLane => b.length == 1
  | .cancelLane => b.length == 1
  | .clearStage => b.length == 0
  | .trackerStatus => b.length == 0
  | .ready => b.length == 2
  | .tally => b.length == 1
  | .reconfirm => b.length == 0
  | .startLoop => b.length == 4
  | .stopLoop => b.length == 1
  | .readLoop => b.length == 1
  | .readJournal => b.length == 3
  | .circleTake => b.length == 3
  | .uncircleTake => b.length == 3
  | .trimJournal => b.length == 1
  | .setLine => b.length == 5
  | .readLines => b.length == 0

/-- What a request needs of its port (R178). -/
inductive Need where
  | nothing
  | edit
  | editGrant
  | record
  | editOrRecord
  deriving DecidableEq, Repr

/-- What each kind needs (R178). -/
def Request.need : Request → Need
  | .identify => .nothing
  | .portStatus => .nothing
  | .configurePort => .editGrant
  | .fetchNotices => .nothing
  | .setParameters => .edit
  | .readParameters => .nothing
  | .requestGrant => .edit
  | .releaseGrant => .nothing
  | .tableStatus => .nothing
  | .insertCue => .editGrant
  | .amendCue => .editGrant
  | .deleteCue => .editGrant
  | .holdCue => .editGrant
  | .clearTable => .editGrant
  | .readCue => .nothing
  | .nextCue => .nothing
  | .setProfile => .editGrant
  | .readProfile => .nothing
  | .setLane => .editGrant
  | .readLane => .nothing
  | .enableLane => .edit
  | .disableLane => .edit
  | .cancelLane => .edit
  | .clearStage => .edit
  | .trackerStatus => .nothing
  | .ready => .nothing
  | .tally => .nothing
  | .reconfirm => .record
  | .startLoop => .edit
  | .stopLoop => .edit
  | .readLoop => .nothing
  | .readJournal => .nothing
  | .circleTake => .editOrRecord
  | .uncircleTake => .editOrRecord
  | .trimJournal => .editGrant
  | .setLine => .editGrant
  | .readLines => .nothing

/-- Whether the roles meet the need (R178, test 3). -/
def Need.roleMet (x : Need) (r : Roles) : Bool :=
  match x with
  | .nothing => true
  | .edit => r.edit
  | .editGrant => r.edit
  | .record => r.record
  | .editOrRecord => r.edit || r.record

/-- Whether the need includes the grant (R178, test 4). -/
def Need.wantsGrant : Need → Bool
  | .nothing => false
  | .edit => false
  | .editGrant => true
  | .record => false
  | .editOrRecord => false

/-! ### Position words (R41, R42) -/

/-- The six body bytes of a word, valid or bad (R42). -/
def wordOf (b : List Byte) : Option PositionWord :=
  if byteSum b = 0 ∧ 1 ≤ byteAt b 0 ∧ byteAt b 0 ≤ 99 ∧ frameAt b 1 ≤ Config.lastFrame then
    (motionOf (byteAt b 4)).map fun m => { reel := byteAt b 0, frame := frameAt b 1, motion := m }
  else none

/-! ### Fields of a cue (11.5) -/

/-- The supplied fields of INSERT CUE and AMEND CUE, as received. -/
structure CueFields where
  number : Nat
  lane : Nat
  reel : Nat
  inFrame : Nat
  outFrame : Nat
  profile : Nat
  group : Nat
  character : Nat
  record : Nat
  hold : Nat
  takeLimit : Nat
  slate : List Byte
  deriving DecidableEq, Repr

/-- The fields at their places in the body (11.5). -/
def cueFields (b : List Byte) : CueFields where
  number := wordAt b 0
  lane := byteAt b 2
  reel := byteAt b 3
  inFrame := frameAt b 4
  outFrame := frameAt b 7
  profile := byteAt b 10
  group := byteAt b 11
  character := byteAt b 12
  record := byteAt b 13
  hold := byteAt b 14
  takeLimit := byteAt b 15
  slate := b.drop 17

/-- The field check (R5): the record the fields make, with a take count and a circled take given, or none when any field
lies outside the values of R1. -/
def cueOf (f : CueFields) (count : Nat) (circled : Option Nat) : Option CueRecord :=
  if 1 ≤ f.number ∧ f.number ≤ 65535 ∧ 1 ≤ f.reel ∧ f.reel ≤ 99 ∧ f.inFrame ≤ Config.lastFrame ∧
      f.inFrame < f.outFrame ∧ f.outFrame ≤ f.inFrame + 14400 ∧ f.outFrame ≤ Config.lastFrame ∧
      f.group ≤ 16 ∧ f.character ≤ 255 ∧ 1 ≤ f.takeLimit ∧ f.takeLimit ≤ 99 ∧
      f.slate.length ≤ 24 ∧ f.slate.all isPrintable then
    match laneOf f.lane, profileOf f.profile, boolOf f.record, boolOf f.hold with
    | some l, some q, some r, some h =>
      some { number := f.number, lane := l, reel := f.reel, inFrame := f.inFrame, outFrame := f.outFrame, profile := q,
             group := groupOf f.group, character := f.character, record := r, hold := h, takeLimit := f.takeLimit,
             takeCount := count, circled := circled, slate := f.slate }
    | _, _, _, _ => none
  else none

end Sys2Proof.Machine
end

