-- ==== Sys2Proof/Machine/Encode.lean ====
section
/-! DEFINITION. Machine/Encode.lean: the bytes of answers, notices, frames and overlay words (R187, R189, chapter 11). -/

namespace Sys2Proof.Machine

/-! ### Numbers -/

def num1 (n : Nat) : List Byte := [BitVec.ofNat 8 n]
def num2 (n : Nat) : List Byte := [BitVec.ofNat 8 (n / 256), BitVec.ofNat 8 n]
def num3 (n : Nat) : List Byte := [BitVec.ofNat 8 (n / 65536), BitVec.ofNat 8 (n / 256), BitVec.ofNat 8 n]

/-- OFF/ON, NO/YES, CLEAR/SET. -/
def encBool (b : Bool) : List Byte := num1 (if b then 1 else 0)

/-! ### Absent values (R187) -/

/-- A lane, port, channel or tone line, absent as 0xFF. -/
def encIndex {n : Nat} (x : Option (Fin n)) : List Byte :=
  match x with
  | none => num1 0xFF
  | some i => num1 i.val

/-- A frame, absent as 0xFFFFFF. -/
def encFrame (x : Option Nat) : List Byte :=
  match x with
  | none => num3 0xFFFFFF
  | some n => num3 n

/-- A sequence number, absent as 0. -/
def encSequence (x : Option Nat) : List Byte := num3 (x.getD 0)
/-- A reel, take number, circled take or pass, absent as 0. -/
def encSmall (x : Option Nat) : List Byte := num1 (x.getD 0)
/-- A cue number, absent as 0. -/
def encCue (x : Option Nat) : List Byte := num2 (x.getD 0)
/-- A loop group by its number, absent as 0. -/
def encGroup (x : Option GroupId) : List Byte :=
  match x with
  | none => num1 0
  | some g => num1 (groupNumber g)

/-! ### Enumeration codes (11.4) -/

def Status.code : Status → Nat
  | .ok => 0x00
  | .queued => 0x01
  | .already => 0x02
  | .role => 0x03
  | .noGrant => 0x04
  | .notHeld => 0x05
  | .range => 0x06
  | .noCue => 0x07
  | .duplicate => 0x08
  | .tableFull => 0x09
  | .laneOverlap => 0x0A
  | .pinned => 0x0B
  | .busy => 0x0C
  | .noTransport => 0x0D
  | .notFound => 0x0E
  | .notRecording => 0x0F
  | .wrongPort => 0x10
  | .unknownKind => 0x11
  | .length => 0x12

def FrameFailure.code : FrameFailure → Nat
  | .badLength => 0x01
  | .noStopBit => 0x02
  | .timeout => 0x03
  | .badSum => 0x04

def Roles.code (r : Roles) : Nat :=
  (if r.edit then 1 else 0) + (if r.record then 2 else 0) + (if r.transport then 4 else 0)

def Subscription.code (x : Subscription) : Nat :=
  (if x.table then 0x01 else 0) + (if x.grant then 0x02 else 0) + (if x.tracker then 0x04 else 0) +
    (if x.lane then 0x08 else 0) + (if x.loop then 0x10 else 0) + (if x.journal then 0x20 else 0) +
    (if x.lines then 0x40 else 0)

def Rate.code : Rate → Nat
  | .b38400 => 0
  | .b115200 => 1
  | .b230400 => 2
  | .b460800 => 3
  | .b921600 => 4

def Motion.code : Motion → Nat
  | .still => 0
  | .playFwd => 1
  | .playRev => 2
  | .variFwd => 3
  | .variRev => 4
  | .shuttle => 5

def TrackerMode.code : TrackerMode → Nat
  | .idle => 0
  | .acquiring => 1
  | .locked => 2
  | .freewheel => 3
  | .parked => 4
  | .scanning => 5

def TrackerCause.code : TrackerCause → Nat
  | .lock => 0
  | .jump => 1
  | .reel => 2
  | .loss => 3
  | .still => 4
  | .scan => 5
  | .signal => 6

def DerivedStatus.code : DerivedStatus → Nat
  | .opened => 0
  | .held => 1
  | .closed => 2

def LaneMode.code : LaneMode → Nat
  | .off => 0
  | .standby => 1
  | .armed => 2
  | .leadin => 3
  | .take => 4
  | .tail => 5

def RevokeCause.code : RevokeCause → Nat
  | .idle => 0
  | .detach => 1

def TableCause.code : TableCause → Nat
  | .release => 0
  | .revoke => 1

def TakeOutcome.code : TakeOutcome → Nat
  | .complete => 0
  | .stopped => 1
  | .cancelled => 2
  | .broken => 3

def PunchReason.code : PunchReason → Nat
  | .finish => 0
  | .stop => 1
  | .cancel => 2
  | .yield => 3
  | .broken => 4

def PunchMode.code : PunchMode → Nat
  | .idle => 0
  | .dry _ => 1
  | .queued _ => 2
  | .recording _ _ => 3
  | .broken _ => 4

def DryReason.code : DryReason → Nat
  | .noRecorder => 1
  | .reconfirm => 2
  | .notReady => 3
  | .portBehind => 4
  | .notSent => 5

def LoopMode.code : LoopMode → Nat
  | .idle => 0
  | .locating => 1
  | .running => 2
  | .draining => 3
  | .done => 4
  | .failed => 5

def LoopCause.code : LoopCause → Nat
  | .none => 0
  | .start => 1
  | .lock => 2
  | .spanEnd => 3
  | .pass => 4
  | .limit => 5
  | .exhausted => 6
  | .reels => 7
  | .locateTimeout => 8
  | .rollLost => 9
  | .transportLost => 10
  | .stopRequest => 11
  | .stopLine => 12
  | .clear => 13

def InputFunction.code : InputFunction → Nat
  | .none => 0x00
  | .directorHold => 0x01
  | .loopStop => 0x02
  | .actorReady l => 0x10 + l.val
  | .circleLast l => 0x20 + l.val

def OutputFunction.code : OutputFunction → Nat
  | .none => 0x00
  | .rolling => 0x01
  | .loopActive => 0x02
  | .grantHeld => 0x03
  | .manualOn => 0x04
  | .manualOff => 0x05
  | .cueLight l => 0x10 + l.val
  | .recordTally l => 0x20 + l.val

def Trigger.code : Trigger → Nat
  | .edge => 0
  | .level => 1

def levelCode : Level → Nat
  | .low => 0
  | .high => 1

def Span.code : Span → Nat
  | .toIn => 0
  | .toOut => 1

def LinkState.code : LinkState → Nat
  | .normal => 0
  | .reconfirm => 1

/-- CIRCLED source: a port by its number, an input line 0x10 and up. -/
def CircleSource.code : CircleSource → Nat
  | .port p => p.val
  | .line i => 0x10 + i.val

/-- CIRCLED cue field: absent 0x00, NO_RECORD 0xFE. -/
def CueField.code : CueField → Nat
  | .noRecord => 0xFE
  | .field c => c.getD 0

/-- A dry reason, absent as 0. -/
def encDry (x : Option DryReason) : Nat :=
  match x with
  | none => 0
  | some r => r.code

/-- The journal flags mask (11.4), CIRCLED given beside the others. -/
def Flags.mask (f : Flags) (circled : Bool) : Nat :=
  (if f.freewheeled then 0x0001 else 0) + (if f.wipeLate then 0x0002 else 0) + (if f.wipeDropped then 0x0004 else 0) +
    (if f.tailCut then 0x0008 else 0) + (if f.tailShort then 0x0010 else 0) +
    (match f.dry with
      | none => 0
      | some .noRecorder => 0x0020
      | some .reconfirm => 0x0040
      | some .notReady => 0x0080
      | some .portBehind => 0x0100
      | some .notSent => 0x0200) +
    (if circled then 0x0400 else 0)

/-- A loop group and pass, absent as 0 and 0. -/
def encLoop (x : Option LoopPass) : List Byte :=
  match x with
  | none => [0, 0]
  | some y => num1 (groupNumber y.group) ++ num1 y.pass

/-- A text: its length and its characters (R187). -/
def encText (t : List Byte) : List Byte := num1 t.length ++ t

/-- A published position, absent as reel 0 and frame 0xFFFFFF. -/
def encPosition (x : Option Position) : List Byte :=
  match x with
  | none => num1 0 ++ encFrame none
  | some q => num1 q.reel ++ num3 q.frame

/-! ### Ordinary notices (kinds of 11.2, fields of the owning rules) -/

def Notice.kind : Notice → Byte
  | .granted _ _ _ => 0x40
  | .revoked _ _ _ => 0x41
  | .tableState _ _ _ _ => 0x42
  | .trackerState _ _ _ => 0x43
  | .cueArmed _ _ _ _ _ _ _ _ => 0x44
  | .cycleEnded _ _ _ _ _ _ _ => 0x45
  | .loopState _ _ _ _ _ => 0x46
  | .circled _ _ _ _ _ _ _ => 0x47
  | .journalFull _ _ _ _ => 0x48
  | .journalSealed _ _ => 0x49
  | .lineChange _ _ _ _ _ => 0x4A

def Notice.body : Notice → List Byte
  | .granted h w g => num1 h.val ++ num1 w ++ num2 g.toNat
  | .revoked p c u => num1 p.val ++ num1 c.code ++ encBool u
  | .tableState k g p c => encBool k ++ num2 g.toNat ++ num1 p.val ++ num1 c.code
  | .trackerState m q c => num1 m.code ++ encPosition q ++ num1 c.code
  | .cueArmed l c r reel lead inF t g =>
    num1 l.val ++ num2 c ++ num1 (if r.isSome then 1 else 0) ++ encCue r ++ num1 reel ++ num3 lead ++ num3 inF ++ num1 t ++ encGroup g
  | .cycleEnded l c t o r q m =>
    num1 l.val ++ num2 c ++ num1 t ++ num1 o.code ++ encBool r ++ encSequence q ++ num1 m.code
  | .loopState g m n c q => num1 (groupNumber g) ++ num1 m.code ++ num1 n ++ num1 c.code ++ encPosition q
  | .circled q c t l k o f => num3 q ++ num2 c ++ num1 t ++ num1 l.val ++ encBool k ++ num1 o.code ++ num1 f.code
  | .journalFull q c t k => num3 q ++ num2 c ++ num1 t ++ encBool k
  | .journalSealed q n => num3 q ++ num2 n
  | .lineChange i v a f h => num1 i.val ++ num1 (levelCode v) ++ encBool a ++ num1 f.code ++ encBool h

/-- A notice as FETCH NOTICES carries it: a length byte, its kind and its body (R189). -/
def Notice.entry (n : Notice) : List Byte := num1 (1 + n.body.length) ++ [n.kind] ++ n.body

/-! ### Priority notices (11.6) -/

def PriorityNotice.kind : PriorityNotice → Byte
  | .punchIn _ _ _ _ _ _ _ => 0x50
  | .punchOut _ _ _ _ _ => 0x51
  | .locate _ _ _ _ => 0x52
  | .halt _ _ => 0x53

def PriorityNotice.body : PriorityNotice → List Byte
  | .punchIn l c t ch reel f txt => num1 l.val ++ num2 c ++ num1 t ++ num1 ch ++ num1 reel ++ num3 f ++ encText txt
  | .punchOut l c t r f => num1 l.val ++ num2 c ++ num1 t ++ num1 r.code ++ num3 f
  | .locate g reel f n => num1 (groupNumber g) ++ num1 reel ++ num3 f ++ num1 n
  | .halt g c => num1 (groupNumber g) ++ num1 c.code

/-! ### Frames and words -/

/-- A client frame (11.1): sync, LEN, kind, body and the sum byte that brings them to 0 modulo 256. -/
def frameOf (kind : Byte) (body : List Byte) : List Byte :=
  let inner := num1 (1 + body.length) ++ [kind] ++ body
  [Config.frameSync] ++ inner ++ [0 - byteSum inner]

/-- The frame a transmitter sends for a message (R179). -/
def Sending.frame : Sending → List Byte
  | .notice n => frameOf n.kind n.body
  | .answer a => frameOf a.kind a.body

/-- Mode, colour and progress of a drawing, as the overlay word carries them (R109, 11.4). -/
def Drawing.fields : Drawing → List Byte
  | .blank => [0, 0, 0]
  | .wipe c g => num1 1 ++ num1 c ++ num1 g
  | .flash c => num1 2 ++ num1 c ++ num1 0

/-- An overlay word (R109, 11.8). -/
def overlayWordOf (c : ChannelId) (d : Drawing) : List Byte :=
  let inner := num1 c.val ++ d.fields
  [Config.overlaySync] ++ inner ++ [0 - byteSum inner]

/-- The bytes of a reply: the status and, after OK, QUEUED and ALREADY, its fields (R187). -/
def Reply.bytes (r : Reply) : List Byte := num1 r.status.code ++ r.fields

/-! ### Cue and journal bodies (11.5) -/

/-- The 17 + n bytes of a cue's supplied fields. -/
def CueRecord.supplied (c : CueRecord) : List Byte :=
  num2 c.number ++ num1 c.lane.val ++ num1 c.reel ++ num3 c.inFrame ++ num3 c.outFrame ++ num1 c.profile.val ++
    encGroup c.group ++ num1 c.character ++ encBool c.record ++ encBool c.hold ++ num1 c.takeLimit ++ encText c.slate

/-- A journal entry's 22 bytes. -/
def JournalEntry.bytes (e : JournalEntry) : List Byte :=
  num3 e.sequence ++ num2 e.cue ++ num1 e.lane.val ++ num1 e.reel ++ num1 e.take ++ num1 e.outcome.code ++ encBool e.recorded ++
    num2 (e.flags.mask e.circled) ++ num3 e.begin ++ num3 e.last ++ encIndex e.recordPort ++ num1 e.misses ++ encLoop e.loop

end Sys2Proof.Machine
end

