-- ==== Sys2Proof/Machine/Marks.lean ====
section
/-! DEFINITION. Machine/Marks.lean: the Mark Generator, the tone lines, the Overlay Arbiter and the overlay line (R94 to
R112). -/

namespace Sys2Proof.Machine

/-! ### The marks of a setup (R94, R95, R102) -/

/-- The mark phase at a frame (R95). -/
def MarkSetup.phaseAt (m : MarkSetup) (p : Nat) : MarkPhase :=
  if p < m.markRef then .leading else if p < m.markRef + m.flash then .flashing else .spent

/-- The pip whose first frame is `p` (R94, R97). -/
def MarkSetup.pipBeginning (m : MarkSetup) (p : Nat) : Option Nat :=
  ((List.range m.pips).find? fun i => p + (i + 1) * m.spacing == m.markRef).map fun i => i + 1

/-- The frame after the last one of pip `k` is `p` (R94, R97). -/
def MarkSetup.pipEnds (m : MarkSetup) (k p : Nat) : Bool := p + k * m.spacing == m.markRef + m.pipLength

/-- The bid start has been reached: m − W ≤ p (R97); with W = 0 the bid start is m. -/
def MarkSetup.bidOpen (m : MarkSetup) (p : Nat) : Bool := m.markRef ≤ p + m.wipe

/-- `p` is later than the bid start (R104). -/
def MarkSetup.late (m : MarkSetup) (p : Nat) : Bool := m.markRef < p + m.wipe

/-- The bid at a frame (R102). -/
def MarkSetup.bidAt (m : MarkSetup) (p : Nat) : Nat := m.priority * 16 + (15 - min 15 ((m.markRef - p) / 4))

/-- The wipe's progress at a frame, capped at 255 (R104, R105). -/
def MarkSetup.progress (m : MarkSetup) (p : Nat) : Nat := min 255 ((p + m.wipe - m.markRef) * 256 / m.wipe)

/-- What a grant at a frame draws (R104). -/
def MarkSetup.drawingAt (m : MarkSetup) (p : Nat) : Drawing :=
  if p < m.markRef then .wipe m.colour (m.progress p) else .flash m.colour

/-- The active pip after the evaluation at `p` (R97, step 1). -/
def MarkLane.pipAt (x : MarkLane) (m : MarkSetup) (p : Nat) : Option Nat :=
  match m.pipBeginning p with
  | some k => some k
  | none =>
    match x.pip with
    | none => none
    | some k => if m.pipEnds k p then none else some k

/-! ### Flags and channels -/

/-- The lane a hand-off comes from. -/
def Handoff.lane : Handoff → LaneId
  | .start l _ _ => l
  | .stop l _ => l

/-- The lane's first hand-off that waits. -/
def State.firstHandoff (s : State) (l : LaneId) : Option Handoff := s.handoffs.find? fun h => h.lane == l

/-- Whether the lane still runs the cycle of a cue. -/
def State.runsCycle (s : State) (l : LaneId) (cue : Nat) : Bool :=
  (s.lane l).mode.running && (s.lane l).cycle.any fun c => c.cue == cue

/-- The arbiter adds a flag to the cycle record the marks belong to (R104, R106); once the lane no longer runs that cycle there is
none to add it to (log 15). -/
def addMarkFlag (l : LaneId) (cue : Nat) (f : Flags → Flags) (s : State) : State :=
  if s.runsCycle l cue then modCycle l (fun c => { c with flags := f c.flags }) s else s

/-- A lane's bid state is set. -/
def setBid (l : LaneId) (b : BidState) (s : State) : State := s.setMarkLane l { s.markLane l with bid := b }

/-- A channel becomes BLANK with no holder (R105, R107). -/
def releaseChannel (c : ChannelId) (s : State) : State :=
  s.setChannel c { s.channel c with holder := none, drawing := .blank }

/-- A bid still open is closed and the wipe dropped (R106). -/
def dropWipe (l : LaneId) (cue : Nat) (s : State) : State :=
  addMarkFlag l cue (fun f => { f with wipeDropped := true }) (setBid l .closed s)

/-! ### Decision passes (R103, R104) -/

/-- A lane's bid, where it is BIDDING at or above the threshold (R103, R108). -/
def State.bidOf (s : State) (l : LaneId) : Option Nat :=
  match (s.markLane l).bid with
  | .bidding b => if s.params.bidThreshold ≤ b then some b else none
  | .idle => none
  | .waiting => none
  | .holding _ => none
  | .closed => none

/-- The better of the best bid so far and the next lane's; the lower lane wins between equals (R103). -/
def State.betterBid (s : State) (best : Option (LaneId × Nat)) (l : LaneId) : Option (LaneId × Nat) :=
  match s.bidOf l, best with
  | none, x => x
  | some b, none => some (l, b)
  | some b, some y => if y.2 < b then some (l, b) else some y

/-- The highest bid at or above the threshold (R103). -/
def State.bestBid (s : State) : Option (LaneId × Nat) := allLanes.foldl s.betterBid none

/-- The lowest-numbered free channel (R103). -/
def State.freeChannel (s : State) : Option ChannelId := allChannels.find? fun c => (s.channel c).holder.isNone

/-- A grant of a channel to a lane at a frame (R104). -/
def grantChannel (l : LaneId) (c : ChannelId) (p : Nat) (s : State) : State :=
  match (s.markLane l).setup with
  | none => s
  | some m =>
    let s1 := setBid l (.holding c) (s.setChannel c { s.channel c with holder := some l, drawing := m.drawingAt p })
    if m.late p then addMarkFlag l m.cue (fun f => { f with wipeLate := true }) s1 else s1

/-- A decision pass at a frame: at most as many grants as there are channels (R103). -/
def decisionGrants : Nat → Nat → State → State
  | 0, _, s => s
  | n + 1, p, s =>
    match s.freeChannel, s.bestBid with
    | some c, some b => decisionGrants n p (grantChannel b.1 c p s)
    | _, _ => s

/-- A decision pass (R103). -/
def decisionPass (p : Nat) (s : State) : State := decisionGrants 4 p s

/-! ### Evaluating a lane at a frame (R97) -/

/-- Steps 2 and 3 for a BIDDING lane: closed and dropped at m + F, else bidding afresh (R97, R106). -/
def evaluateBidding (l : LaneId) (m : MarkSetup) (p : Nat) (s : State) : State :=
  if m.markRef + m.flash ≤ p then dropWipe l m.cue s else setBid l (.bidding (m.bidAt p)) s

/-- Step 4: a HOLDING lane's channel is set for the frame, or released (R105). -/
def evaluateHolding (l : LaneId) (c : ChannelId) (m : MarkSetup) (p : Nat) (s : State) : State :=
  match m.phaseAt p with
  | .leading => s.setChannel c { s.channel c with drawing := .wipe m.colour (m.progress p) }
  | .flashing => s.setChannel c { s.channel c with drawing := .flash m.colour }
  | .spent => setBid l .closed (releaseChannel c s)
  | .none => s

/-- Steps 2 to 4 (R97). -/
def evaluateBid (l : LaneId) (m : MarkSetup) (p : Nat) (s : State) : State :=
  match (s.markLane l).bid with
  | .idle => s
  | .waiting => if m.bidOpen p then evaluateBidding l m p s else s
  | .bidding _ => evaluateBidding l m p s
  | .holding c => evaluateHolding l c m p s
  | .closed => s

/-- The evaluation of one lane at a frame, once at each frame (R97). -/
def evaluateLane (p : Nat) (s : State) (l : LaneId) : State :=
  let x := s.markLane l
  match x.setup with
  | none => s
  | some m =>
    if x.lastFrame = some p then s
    else evaluateBid l m p (s.setMarkLane l { x with lastFrame := some p, phase := m.phaseAt p, pip := x.pipAt m p })

/-! ### Tone lines (R99, R100) -/

/-- A pip of the lane begins on the tone line at the frame. -/
def State.pipBegins (s : State) (p : Nat) (t : ToneId) (l : LaneId) : Bool :=
  match (s.markLane l).setup with
  | none => false
  | some m => m.tone == some t && (s.markLane l).lastFrame != some p && (m.pipBeginning p).isSome

/-- The collisions that the beginning pips of these lanes add: `before` is the state before the evaluation, `after` the one
after it; a pip that was already active is one that is active after and did not begin (R100). -/
def collisionsAdded (ls : List LaneId) (p : Nat) (t : ToneId) (before after : State) : Nat :=
  let begins := ls.countP fun l => before.pipBegins p t l
  let active := allLanes.countP fun l => after.pipOn t l
  if begins < active then begins else begins - 1

/-- The tone lines' collision counts after an evaluation (R100). -/
def countCollisions (ls : List LaneId) (p : Nat) (before after : State) : State :=
  { after with marks := { after.marks with
      collisions := allTones.foldl
        (fun v (t : ToneId) => v.set t (satAdd v[t] (collisionsAdded ls p t before after))) after.marks.collisions } }

/-- These lanes are evaluated at a frame (R97, R100). -/
def evaluateLanes (ls : List LaneId) (p : Nat) (s : State) : State :=
  countCollisions ls p s (ls.foldl (evaluateLane p) s)

/-- The Mark Generator and the arbiter take a position advance (R97, R103). -/
def marksAdvance (p : Nat) (s : State) : State :=
  let s1 := evaluateLanes allLanes p s
  decisionPass p { s1 with marks := { s1.marks with frame := some p } }

/-! ### Hand-offs (R96, R98) -/

/-- The lane's marks as a start hand-off sets them (R96). -/
def startedMarkLane (m : MarkSetup) : MarkLane where
  setup := some m
  lastFrame := none
  phase := .leading
  pip := none
  bid := if m.wipe = 0 ∧ m.flash = 0 then .closed else .waiting

/-- Whether a bid state is BIDDING. -/
def BidState.isBidding : BidState → Bool
  | .bidding _ => true
  | .idle => false
  | .waiting => false
  | .holding _ => false
  | .closed => false

/-- The start hand-off (R96). While the block has still to take the advance, the lane is evaluated with it; otherwise now,
with a decision pass when its bid opens. -/
def markStart (l : LaneId) (m : MarkSetup) (p : Nat) (s : State) : State :=
  let s1 := s.setMarkLane l (startedMarkLane m)
  if s.offered.marks then s1
  else
    let s2 := evaluateLanes [l] p s1
    if (s2.markLane l).bid.isBidding then decisionPass p s2 else s2

/-- The wipe of a lane that leaves TAKE with its bid open is dropped (R98, step 3; R106). -/
def dropAtExit (l : LaneId) (leftTake : Bool) (s : State) : State :=
  match (s.markLane l).setup with
  | none => s
  | some m => if leftTake && (s.markLane l).bid.isBidding then dropWipe l m.cue s else s

/-- The end hand-off (R98, R107). -/
def markEnd (l : LaneId) (leftTake : Bool) (s : State) : State :=
  match (s.markLane l).channel with
  | none => (dropAtExit l leftTake s).setMarkLane l idleMarkLane
  | some c =>
    let s1 := (releaseChannel c s).setMarkLane l idleMarkLane
    decisionPass (s1.marks.frame.getD 0) s1

/-- A hand-off to the Mark Generator waits behind the earlier ones (R96, R98). -/
def State.handOff (s : State) (h : Handoff) : State := { s with handoffs := s.handoffs ++ [h] }

/-- A hand-off is taken (R96, R98). -/
def runHandoff (s : State) (h : Handoff) : State :=
  match h with
  | .start l m p => markStart l m p s
  | .stop l leftTake => markEnd l leftTake s

/-- Every hand-off that waits is taken, in order. -/
def runHandoffs (s : State) : State :=
  s.handoffs.foldl (fun t h => runHandoff { t with handoffs := t.handoffs.tail } h) s

/-- The hand-offs without the lane's first one. -/
def dropHandoff (l : LaneId) : List Handoff → List Handoff
  | [] => []
  | h :: hs => if h.lane = l then hs else h :: dropHandoff l hs

/-- MARK_START_HANDOFF: the lane's next hand-off is taken when it is a start (R96). -/
def takeStartHandoff (l : LaneId) (s : State) : State :=
  match s.firstHandoff l with
  | none => s
  | some (.start k m p) => markStart k m p { s with handoffs := dropHandoff l s.handoffs }
  | some (.stop _ _) => s

/-- MARK_END_HANDOFF, and the end of a cycle whose exit from TAKE still waits: the lane's next hand-off is taken when it is an end (R98). -/
def takeEndHandoff (l : LaneId) (s : State) : State :=
  match s.firstHandoff l with
  | none => s
  | some (.stop k leftTake) => markEnd k leftTake { s with handoffs := dropHandoff l s.handoffs }
  | some (.start _ _ _) => s

/-! ### The overlay line (R110) -/

/-- The lowest-numbered channel whose state differs from its last word sent (R110). -/
def State.channelToSend (s : State) : Option ChannelId :=
  allChannels.find? fun c => (s.channel c).lastSent != some (s.channel c).drawing

/-- The line is free: a word for that channel begins, or the line idles (R110). -/
def sendOverlayWord (s : State) : State :=
  match s.channelToSend with
  | none => s
  | some c =>
    let x := s.channel c
    let s1 := s.setChannel c { x with lastSent := some x.drawing }
    { s1 with marks := { s1.marks with ovl := some (overlayWordOf c x.drawing) } }

/-- CLEAR STAGE on the marks: every setup discarded, every channel BLANK with no holder, no decision pass, no flag; the
hand-offs that wait go with them (R112). -/
def clearMarks (s : State) : State :=
  let s1 := allChannels.foldl (fun t c => releaseChannel c t) s
  { s1 with handoffs := [], marks := { s1.marks with lanes := Vector.replicate 8 idleMarkLane } }

end Sys2Proof.Machine
end

