-- ==== Sys2Proof/Machine/Table.lean ====
section
/-! DEFINITION. Machine/Table.lean: the Cue Table's order, checks, derived frames, offers and queries (R2 to R6, R19 to
R23). Claims that let go of a pin are in Machine/Lanes.lean, after the Loop Controller that hears of them (R141). -/

namespace Sys2Proof.Machine

/-- Table order (R2): by reel, then in frame, then cue number. -/
def cueBefore (a b : CueRecord) : Bool :=
  decide (a.reel < b.reel) ||
    (a.reel == b.reel && (decide (a.inFrame < b.inFrame) || (a.inFrame == b.inFrame && decide (a.number < b.number))))

/-- A record takes its place in table order (R2). -/
def placeCue (c : CueRecord) : List CueRecord → List CueRecord
  | [] => [c]
  | x :: xs => if cueBefore c x then c :: x :: xs else x :: placeCue c xs

/-- The records without the one of a cue number. -/
def dropCue (n : Nat) (rs : List CueRecord) : List CueRecord := rs.filter fun c => c.number != n

/-- One record changed in place, by cue number; its place in table order is kept. -/
def changeCue (n : Nat) (f : CueRecord → CueRecord) (rs : List CueRecord) : List CueRecord :=
  rs.map fun c => if c.number == n then f c else c

/-- The overlap check (R6): another record of the same lane and reel shares a frame with the window. -/
def overlaps (c : CueRecord) (rs : List CueRecord) : Bool :=
  rs.any fun x => x.number != c.number && x.lane == c.lane && x.reel == c.reel &&
    decide (c.inFrame ≤ x.outFrame) && decide (x.inFrame ≤ c.outFrame)

/-- The derived frames of a cue, from its profile and an advance (R4). -/
def framesOf (c : CueRecord) (q : Profile) (a : Nat) : DerivedFrames where
  leadIn := c.inFrame - max (max (q.wipe + a) (q.pips * q.spacing + a)) (max q.recordLead 1)
  punchIn := c.inFrame - q.recordLead
  markRef := c.inFrame - a
  cycleEnd := min (c.outFrame + q.tail) Config.lastFrame

/-- The derived frames as the table works them out now: the profile's current values and the current advance of the lane
the record names (R4). -/
def State.frames (s : State) (c : CueRecord) : DerivedFrames :=
  framesOf c (s.profile c.profile) (s.lane c.lane).routing.advance

/-- The loop-group test of R19: with a group active, the record is its member. -/
def State.groupAllows (s : State) (c : CueRecord) : Bool :=
  match s.activeGroup with
  | none => true
  | some g => c.group == some g

/-- Eligibility (R19). -/
def State.eligible (s : State) (l : LaneId) (reel frame : Nat) (c : CueRecord) : Bool :=
  !s.isPinned c.number && c.lane == l && c.reel == reel && !c.hold && decide (c.takeCount < c.takeLimit) &&
    decide (frame < (s.frames c).leadIn) && s.groupAllows c

/-- The offer (R19) and the look-ahead query (R22): the eligible record that comes first in table order. -/
def State.offer (s : State) (l : LaneId) (reel frame : Nat) : Option CueRecord :=
  s.table.records.find? fun c => s.eligible l reel frame c

/-- The offer of a re-arming claim: the lane's own cue counts as eligible whatever its hold, its pin and its place, but
meets the loop-group test (R21). -/
def State.reoffer (s : State) (l : LaneId) (reel frame own : Nat) : Option CueRecord :=
  s.table.records.find? fun c =>
    if c.number == own then
      c.lane == l && c.reel == reel && decide (c.takeCount < c.takeLimit) && s.groupAllows c
    else s.eligible l reel frame c

/-- The record that follows a cue in table order, or the first for 0 (R14): none when the start is not in the table. -/
def nextInOrder (start : Nat) : List CueRecord → Option (Option CueRecord)
  | [] => none
  | c :: cs => if c.number == start then some cs.head? else nextInOrder start cs

/-- The set circled take claim (R23). -/
def setCircled (cue take : Nat) (s : State) : State :=
  s.setRecords (changeCue cue (fun c => { c with circled := some take }) s.table.records)

/-- The clear circled take claim (R23). -/
def clearCircled (cue take : Nat) (s : State) : State :=
  s.setRecords (changeCue cue (fun c => if c.circled = some take then { c with circled := none } else c) s.table.records)

/-- The clear all circled takes claim (R23). -/
def clearAllCircled (s : State) : State :=
  s.setRecords (s.table.records.map fun c => { c with circled := none })

/-- A cue's circled take field as the journal reports it (R154, R157). -/
def State.cueField (s : State) (cue : Nat) : CueField :=
  match s.record cue with
  | none => .noRecord
  | some c => .field c.circled

/-- The READ CUE fields that follow the status (R13, 11.5). -/
def State.cueAnswer (s : State) (c : CueRecord) : List Byte :=
  let d := s.frames c
  c.supplied ++ num1 c.takeCount ++ encSmall c.circled ++ num1 c.status.code ++ encIndex (s.pinnedBy c.number) ++
    num3 d.leadIn ++ num3 d.punchIn ++ num3 d.markRef ++ num3 d.cycleEnd

end Sys2Proof.Machine
end

