-- ==== Sys2Proof/Machine/GrantArbiter.lean ====
section
/-! DEFINITION. Machine/GrantArbiter.lean: giving, releasing and revoking the edit grant (R26 to R40). -/

namespace Sys2Proof.Machine

/-- The grant idle timer at its full length (R34). -/
def State.fullIdle (s : State) : Timer := seconds s.params.grantTimeout

/-- The holder, flag and timer as giving the grant sets them (R28). -/
def State.grantTo (s : State) (p : PortId) : State :=
  { s with grant := { s.grant with holder := some p, changed := false, idle := s.fullIdle } }

/-- The GRANTED notice for the state as it stands (R39). -/
def State.grantedNotice (s : State) (p : PortId) : Notice := .granted p s.grant.waiting.length s.table.generation

/-- The grant is given at once on its request: GRANTED goes to the other subscribers of GRANT (R28). -/
def giveAtOnce (p : PortId) (s : State) : State :=
  let s1 := s.grantTo p
  postGrantExcept p (s1.grantedNotice p) s1

/-- The grant is passed to the first waiter, if any: GRANTED goes to it and to the subscribers of GRANT (R28, R30, R34). -/
def passGrant (s : State) : State :=
  match s.grant.waiting with
  | [] => s
  | w :: ws =>
    let s1 := State.grantTo { s with grant := { s.grant with waiting := ws } } w
    postGrantTo w (s1.grantedNotice w) s1

/-- No holder, the flag OFF, the timer stopped; the wait list stands (R30, R34). -/
def State.freeGrant (s : State) : State :=
  { s with grant := { s.grant with holder := none, changed := false, idle := .stopped } }

/-- The table as a release leaves it (R30): CONFIRMED, the generation stepped when the flag was ON. -/
def CueTable.afterRelease (t : CueTable) (changed : Bool) : CueTable :=
  { t with confirmed := true, generation := if changed then t.generation + 1 else t.generation }

/-- RELEASE GRANT from the holder `p` (R30): the table, TABLE STATE if state or generation changed, the grant freed, and
passed on. -/
def releaseByHolder (p : PortId) (s : State) : State :=
  let t := s.table.afterRelease s.grant.changed
  let s1 : State := { s with table := t }
  let s2 := if s.grant.changed || !s.table.confirmed then post .table (.tableState t.confirmed t.generation p .release) s1 else s1
  passGrant s2.freeGrant

/-- The grant is revoked from its holder `p` (R34, R36): REVOKED, then the table and TABLE STATE, then the grant freed and
passed on. A port that has detached takes none of the notices (R175). -/
def revoke (p : PortId) (cause : RevokeCause) (s : State) : State :=
  let s1 := postGrantTo p (.revoked p cause s.grant.changed) s
  let s2 :=
    if s.grant.changed && s.table.confirmed then
      post .table (.tableState false s.table.generation p .revoke) { s1 with table := { s1.table with confirmed := false } }
    else s1
  passGrant s2.freeGrant

/-- A waiter leaves the list; the ports behind it move up (R29). -/
def State.leaveWaiting (s : State) (p : PortId) : State :=
  { s with grant := { s.grant with waiting := s.grant.waiting.filter fun q => q != p } }

/-- A detach acts on the arbiter (R36). -/
def grantDetach (p : PortId) (s : State) : State :=
  if s.grant.holder = some p then revoke p .detach s else s.leaveWaiting p

/-- The change flag is set ON by an edit answered OK (R12, R32). -/
def setChanged (s : State) : State := { s with grant := { s.grant with changed := true } }

/-- The holder's idle timer restarts when a request of the holder has been carried out (R34). -/
def restartIdle (p : PortId) (s : State) : State :=
  if s.grant.holder = some p then { s with grant := { s.grant with idle := s.fullIdle } } else s

/-- A waiter's place, 1 to 3 (R27). -/
def placeOf (p : PortId) (ws : List PortId) : Nat := ws.findIdx (fun q => q == p) + 1

end Sys2Proof.Machine
end

