-- ==== Sys2Proof/Machine/TakeJournal.lean ====
section
/-! DEFINITION. Machine/TakeJournal.lean: writing, evicting, circling and reading the take journal (R149 to R158). -/

namespace Sys2Proof.Machine

/-- The journal with new entries. -/
def State.setEntries (s : State) (es : List JournalEntry) : State := { s with journal := { s.journal with entries := es } }

/-- The list without its first entry that meets a test. -/
def dropFirst (f : JournalEntry → Bool) : List JournalEntry → List JournalEntry
  | [] => []
  | e :: es => if f e then es else e :: dropFirst f es

/-- The circled entry at the head is removed, the cue's field is cleared when no entry of its cue and take remains, and
JOURNAL FULL is posted (R153). -/
def evictCircled (e : JournalEntry) (rest : List JournalEntry) (s : State) : State :=
  let refers := !rest.any fun x => x.cue == e.cue && x.take == e.take
  let held := match s.record e.cue with
    | none => false
    | some c => c.circled == some e.take
  let s1 := s.setEntries rest
  let s2 := if refers then clearCircled e.cue e.take s1 else s1
  post .journal (.journalFull e.sequence e.cue e.take (refers && held)) s2

/-- A write into a full journal first removes one entry: the oldest uncircled one, else the oldest (R152, R153). -/
def makeRoom (s : State) : State :=
  if s.journal.entries.length < Config.journalCapacity then s
  else if s.journal.entries.any fun e => !e.circled then s.setEntries (dropFirst (fun e => !e.circled) s.journal.entries)
  else
    match s.journal.entries with
    | [] => s
    | e :: rest => evictCircled e rest s

/-- The entry joins the end of the list under its sequence number, which then steps, or the journal is sealed (R150, R151). -/
def appendEntry (n : Nat) (e : JournalEntry) (s : State) : State :=
  let es := s.journal.entries ++ [{ e with sequence := n, circled := false }]
  if n = Config.lastSequence then
    post .journal (.journalSealed n es.length) { s with journal := { entries := es, next := none, isSealed := true } }
  else { s with journal := { s.journal with entries := es, next := some (n + 1) } }

/-- A lane hands the journal an entry (R150): the state after and the sequence number issued, none when sealed. -/
def journalWrite (e : JournalEntry) (s : State) : State × Option Nat :=
  match s.journal.next with
  | none => (s, none)
  | some n => if s.journal.isSealed then (s, none) else (appendEntry n e (makeRoom s), some n)

/-- The newest entry that meets a test. -/
def State.newest (s : State) (f : JournalEntry → Bool) : Option JournalEntry := s.journal.entries.reverse.find? f

/-- CIRCLED is added to or taken from the entry of a sequence number. -/
def markEntry (sequence : Nat) (circled : Bool) (s : State) : State :=
  s.setEntries (s.journal.entries.map fun e => if e.sequence == sequence then { e with circled := circled } else e)

/-- A circle of an entry: the mark, the claim and the notice (R154, R156). -/
def circle (e : JournalEntry) (source : CircleSource) (s : State) : State :=
  let s1 := setCircled e.cue e.take (markEntry e.sequence true s)
  post .journal (.circled e.sequence e.cue e.take e.lane true source (s1.cueField e.cue)) s1

/-- An uncircle of an entry (R155). -/
def uncircle (e : JournalEntry) (source : CircleSource) (s : State) : State :=
  let s1 := clearCircled e.cue e.take (markEntry e.sequence false s)
  post .journal (.circled e.sequence e.cue e.take e.lane false source (s1.cueField e.cue)) s1

/-- An activation of a CIRCLE_LAST line circles the newest entry of its lane, if any (R156). -/
def circleLast (l : LaneId) (i : LineId) (s : State) : State :=
  match s.newest fun e => e.lane == l with
  | none => s
  | some e => circle e (.line i) s

end Sys2Proof.Machine
end

