-- ==== Sys2Proof/Machine/LoopController.lean ====
section
/-! DEFINITION. Machine/LoopController.lean: loop groups, spans, passes and transport notices (R133 to R148). -/

namespace Sys2Proof.Machine

/-- A member that the controller counts (R134). -/
def State.armable (s : State) (c : CueRecord) : Bool :=
  !c.hold && decide (c.takeCount < c.takeLimit) && (s.lane c.lane).mode != .off && !(s.lane c.lane).closing

/-- The armable members of a group, in table order (R134, the span query of R22). -/
def State.armableMembers (s : State) (g : GroupId) : List CueRecord :=
  s.table.records.filter fun c => c.group == some g && s.armable c

/-- Whether records lie on one reel (R135, R142). -/
def oneReel : List CueRecord → Bool
  | [] => true
  | c :: cs => cs.all fun x => x.reel == c.reel

/-- The span of a group's armable members (R136, item 4). -/
structure LoopSpan where
  reel : Nat
  first : Nat
  last : Nat
  deriving DecidableEq, Repr

/-- The least lead-in start and the greatest cycle end of the members, on the first one's reel (R136, items 3 and 4). -/
def State.spanOf (s : State) (cs : List CueRecord) : Option LoopSpan :=
  match cs with
  | [] => none
  | c :: rest =>
    some { reel := c.reel
           first := rest.foldl (fun n x => min n (s.frames x).leadIn) (s.frames c).leadIn
           last := rest.foldl (fun n x => max n (s.frames x).cycleEnd) (s.frames c).cycleEnd }

/-- The locate frame: the span start less the preroll, 0 if that is below 0 (R136, item 5). -/
def Group.locateFrame (x : Group) : Nat := x.spanStart.getD 0 - x.preroll

/-- The LOOP STATE notice of a group as it stands (R146). -/
def Group.notice (x : Group) (g : GroupId) : Notice :=
  .loopState g x.mode x.passes x.cause
    (if x.mode = .locating then some { reel := x.reel.getD 0, frame := x.locateFrame } else none)

/-- A group's state changes with its cause; the locate timer and flag stop unless the new state is LOCATING (R133); LOOP
STATE is posted (R146). -/
def loopChange (g : GroupId) (m : LoopMode) (c : LoopCause) (s : State) : State :=
  let x : Group := { s.group g with mode := m, cause := c }
  let s1 := s.setGroup g x
  let s2 : State := { s1 with loop := { s1.loop with locateTimer := .stopped, locateSent := false } }
  post .loop (x.notice g) s2

/-- A transport notice goes to the group's transport port (R137). -/
def postToTransport (g : GroupId) (n : PriorityNotice) (s : State) : State :=
  match (s.group g).port with
  | none => s
  | some p => postTransport p n s

/-- A change of state that stops the transport: HALT TRANSPORT with the cause, and LOOP STATE (R137, R146). -/
def loopHalt (g : GroupId) (m : LoopMode) (c : LoopCause) (s : State) : State :=
  loopChange g m c (postToTransport g (.halt g c) s)

/-- The group goes LOCATING over a span: LOCATE AND ROLL, the timer, LOOP STATE (R136, items 3 to 7; R142). -/
def loopLocate (g : GroupId) (c : LoopCause) (sp : LoopSpan) (s : State) : State :=
  let x : Group := { s.group g with reel := some sp.reel, spanStart := some sp.first, spanEnd := some sp.last,
                                    mode := .locating, cause := c }
  let s1 := postToTransport g (.locate g sp.reel x.locateFrame (x.passes + 1)) (s.setGroup g x)
  let s2 : State := { s1 with loop := { s1.loop with locateTimer := seconds s1.params.locateTimeout, locateSent := false } }
  post .loop (x.notice g) s2

/-- A pass ends: the pass count rises, stopping at 99, and the group takes its course (R142). -/
def passEnd (g : GroupId) (s : State) : State :=
  let x := s.group g
  let n := if x.passes < 99 then x.passes + 1 else x.passes
  let s1 := s.setGroup g { x with passes := n }
  let cs := s1.armableMembers g
  if x.limit ≠ 0 ∧ n = x.limit then loopHalt g .done .limit s1
  else
    match s1.spanOf cs with
    | none => loopHalt g .done .exhausted s1
    | some sp => if oneReel cs then loopLocate g .pass sp s1 else loopHalt g .failed .reels s1

/-- The Loop Controller takes the release of a pin on a cue: a DRAINING group of which it is a member ends its pass when
no member is pinned any more (R141). -/
def afterRelease (cue : Nat) (s : State) : State :=
  match s.activeGroup with
  | none => s
  | some g =>
    if (s.group g).mode = .draining ∧ (s.record cue).bind (fun c => c.group) = some g ∧ s.anyMemberPinned g = false then
      passEnd g s
    else s

/-- A lock entry (R138). -/
def loopTakeLock (pos : Position) (s : State) : State :=
  match s.activeGroup with
  | none => s
  | some g =>
    if (s.group g).mode = .locating ∧ s.loop.locateSent = true ∧ (s.group g).reel = some pos.reel ∧
        pos.frame < (s.group g).spanStart.getD 0 then
      loopChange g .running .lock s
    else s

/-- A position advance (R140). -/
def loopTakeFrame (frame : Nat) (s : State) : State :=
  match s.activeGroup with
  | none => s
  | some g =>
    if (s.group g).mode = .running ∧ (s.group g).spanEnd.getD 0 ≤ frame then
      if s.anyMemberPinned g then loopChange g .draining .spanEnd s else passEnd g s
    else s

/-- A roll lost (R140, R141). -/
def loopTakeLost (s : State) : State :=
  match s.activeGroup with
  | none => s
  | some g =>
    match (s.group g).mode with
    | .running => loopHalt g .failed .rollLost s
    | .draining => passEnd g s
    | .idle => s
    | .locating => s
    | .done => s
    | .failed => s

/-- An advance as the controller takes it: the lock entry it may carry and the advance are one event (R58, R138). -/
def loopTakeAdvance (a : Advance) (s : State) : State :=
  loopTakeFrame a.frame
    (match a.lock with
      | none => s
      | some _ => loopTakeLock { reel := a.reel, frame := a.frame } s)

/-- The active group is stopped (R144, R148): IDLE, HALT TRANSPORT, LOOP STATE. -/
def loopStopActive (c : LoopCause) (s : State) : State :=
  match s.activeGroup with
  | none => s
  | some g => loopHalt g .idle c s

/-- A detach of the active group's transport port (R145). -/
def loopDetach (p : PortId) (s : State) : State :=
  match s.activeGroup with
  | none => s
  | some g => if (s.group g).port = some p then loopChange g .failed .transportLost s else s

/-- The port tells the controller that it transmits a LOCATE AND ROLL (R137). -/
def loopLocateTaken (g : GroupId) (s : State) : State :=
  if s.activeGroup = some g ∧ (s.group g).mode = .locating then { s with loop := { s.loop with locateSent := true } } else s

/-- The lowest-numbered attached port with the TRANSPORT role (R136, item 2). -/
def State.transportPort (s : State) : Option PortId :=
  allPorts.find? fun p => (s.port p).attached && (s.port p).roles.transport

end Sys2Proof.Machine
end

