-- ==== Sys2Proof/Machine/PunchUnit.lean ====
section
/-! DEFINITION. Machine/PunchUnit.lean: the punch-in decision, the end of a take, tally checks, detach and roles (R113 to
R132). -/

namespace Sys2Proof.Machine

/-- A lane's record port: the port its routing record names, while that port is attached and has RECORD (R114). -/
def State.recordPort (s : State) (l : LaneId) : Option PortId :=
  match (s.lane l).routing.recordPort with
  | none => none
  | some p => if (s.port p).attached && (s.port p).roles.record then some p else none

/-- The punch port of a punch state, where it is present (R113). -/
def PunchMode.port : PunchMode → Option PortId
  | .idle => none
  | .dry _ => none
  | .queued p => some p
  | .recording p _ => some p
  | .broken p => some p

/-! ### Take begin -/

/-- The four tests of the punch-in decision, in order: the state they give, QUEUED or DRY (R117). -/
def State.punchChoice (s : State) (l : LaneId) : PunchMode :=
  match s.recordPort l with
  | none => .dry .noRecorder
  | some p =>
    if s.link p = .reconfirm then .dry .reconfirm
    else if (s.punchOf l).ready = false then .dry .notReady
    else if (s.port p).priority.any (fun n => n.isPunchOut l) then .dry .portBehind
    else .queued p

/-- The PUNCH IN of a begun take (R118). -/
def CycleRecord.punchInNotice (c : CycleRecord) (l : LaneId) : PriorityNotice :=
  .punchIn l c.cue (c.take.getD 0) c.character c.reel (c.begin.getD 0) c.slate

/-- The punch-in decision on a take that has begun (R116, R117). -/
def punchDecision (l : LaneId) (c : CycleRecord) (s : State) : State :=
  let m := s.punchChoice l
  let s1 := s.setPunch l { ready := false, mode := m, tallied := false, consecutive := 0, total := 0 }
  match m with
  | .queued p => postPunch p (c.punchInNotice l) s1
  | .idle => s1
  | .dry _ => s1
  | .recording _ _ => s1
  | .broken _ => s1

/-! ### Transmission and check points -/

/-- The least frame of the form punch frame + k × interval, k at least 1, above a frame (R119, R125). Near the end of a reel it
may lie above 1,048,575, outside the range of R113; the spec does not say what is set then, and the model sets it all the same
(DESIGN CHOICE, log 28). -/
def nextCheckPoint (punchFrame interval above : Nat) : Nat :=
  punchFrame + ((above - punchFrame) / interval + 1) * interval

/-- A lane's PUNCH IN is transmitted: a QUEUED take becomes RECORDING with its first check point (R119). -/
def punchInTaken (l : LaneId) (s : State) : State :=
  match (s.punchOf l).mode, (s.lane l).cycle with
  | .queued p, some c =>
    s.setPunch l { s.punchOf l with
      mode := .recording p (nextCheckPoint (c.begin.getD 0) s.params.tallyInterval c.last)
      tallied := false }
  | _, _ => s

/-- A take is broken: BROKEN on its punch port, and marked in the cycle record (R85, R127, R129). -/
def breakTake (l : LaneId) (p : PortId) (s : State) : State :=
  modCycle l (fun c => { c with broken := true }) (s.setPunch l { s.punchOf l with mode := .broken p })

/-- A tally failure: PUNCH OUT BROKEN, BROKEN, RECONFIRM, the cycle record (R127). -/
def tallyFailure (l : LaneId) (p : PortId) (s : State) : State :=
  let s1 :=
    match (s.lane l).cycle with
    | none => s
    | some c => postPunch p (.punchOut l c.cue (c.take.getD 0) .broken c.last) s
  breakTake l p (s1.setLink p .reconfirm)

/-- The check of a RECORDING lane whose check point is reached (R125, R127). -/
def tallyCheck (l : LaneId) (port : PortId) (frame : Nat) (s : State) : State :=
  let x := s.punchOf l
  let consecutive := if x.tallied then 0 else x.consecutive + 1
  let total := if x.tallied then x.total else min 255 (x.total + 1)
  let punchFrame := ((s.lane l).cycle.bind fun c => c.begin).getD 0
  let s1 := s.setPunch l
    { x with mode := .recording port (nextCheckPoint punchFrame s.params.tallyInterval frame)
             tallied := false, consecutive := consecutive, total := total }
  if s.params.missAllowance < consecutive then tallyFailure l port s1 else s1

/-- One lane at a position advance (R125). -/
def punchLaneAdvance (frame : Nat) (s : State) (l : LaneId) : State :=
  match (s.punchOf l).mode with
  | .recording p n => if n ≤ frame then tallyCheck l p frame s else s
  | .idle => s
  | .dry _ => s
  | .queued _ => s
  | .broken _ => s

/-- The Punch Unit takes a position advance (R125). Lanes whose check points fall on one advance are checked in the order L0 to L7,
which is also the order of their PUNCH OUT notices in one port's queue; the spec gives none (DESIGN CHOICE, log 27). -/
def punchAdvance (frame : Nat) (s : State) : State := allLanes.foldl (punchLaneAdvance frame) s

/-! ### Take end -/

/-- What the Punch Unit gives a lane at the end of a take (R120). -/
structure PunchEnd where
  recorded : Bool
  port : Option PortId
  misses : Nat
  dry : Option DryReason
  deriving DecidableEq, Repr

/-- The part of the end that the punch state alone gives (R120). -/
def PunchLane.ending (x : PunchLane) : PunchEnd :=
  match x.mode with
  | .idle => { recorded := false, port := none, misses := 0, dry := none }
  | .dry r => { recorded := false, port := none, misses := 0, dry := some r }
  | .queued _ => { recorded := false, port := none, misses := 0, dry := some .notSent }
  | .recording p _ => { recorded := true, port := some p, misses := x.total, dry := none }
  | .broken p => { recorded := true, port := some p, misses := x.total, dry := none }

/-- The pair cancel: the lane's PUNCH IN leaves the queue, the others keep their order (R122). -/
def pairCancel (l : LaneId) (p : PortId) (s : State) : State :=
  s.setPort p { s.port p with priority := (s.port p).priority.filter fun n => !n.isPunchIn l }

/-- The lane hands the end of a begun take (R120 to R122). -/
def punchEnd (l : LaneId) (c : CycleRecord) (reason : PunchReason) (s : State) : State :=
  let s1 :=
    match (s.punchOf l).mode with
    | .idle => s
    | .dry _ => s
    | .queued p => pairCancel l p s
    | .recording p _ => postPunch p (.punchOut l c.cue (c.take.getD 0) reason c.last) s
    | .broken _ => s
  s1.setPunch l { s1.punchOf l with mode := .idle }

/-! ### Detach and roles -/

/-- One lane at the detach of a port (R129). -/
def punchDetachLane (p : PortId) (s : State) (l : LaneId) : State :=
  let s1 :=
    match (s.punchOf l).mode with
    | .idle => s
    | .dry _ => s
    | .queued q => if q = p then s.setPunch l { s.punchOf l with mode := .dry .notSent } else s
    | .recording q _ => if q = p then breakTake l p s else s
    | .broken _ => s
  if (s1.lane l).routing.recordPort = some p then s1.setPunch l { s1.punchOf l with ready := false } else s1

/-- A detach acts on the Punch Unit (R129). -/
def punchDetach (p : PortId) (s : State) : State := allLanes.foldl (punchDetachLane p) s

/-- A lane's tallied value becomes NO at CLEAR STAGE (R132). -/
def clearTallied (s : State) (l : LaneId) : State := s.setPunch l { s.punchOf l with tallied := false }

/-- The recorder-ready flag of a lane becomes CLEAR (R116). -/
def clearReady (s : State) (l : LaneId) : State := s.setPunch l { s.punchOf l with ready := false }

/-- The flags of the lanes whose routing record names the port become CLEAR (R130). -/
def clearReadyOf (p : PortId) (s : State) : State :=
  allLanes.foldl (fun t l => if (t.lane l).routing.recordPort = some p then clearReady t l else t) s

/-- Whether some lane has the port as its punch port (R130). -/
def State.isPunchPort (s : State) (p : PortId) : Bool := allLanes.any fun l => (s.punchOf l).mode.port == some p

end Sys2Proof.Machine
end

