-- ==== Sys2Proof/Machine/Lanes.lean ====
section
/-! DEFINITION. Machine/Lanes.lean: the lanes' claims (R19 to R22) and the cue cycle against the position (R67 to R91). -/

namespace Sys2Proof.Machine

/-! ### Claims that let go of a pin (R21, R22), with what the Loop Controller makes of each release (R141) -/

/-- A lane's pin goes. -/
def State.unpin (s : State) (l : LaneId) : State := s.setLane l { s.lane l with pinned := none }

/-- The release claim (R22). -/
def releaseClaim (l : LaneId) (s : State) : State :=
  match (s.lane l).pinned with
  | none => s
  | some n => afterRelease n (s.unpin l)

/-- The take-end claim: the count rises and the pin goes in one step (R22). -/
def takeEndClaim (l : LaneId) (s : State) : State :=
  match (s.lane l).pinned with
  | none => s
  | some n =>
    afterRelease n ((s.setRecords (changeCue n (fun c => { c with takeCount := c.takeCount + 1 }) s.table.records)).unpin l)

/-! ### The cycle record -/

/-- A new cycle record, as pinning a cue at a published frame makes it (R68). -/
def State.freshCycle (s : State) (c : CueRecord) (p : Nat) : CycleRecord where
  cue := c.number
  reel := c.reel
  leadIn := (s.frames c).leadIn
  punchIn := (s.frames c).punchIn
  markRef := (s.frames c).markRef
  inFrame := c.inFrame
  outFrame := c.outFrame
  cycleEnd := (s.frames c).cycleEnd
  profile := c.profile
  record := c.record
  character := c.character
  slate := c.slate
  begun := false
  take := none
  begin := none
  last := p
  loop := none
  broken := false
  flags := Flags.empty

/-- The last frame becomes `p`, and a begun take gets FREEWHEELED on an advance that carries the mark (R82). -/
def CycleRecord.touch (c : CycleRecord) (a : Advance) : CycleRecord :=
  { c with last := a.frame
           flags := { c.flags with freewheeled := c.flags.freewheeled || (c.begun && a.freewheel) } }

/-- The CUE ARMED notice of a pin (R73). -/
def State.armedNotice (s : State) (l : LaneId) (c : CueRecord) (replaced : Option Nat) : Notice :=
  .cueArmed l c.number replaced c.reel (s.frames c).leadIn c.inFrame (c.takeCount + 1) c.group

/-! ### Arming (R72 to R74) -/

/-- The conditions of an arming claim (R72). -/
def State.mayArm (s : State) (l : LaneId) : Bool :=
  s.table.confirmed && !s.directorHold && !(s.lane l).closing && (!(s.lane l).routing.requireReady || s.laneReady l)

/-- A lane pins a cue from STANDBY (R20, R72). -/
def armCue (l : LaneId) (c : CueRecord) (p : Nat) (s : State) : State :=
  let s1 := s.setLane l { s.lane l with mode := .armed, pinned := some c.number, cycle := some (s.freshCycle c p) }
  post .lane (s.armedNotice l c none) s1

/-- The arming attempt (R72). -/
def armingAttempt (l : LaneId) (reel p : Nat) (s : State) : State :=
  if s.mayArm l then
    match s.offer l reel p with
    | none => s
    | some c => armCue l c p s
  else s

/-- The switch of a re-arming claim: the old pin goes and the new one is set in one step, then CUE ARMED (R21, R74). -/
def switchCue (l : LaneId) (old : Nat) (c : CueRecord) (p : Nat) (s : State) : State :=
  let s1 := afterRelease old (s.setLane l { s.lane l with pinned := some c.number })
  let s2 := s1.setLane l { s1.lane l with cycle := some (s.freshCycle c p) }
  post .lane (s.armedNotice l c (some old)) s2

/-- An ARMED lane lets its cue go without a take and enters a state (R70, R74, R83, R86). -/
def letGo (l : LaneId) (m : LaneMode) (s : State) : State :=
  let s1 := releaseClaim l s
  s1.setLane l { s1.lane l with cycle := none, closing := false, mode := m }

/-- The re-arming claim (R21, R74). -/
def rearm (l : LaneId) (reel p : Nat) (s : State) : State :=
  match (s.lane l).pinned with
  | none => s
  | some own =>
    match s.reoffer l reel p own with
    | none => letGo l .standby s
    | some c => if c.number = own then s else switchCue l own c p s

/-! ### Take begin (R77) -/

/-- The loop group and pass of a take that begins (R77). -/
def State.loopPassOf (s : State) (cue : Nat) : Option LoopPass :=
  match s.activeGroup with
  | none => none
  | some g =>
    if (s.record cue).bind (fun c => c.group) = some g then some { group := g, pass := (s.group g).passes + 1 } else none

/-- The cycle record of a take that begins at an advance (R77, R82). -/
def State.begunCycle (s : State) (c : CycleRecord) (a : Advance) : CycleRecord :=
  { c with begun := true
           take := (s.record c.cue).map fun r => r.takeCount + 1
           begin := some a.frame
           loop := s.loopPassOf c.cue
           flags := { c.flags with freewheeled := c.flags.freewheeled || a.freewheel } }

/-- The take begins; for a cue with record ON the Punch Unit takes its decision (R77). -/
def takeBegin (l : LaneId) (c : CycleRecord) (a : Advance) (s : State) : State :=
  let c1 := s.begunCycle c a
  let s1 := s.setLane l { s.lane l with cycle := some c1 }
  if c.record then punchDecision l c1 s1 else s1

/-- The take-begin test of a cue with record ON (R77). -/
def takeBeginTest (l : LaneId) (a : Advance) (s : State) : State :=
  match (s.lane l).cycle with
  | none => s
  | some c => if c.record = true ∧ c.begun = false ∧ c.punchIn ≤ a.frame then takeBegin l c a s else s

/-! ### Lead-in and take (R76, R78) -/

/-- The mark setup a lane hands over at its lead-in (R76, R95). -/
def State.markSetupOf (s : State) (l : LaneId) (c : CycleRecord) : MarkSetup where
  cue := c.cue
  markRef := c.markRef
  wipe := (s.profile c.profile).wipe
  pips := (s.profile c.profile).pips
  spacing := (s.profile c.profile).spacing
  pipLength := (s.profile c.profile).pipLength
  flash := (s.profile c.profile).flash
  tone := (s.lane l).routing.tone
  colour := (s.lane l).routing.colour
  priority := (s.lane l).routing.priority

/-- Entry into LEADIN, with the take-begin test within it (R76). -/
def enterLeadin (l : LaneId) (c : CycleRecord) (a : Advance) (s : State) : State :=
  let s1 := s.setLane l { s.lane l with mode := .leadin }
  takeBeginTest l a (s1.handOff (.start l (s.markSetupOf l c) a.frame))

/-- Entry into TAKE; the take of a cue with record OFF begins here (R77, R78). -/
def enterTake (l : LaneId) (c : CycleRecord) (a : Advance) (s : State) : State :=
  let s1 := s.setLane l { s.lane l with mode := .take }
  if c.record then s1 else takeBegin l c a s1

/-! ### Ending a cycle (R89, R90) -/

/-- How a begun take ends: the outcome when it was not broken, the PUNCH OUT reason, and the end's flag (R90). -/
structure CycleStop where
  outcome : TakeOutcome
  reason : PunchReason
  tailCut : Bool
  tailShort : Bool
  deriving DecidableEq, Repr

/-- The five ends of R90. -/
def stopAtEnd : CycleStop := { outcome := .complete, reason := .finish, tailCut := false, tailShort := false }
def stopByYield : CycleStop := { outcome := .complete, reason := .yield, tailCut := true, tailShort := false }
def stopInTail : CycleStop := { outcome := .complete, reason := .finish, tailCut := false, tailShort := true }
def stopByRollLost : CycleStop := { outcome := .stopped, reason := .stop, tailCut := false, tailShort := false }
def stopByCancel : CycleStop := { outcome := .cancelled, reason := .cancel, tailCut := false, tailShort := false }

/-- The outcome of a cycle: BROKEN in place of any other when the take was broken (R85, R90). -/
def CycleRecord.outcome (c : CycleRecord) (e : CycleStop) : TakeOutcome := if c.broken then .broken else e.outcome

/-- The journal entry built from a cycle record at its end (R89, step 3; R149). The journal gives the sequence. -/
def CycleRecord.entry (c : CycleRecord) (l : LaneId) (e : CycleStop) (x : PunchEnd) : JournalEntry where
  sequence := 0
  cue := c.cue
  lane := l
  reel := c.reel
  take := c.take.getD 0
  outcome := c.outcome e
  recorded := x.recorded
  flags :=
    { c.flags with
      tailCut := c.flags.tailCut || e.tailCut
      tailShort := c.flags.tailShort || e.tailShort
      dry := x.dry }
  circled := false
  begin := c.begin.getD 0
  last := c.last
  recordPort := x.port
  misses := x.misses
  loop := c.loop

/-- The state a lane enters when its cycle ends (R89, step 7). -/
def Lane.endMode (x : Lane) : LaneMode := if x.closing then .off else .standby

/-- What the Mark Generator is told at the end of a cycle (R89, step 2). A lane that has not left TAKE hands over its end, which the
block takes in its own time (R98). Of a lane that has, the exit is taken now if it still waits, so that the entry is written with
the flag the exit may bring (R98, R149; log 15). -/
def endMarks (l : LaneId) (told : Bool) (s : State) : State :=
  if told then takeEndHandoff l s else s.handOff (.stop l false)

/-- The end of a cycle from the journal entry on (R89, steps 3 to 8). -/
def finishCycle (l : LaneId) (e : CycleStop) (x : PunchEnd) (advance : Option Position) (c : CycleRecord) (s : State) : State :=
  let w := journalWrite (c.entry l e x) s
  let s1 := takeEndClaim l w.1
  let s2 := s1.setLane l { s1.lane l with readyLatch := false }
  let m := (s2.lane l).endMode
  let s3 := post .lane (.cycleEnded l c.cue (c.take.getD 0) (c.outcome e) x.recorded w.2 m) s2
  let s4 := s3.setLane l { s3.lane l with cycle := none, closing := false, mode := m }
  match advance with
  | none => s4
  | some q => if m = .standby then armingAttempt l q.reel q.frame s4 else s4

/-- The end of a cycle whose take began, in the order of R89. `told` says that the lane has already left TAKE; `advance` is
the reel and frame when the end is taken at a position advance. -/
def endCycle (l : LaneId) (e : CycleStop) (told : Bool) (advance : Option Position) (s : State) : State :=
  match (s.lane l).cycle with
  | none => s
  | some c =>
    let s1 := endMarks l told (punchEnd l c e.reason s)
    match (s1.lane l).cycle with
    | none => s1
    | some d => finishCycle l e (s.punchOf l).ending advance d s1

/-- A false start (R84). -/
def falseStart (l : LaneId) (s : State) : State :=
  let s1 := releaseClaim l (s.handOff (.stop l false))
  let x := s1.lane l
  s1.setLane l { x with falseStarts := satInc x.falseStarts, cycle := none, closing := false, mode := x.endMode }

/-! ### A position advance (R75) -/

/-- The tail-yield test (R81). -/
def tailYieldTest (l : LaneId) (a : Advance) (s : State) : State :=
  if (s.lane l).closing = false ∧ s.table.confirmed = true ∧ s.directorHold = false then
    match s.offer l a.reel a.frame with
    | none => s
    | some c =>
      if (s.frames c).leadIn = a.frame + 1 then endCycle l stopByYield true (some { reel := a.reel, frame := a.frame }) s
      else s
  else s

/-- An ARMED lane at an advance (R75, R76). -/
def armedAdvance (l : LaneId) (a : Advance) (s : State) : State :=
  let s1 := if s.table.confirmed then rearm l a.reel a.frame s else s
  match (s1.lane l).mode, (s1.lane l).cycle with
  | .armed, some c => if c.leadIn ≤ a.frame then enterLeadin l c a s1 else s1
  | _, _ => s1

/-- A LEADIN lane at an advance (R75, R77, R78). -/
def leadinAdvance (l : LaneId) (a : Advance) (s : State) : State :=
  let s1 := takeBeginTest l a s
  match (s1.lane l).cycle with
  | none => s1
  | some c => if c.inFrame ≤ a.frame then enterTake l c a s1 else s1

/-- A TAKE lane at an advance (R79). -/
def takeAdvance (l : LaneId) (a : Advance) (s : State) : State :=
  match (s.lane l).cycle with
  | none => s
  | some c =>
    if c.outFrame ≤ a.frame then
      let s1 := s.handOff (.stop l true)
      if c.cycleEnd ≤ a.frame then endCycle l stopAtEnd true (some { reel := a.reel, frame := a.frame }) s1
      else tailYieldTest l a (s1.setLane l { s1.lane l with mode := .tail })
    else s

/-- A TAIL lane at an advance (R80, R81). -/
def tailAdvance (l : LaneId) (a : Advance) (s : State) : State :=
  match (s.lane l).cycle with
  | none => s
  | some c =>
    if c.cycleEnd ≤ a.frame then endCycle l stopAtEnd true (some { reel := a.reel, frame := a.frame }) s
    else tailYieldTest l a s

/-- A lane takes a position advance (R75, R82). -/
def laneAdvance (l : LaneId) (a : Advance) (s : State) : State :=
  let touched := modCycle l (fun c => c.touch a) s
  match (s.lane l).mode with
  | .off => s
  | .standby => armingAttempt l a.reel a.frame s
  | .armed => armedAdvance l a touched
  | .leadin => leadinAdvance l a touched
  | .take => takeAdvance l a touched
  | .tail => tailAdvance l a touched

/-! ### Interruptions (R83 to R87) -/

/-- Whether the lane's take has begun. -/
def State.takeBegun (s : State) (l : LaneId) : Bool :=
  match (s.lane l).cycle with
  | none => false
  | some c => c.begun

/-- A lane takes a roll lost (R83). -/
def laneLost (l : LaneId) (s : State) : State :=
  match (s.lane l).mode with
  | .off => s
  | .standby => s
  | .armed => letGo l (s.lane l).endMode s
  | .leadin => if s.takeBegun l then endCycle l stopByRollLost false none s else falseStart l s
  | .take => endCycle l stopByRollLost false none s
  | .tail => endCycle l stopInTail true none s

/-- A lane's cycle is cancelled (R86, R87). -/
def laneCancel (l : LaneId) (s : State) : State :=
  match (s.lane l).mode with
  | .off => s
  | .standby => s
  | .armed => letGo l .standby s
  | .leadin => if s.takeBegun l then endCycle l stopByCancel false none s else falseStart l s
  | .take => endCycle l stopByCancel false none s
  | .tail => endCycle l stopByCancel true none s

/-- The take a cancel would end (R86): present when the lane's take has begun. -/
def State.takeToEnd (s : State) (l : LaneId) : Option Nat :=
  if (s.lane l).mode.running && s.takeBegun l then (s.lane l).cycle.bind fun c => c.take else none

/-- ENABLE LANE (R69). -/
def laneEnable (l : LaneId) (s : State) : State :=
  match (s.lane l).mode with
  | .off => s.setLane l { s.lane l with mode := .standby }
  | .standby => s
  | .armed => s
  | .leadin => s.setLane l { s.lane l with closing := false }
  | .take => s.setLane l { s.lane l with closing := false }
  | .tail => s.setLane l { s.lane l with closing := false }

/-- DISABLE LANE (R70). -/
def laneDisable (l : LaneId) (s : State) : State :=
  match (s.lane l).mode with
  | .off => s
  | .standby => s.setLane l { s.lane l with mode := .off }
  | .armed => letGo l .off s
  | .leadin => s.setLane l { s.lane l with closing := true }
  | .take => s.setLane l { s.lane l with closing := true }
  | .tail => s.setLane l { s.lane l with closing := true }

end Sys2Proof.Machine
end

