-- ==== Sys2Proof/Machine/PositionTracker.lean ====
section
/-! DEFINITION. Machine/PositionTracker.lean: the tracker's answer to words and expiries (R42 to R55), the POSIN receiver
(R41), and the events it offers to the other blocks, which each takes in its turn (R56 to R59). -/

namespace Sys2Proof.Machine

/-! ### The tracker alone -/

/-- What a word or an expiry makes of the tracker: its new contents, the cause of TRACKER STATE when the state changed, and
the event it offers, at most one (section 3.5). -/
structure TrackerStep where
  tracker : Tracker
  cause : Option TrackerCause
  event : Option TrackerEvent
  deriving DecidableEq, Repr

/-- How a PLAY_FWD word stands to the published position (section 3.3). -/
inductive WordFit where
  | contiguous
  | same
  | otherFrame
  | otherReel
  deriving DecidableEq, Repr

/-- The fit of a word (section 3.3, R48). -/
def PositionWord.fit (w : PositionWord) (published : Option Position) : WordFit :=
  match published with
  | none => .otherReel
  | some q =>
    if w.reel ≠ q.reel then .otherReel
    else if w.frame = q.frame + 1 then .contiguous
    else if w.frame = q.frame then .same
    else .otherFrame

/-- The position of a word. -/
def PositionWord.position (w : PositionWord) : Position := { reel := w.reel, frame := w.frame }

/-- What every valid word does in every state: it is counted, published, and restarts the word-wait timer; a freewheel is
over (R42, R48, R50, R51, R53, R56, R60). -/
def Tracker.follow (t : Tracker) (rate : Nat) (w : PositionWord) : Tracker :=
  { t with position := some w.position, motion := some w.motion, freewheel := 0
           wordWait := .running (wordWaitMs rate), stepTimer := .stopped, words := satInc t.words }

/-- A roll that a word breaks or ends, from a rolling state (R58). -/
def Tracker.lostBy (t : Tracker) (cause : TrackerCause) (m : TrackerMode) (w : PositionWord) : Option TrackerEvent :=
  if t.mode.rolling then some (.lost { cause := cause, mode := m, position := some w.position }) else none

/-- A STILL word (R45, R50) or a scanning word (R45, R51). -/
def Tracker.onParking (t : Tracker) (rate : Nat) (w : PositionWord) (m : TrackerMode) (cause : TrackerCause) : TrackerStep where
  tracker := { t.follow rate w with mode := m, run := 0 }
  cause := if t.mode = m then none else some cause
  event := t.lostBy cause m w

/-- A word starts a run from IDLE, PARKED or SCANNING (R45, R49). -/
def Tracker.startRun (t : Tracker) (rate : Nat) (w : PositionWord) : TrackerStep where
  tracker := { t.follow rate w with mode := .acquiring, run := 1 }
  cause := some .signal
  event := none

/-- A PLAY_FWD word in ACQUIRING (R46). -/
def Tracker.onRun (t : Tracker) (x : Params) (w : PositionWord) : TrackerStep :=
  let t1 := t.follow x.frameRate w
  match w.fit t.position with
  | .contiguous =>
    if x.lockCount ≤ t.run + 1 then
      { tracker := { t1 with mode := .locked, run := 0 }
        cause := some .lock
        event := some (.advance { reel := w.reel, frame := w.frame, freewheel := false, lock := some .acquired }) }
    else { tracker := { t1 with run := t.run + 1 }, cause := none, event := none }
  | .same => { tracker := { t1 with run := 1 }, cause := none, event := none }
  | .otherFrame => { tracker := { t1 with run := 1 }, cause := none, event := none }
  | .otherReel => { tracker := { t1 with run := 1 }, cause := none, event := none }

/-- A PLAY_FWD word breaks the roll (R47, R48). -/
def Tracker.breakRoll (t : Tracker) (rate : Nat) (w : PositionWord) (cause : TrackerCause) : TrackerStep where
  tracker := { t.follow rate w with mode := .acquiring, run := 1, jumps := satInc t.jumps }
  cause := some cause
  event := some (.lost { cause := cause, mode := .acquiring, position := some w.position })

/-- A PLAY_FWD word in LOCKED (R47). -/
def Tracker.onLocked (t : Tracker) (x : Params) (w : PositionWord) : TrackerStep :=
  match w.fit t.position with
  | .contiguous =>
    { tracker := t.follow x.frameRate w
      cause := none
      event := some (.advance { reel := w.reel, frame := w.frame, freewheel := false, lock := none }) }
  | .same => t.breakRoll x.frameRate w .jump
  | .otherFrame => t.breakRoll x.frameRate w .jump
  | .otherReel => t.breakRoll x.frameRate w .reel

/-- A PLAY_FWD word in FREEWHEEL (R48). -/
def Tracker.onFreewheel (t : Tracker) (x : Params) (w : PositionWord) : TrackerStep :=
  match w.fit t.position with
  | .contiguous =>
    { tracker := { t.follow x.frameRate w with mode := .locked }
      cause := some .lock
      event := some (.advance { reel := w.reel, frame := w.frame, freewheel := false, lock := some .relocked }) }
  | .same =>
    { tracker := { t.follow x.frameRate w with mode := .locked }
      cause := some .lock
      event := some (.relock w.position) }
  | .otherFrame => t.breakRoll x.frameRate w .jump
  | .otherReel => t.breakRoll x.frameRate w .reel

/-- A PLAY_FWD word (R45 to R49). -/
def Tracker.onPlay (t : Tracker) (x : Params) (w : PositionWord) : TrackerStep :=
  match t.mode with
  | .idle => t.startRun x.frameRate w
  | .acquiring => t.onRun x w
  | .locked => t.onLocked x w
  | .freewheel => t.onFreewheel x w
  | .parked => t.startRun x.frameRate w
  | .scanning => t.startRun x.frameRate w

/-- A valid word (R45 to R51). -/
def Tracker.onWord (t : Tracker) (x : Params) (w : PositionWord) : TrackerStep :=
  match w.motion with
  | .playFwd => t.onPlay x w
  | .still => t.onParking x.frameRate w .parked .still
  | .playRev => t.onParking x.frameRate w .scanning .scan
  | .variFwd => t.onParking x.frameRate w .scanning .scan
  | .variRev => t.onParking x.frameRate w .scanning .scan
  | .shuttle => t.onParking x.frameRate w .scanning .scan

/-- Entry into IDLE (R43, R53, R54). -/
def Tracker.toIdle (t : Tracker) : Tracker :=
  { t with mode := .idle, position := none, motion := none, run := 0, freewheel := 0
           wordWait := .stopped, stepTimer := .stopped }

/-- The roll runs out (R53, R54). -/
def Tracker.runOut (t : Tracker) : TrackerStep where
  tracker := { t.toIdle with losses := satInc t.losses }
  cause := some .loss
  event := some (.lost { cause := .loss, mode := .idle, position := none })

/-- The published frame steps by one in freewheel (R53, R54). -/
def Tracker.freewheelTo (t : Tracker) (x : Params) (q : Position) (cause : Option TrackerCause) : TrackerStep where
  tracker :=
    { t with mode := .freewheel, position := some { q with frame := q.frame + 1 }, freewheel := t.freewheel + 1
             wordWait := .stopped, stepTimer := .running (freewheelStepMs x.frameRate) }
  cause := cause
  event := some (.advance { reel := q.reel, frame := q.frame + 1, freewheel := true, lock := none })

/-- Nothing comes about. -/
def Tracker.unmoved (t : Tracker) : TrackerStep where
  tracker := t
  cause := none
  event := none

/-- LOCKED at the word-wait expiry (R53). -/
def Tracker.lockedExpiry (t : Tracker) (x : Params) : TrackerStep :=
  match t.position with
  | none => t.runOut
  | some q => if 1 ≤ x.freewheelLimit ∧ q.frame < Config.lastFrame then t.freewheelTo x q (some .loss) else t.runOut

/-- The word-wait expiry (R53). -/
def Tracker.onWaitExpiry (t : Tracker) (x : Params) : TrackerStep :=
  match t.mode with
  | .idle => t.unmoved
  | .acquiring => { tracker := t.toIdle, cause := some .signal, event := none }
  | .locked => t.lockedExpiry x
  | .freewheel => t.unmoved
  | .parked => { tracker := t.toIdle, cause := some .signal, event := none }
  | .scanning => { tracker := t.toIdle, cause := some .signal, event := none }

/-- FREEWHEEL at the step expiry (R54). -/
def Tracker.freewheelStep (t : Tracker) (x : Params) : TrackerStep :=
  match t.position with
  | none => t.runOut
  | some q => if t.freewheel < x.freewheelLimit ∧ q.frame < Config.lastFrame then t.freewheelTo x q none else t.runOut

/-- The freewheel step expiry (R54). -/
def Tracker.onStepExpiry (t : Tracker) (x : Params) : TrackerStep :=
  match t.mode with
  | .freewheel => t.freewheelStep x
  | .idle => t.unmoved
  | .acquiring => t.unmoved
  | .locked => t.unmoved
  | .parked => t.unmoved
  | .scanning => t.unmoved

/-! ### The receivers take what was offered (section 3.5) -/

/-- The event is the receiver's no longer. -/
def State.laneTook (s : State) (l : LaneId) : State :=
  { s with offered := { s.offered with lanes := s.offered.lanes.set l false } }
def State.marksTook (s : State) : State := { s with offered := { s.offered with marks := false } }
def State.punchTook (s : State) : State := { s with offered := { s.offered with punch := false } }
def State.loopTook (s : State) : State := { s with offered := { s.offered with loop := false } }

/-- Whether a lane has still to take the event. -/
def State.laneDue (s : State) (l : LaneId) : Bool := s.offered.lanes[l]

/-- The advance that is offered, if the event is one. -/
def State.offeredAdvance (s : State) : Option Advance :=
  match s.offered.event with
  | some (.advance a) => some a
  | some (.relock _) => none
  | some (.lost _) => none
  | none => none

/-- Whether the event is a roll lost. -/
def State.offeredLost (s : State) : Bool :=
  match s.offered.event with
  | some (.lost _) => true
  | some (.advance _) => false
  | some (.relock _) => false
  | none => false

/-- Whether the event is or carries a lock entry (R58). -/
def State.offeredLock (s : State) : Bool :=
  match s.offered.event with
  | some (.relock _) => true
  | some (.advance a) => a.lock.isSome
  | some (.lost _) => false
  | none => false

/-- A lane takes the advance offered to it (R75). -/
def laneTakesAdvance (l : LaneId) (s : State) : State :=
  match s.offeredAdvance with
  | none => s
  | some a => if s.laneDue l then laneAdvance l a (s.laneTook l) else s

/-- A lane takes the roll lost offered to it (R83). -/
def laneTakesLost (l : LaneId) (s : State) : State :=
  if s.offeredLost && s.laneDue l then laneLost l (s.laneTook l) else s

/-- The Mark Generator takes the advance offered to it (R97). -/
def marksTakeAdvance (s : State) : State :=
  match s.offeredAdvance with
  | none => s
  | some a => if s.offered.marks then marksAdvance a.frame s.marksTook else s

/-- The Punch Unit takes the advance offered to it (R125). -/
def punchTakesAdvance (s : State) : State :=
  match s.offeredAdvance with
  | none => s
  | some a => if s.offered.punch then punchAdvance a.frame s.punchTook else s

/-- The Loop Controller takes the advance offered to it, with the lock entry it may carry (R138, R140). -/
def loopTakesAdvance (s : State) : State :=
  match s.offeredAdvance with
  | none => s
  | some a => if s.offered.loop then loopTakeAdvance a s.loopTook else s

/-- The Loop Controller takes a lock entry offered without an advance (R58, R138). -/
def loopTakesRelock (s : State) : State :=
  match s.offered.event with
  | some (.relock q) => if s.offered.loop then loopTakeLock q s.loopTook else s
  | some (.advance _) => s
  | some (.lost _) => s
  | none => s

/-- The Loop Controller takes a lock entry: alone, or with the advance that carries it (R138). -/
def loopTakesLock (s : State) : State := if s.offeredLock then loopTakesAdvance (loopTakesRelock s) else s

/-- The Loop Controller takes the roll lost offered to it (R140, R141). -/
def loopTakesLost (s : State) : State :=
  if s.offeredLost && s.offered.loop then loopTakeLost s.loopTook else s

/-- A lane takes whatever event is offered to it. -/
def laneTakes (s : State) (l : LaneId) : State := laneTakesLost l (laneTakesAdvance l s)

/-- Before the tracker offers another event, the one before it is taken by all that have still to take it: the lanes L0 to
L7, the hand-offs they made, the Mark Generator, the Punch Unit, the Loop Controller (R96; log 4). -/
def settle (s : State) : State :=
  loopTakesLost (loopTakesRelock (loopTakesAdvance (punchTakesAdvance (marksTakeAdvance
    (runHandoffs (allLanes.foldl laneTakes s))))))

/-! ### Offering -/

/-- Who takes an event (section 3.5): the late-word relock concerns the Loop Controller alone (R58, R75), and a roll lost
the lanes and the Loop Controller (R83, R107, R140). -/
def offeredOf (e : TrackerEvent) : Offered where
  event := some e
  lanes :=
    match e with
    | .advance _ => Vector.replicate 8 true
    | .relock _ => Vector.replicate 8 false
    | .lost _ => Vector.replicate 8 true
  marks :=
    match e with
    | .advance _ => true
    | .relock _ => false
    | .lost _ => false
  punch :=
    match e with
    | .advance _ => true
    | .relock _ => false
    | .lost _ => false
  loop := true

/-- The tracker's own change, complete with TRACKER STATE, before the event is offered (section 3.5, R59). -/
def trackerChange (x : TrackerStep) (s : State) : State :=
  let s1 : State := { s with tracker := x.tracker }
  match x.cause with
  | none => s1
  | some c => post .tracker (.trackerState x.tracker.mode x.tracker.position c) s1

/-- A word or an expiry has its effect. -/
def trackerApply (x : TrackerStep) (s : State) : State :=
  match x.event with
  | none => trackerChange x s
  | some e => { trackerChange x (settle s) with offered := offeredOf e }

/-! ### The POSIN receiver (R41, R42) -/

/-- The tracker with another receiver state. -/
def State.setReceiver (s : State) (r : Option (List Byte)) : State := { s with tracker := { s.tracker with receiver := r } }

/-- A word is found bad or abandoned (R41, R42). -/
def countBadWord (s : State) : State := { s with tracker := { s.tracker with badWords := satInc s.tracker.badWords } }

/-- A complete word (R42). -/
def takeWord (body : List Byte) (s : State) : State :=
  match wordOf body with
  | none => countBadWord s
  | some w => trackerApply (s.tracker.onWord s.params w) s

/-- A byte arrives on POSIN with its stop bit (R41). -/
def posinByte (s : State) (b : Byte) : State :=
  match s.tracker.receiver with
  | none => if b = Config.positionSync then s.setReceiver (some []) else s
  | some body => if body.length < 5 then s.setReceiver (some (body ++ [b])) else takeWord (body ++ [b]) (s.setReceiver none)

/-- A word in progress is abandoned; while hunting nothing happens (R41). -/
def abandonWord (s : State) : State :=
  match s.tracker.receiver with
  | none => s
  | some _ => countBadWord (s.setReceiver none)

/-- The word-wait timer expires (R53); a stopped timer does not (log 1). -/
def waitExpiry (s : State) : State :=
  if s.tracker.wordWait.isRunning then trackerApply (s.tracker.onWaitExpiry s.params) s else s

/-- The freewheel step timer expires (R54); a stopped timer does not (log 1). -/
def stepExpiry (s : State) : State :=
  if s.tracker.stepTimer.isRunning then trackerApply (s.tracker.onStepExpiry s.params) s else s

/-- The locate timer expires (R139). -/
def locateExpiry (s : State) : State :=
  match s.activeGroup with
  | none => s
  | some g =>
    if (s.group g).mode = .locating ∧ s.loop.locateTimer.isRunning = true then loopHalt g .failed .locateTimeout s else s

/-- The grant idle timer expires (R34). -/
def idleExpiry (s : State) : State :=
  match s.grant.holder with
  | none => s
  | some p => if s.grant.idle.isRunning then revoke p .idle s else s

end Sys2Proof.Machine
end

