-- ==== Sys2Proof/Machine/LineUnit.lean ====
section
/-! DEFINITION. Machine/LineUnit.lean: input lines and their functions (R161 to R166), line settings (R170). -/

namespace Sys2Proof.Machine

/-- The ready latch of a lane becomes SET (R71, R163). -/
def setLatch (l : LaneId) (s : State) : State := s.setLane l { s.lane l with readyLatch := true }

/-- The hold toggle changes (R164). -/
def toggleHold (s : State) : State := { s with lines := { s.lines with holdToggle := !s.lines.holdToggle } }

/-- The function of a line at its activation (R163 to R165). -/
def activate (i : LineId) (x : InputLine) (s : State) : State :=
  match x.function with
  | .none => s
  | .actorReady l =>
    match x.trigger with
    | .edge => setLatch l s
    | .level => s
  | .directorHold =>
    match x.trigger with
    | .edge => toggleHold s
    | .level => s
  | .circleLast l => circleLast l i s
  | .loopStop => loopStopActive .stopLine s

/-- The line's other level is accepted: the function on an activation, then LINE CHANGE (R162, R166). -/
def acceptChange (i : LineId) (s : State) : State :=
  let x : InputLine := { s.input i with level := otherLevel (s.input i).level, differing := 0 }
  let s1 := s.setInput i x
  let s2 := if x.active then activate i x s1 else s1
  post .lines (.lineChange i x.level x.active x.function s2.directorHold) s2

/-- One sample of an input pin (R162). -/
def sampleInput (i : LineId) (v : Level) (s : State) : State :=
  let x := s.input i
  if v = x.level then s.setInput i { x with differing := 0 }
  else if x.differing + 1 < x.debounce then s.setInput i { x with differing := x.differing + 1 }
  else acceptChange i s

/-- After a SET LINE the toggle is OFF unless an EDGE DIRECTOR_HOLD line remains (R164). -/
def releaseToggle (s : State) : State :=
  if s.hasEdgeHold then s else { s with lines := { s.lines with holdToggle := false } }

/-- An input line takes new settings: the level is kept, the differing samples become 0 (R170). -/
def setInputLine (i : LineId) (f : InputFunction) (t : Trigger) (pol : Level) (debounce : Nat) (s : State) : State :=
  releaseToggle (s.setInput i
    { s.input i with function := f, trigger := t, polarity := pol, debounce := debounce, differing := 0 })

/-- An output line takes new settings (R170). -/
def setOutputLine (o : LineId) (f : OutputFunction) (pol : Level) (x : Span) (s : State) : State :=
  releaseToggle (s.setOutput o { function := f, polarity := pol, span := x })

end Sys2Proof.Machine
end

