-- ==== Sys2Proof/Machine/ClientPorts.lean ====
section
/-! DEFINITION. Machine/ClientPorts.lean: attach and detach (R174, R175), receiving (R176, R177), judging a request (R178),
sending (R179). -/

namespace Sys2Proof.Machine

/-! ### Attach and detach -/

/-- A HIGH level accepted on a DETACHED port (R174). -/
def attachPort (p : PortId) (s : State) : State :=
  if (s.port p).attached then s
  else
    (s.setPort p { s.port p with attached := true, presentLevel := .high, presentDiffering := 0, receiver := none }).setLink p
      .normal

/-- A port as its own detach leaves it (R175). The rate in force becomes the setting (log 11). -/
def Port.detached (x : Port) : Port :=
  { x with attached := false, presentLevel := .low, presentDiffering := 0, receiver := none, receiveQueue := []
           slot := none, priority := [], ordinary := [], transmitting := none, lostSinceFetch := 0, lineRate := x.rate }

/-- A LOW level accepted on an ATTACHED port: the port, then the arbiter, the Punch Unit and the Loop Controller (R175). -/
def detachPort (p : PortId) (s : State) : State :=
  if (s.port p).attached then loopDetach p (punchDetach p (grantDetach p (s.setPort p (s.port p).detached))) else s

/-- A level is accepted on PRESENT (R174, R175). -/
def acceptPresent (p : PortId) (v : Level) (s : State) : State :=
  let s1 := s.setPort p { s.port p with presentLevel := v, presentDiffering := 0 }
  match v with
  | .high => attachPort p s1
  | .low => detachPort p s1

/-- One sample of a PRESENT pin (R174). -/
def samplePresent (p : PortId) (v : Level) (s : State) : State :=
  let x := s.port p
  if v = x.presentLevel then s.setPort p { x with presentDiffering := 0 }
  else if x.presentDiffering + 1 < Config.presentDebounce then
    s.setPort p { x with presentDiffering := x.presentDiffering + 1 }
  else acceptPresent p v s

/-! ### Receiving -/

/-- An item joins the receive queue, or is discarded and counted when four wait (R177). -/
def Port.join (x : Port) (i : RxItem) : Port :=
  if x.receiveQueue.length < Config.receivePlaces then { x with receiveQueue := x.receiveQueue ++ [i] }
  else { x with overruns := satInc x.overruns }

/-- A frame in progress fails: counted once, and a frame-error item joins (R176, R177; log 17). -/
def Port.failFrame (x : Port) (f : FrameFailure) : Port :=
  Port.join { x with receiver := none, frameErrors := satInc x.frameErrors } (.frameError f)

/-- The bytes after the sync byte, the sum byte among them, are complete (R176). -/
def Port.finishFrame (x : Port) (bytes : List Byte) : Port :=
  if byteSum bytes = 0 then
    Port.join { x with receiver := none } (.request (bytes.getD 1 0) ((bytes.drop 2).dropLast))
  else x.failFrame .badSum

/-- A byte of a frame in progress, whole: the length byte, a further byte, or the sum byte (R176). -/
def Port.frameByte (x : Port) (bytes : List Byte) : Port :=
  let length := byteAt bytes 0
  if bytes.length = 1 ∧ (length = 0 ∨ 64 < length) then x.failFrame .badLength
  else if bytes.length < length + 2 then { x with receiver := some bytes }
  else x.finishFrame bytes

/-- A character arrives on RXD (R175, R176). -/
def Port.hear (x : Port) (c : RxChar) : Port :=
  if x.attached then
    match x.receiver with
    | none => if c.stop = true ∧ c.byte = Config.frameSync then { x with receiver := some [] } else x
    | some bytes => if c.stop then x.frameByte (bytes ++ [c.byte]) else x.failFrame .noStopBit
  else x

/-- Characters arrive one after another (R176). -/
def hearAll (p : PortId) (cs : List RxChar) (s : State) : State := s.setPort p (cs.foldl Port.hear (s.port p))

/-- A byte received with its stop bit. -/
def wholeByte (b : Byte) : RxChar := { byte := b, stop := true }

/-- No byte for 10 ms: a frame in progress fails (R176). -/
def Port.silence (x : Port) : Port :=
  match x.receiver with
  | none => x
  | some _ => if x.attached then x.failFrame .timeout else x

/-! ### Taking an item of the receive queue -/

/-- The port may take this item: it stands first, or the queue is empty and the item is the one arriving (log 7); the slot is
empty (R177). -/
def Port.mayTake (x : Port) (i : RxItem) : Bool :=
  x.attached && x.slot.isNone && (x.receiveQueue.isEmpty || x.receiveQueue.head? == some i)

/-- The item has been taken. -/
def State.dropItem (s : State) (p : PortId) : State :=
  s.setPort p { s.port p with receiveQueue := (s.port p).receiveQueue.tail }

/-- An answer is placed in the slot (R177). -/
def State.placeAnswer (s : State) (p : PortId) (a : Answer) : State := s.setPort p { s.port p with slot := some a }

/-- The answer to a request: the kind plus 0x80, the status and the fields (R178, R187). -/
def Request.answer (k : Request) (r : Reply) : Answer := { kind := k.code + 0x80, body := r.bytes, newRate := r.newRate }

/-- The tests of R178 that follow the kind, and the owning block's part. -/
def judge (p : PortId) (k : Request) (body : List Byte) (block : State → State × Reply) (s : State) : State × Reply :=
  if k.lengthFits body = false then (s, .bare .length)
  else if k.need.roleMet (s.port p).roles = false then (s, .bare .role)
  else if k.need.wantsGrant = true ∧ s.grant.holder ≠ some p then (s, .bare .noGrant)
  else block s

/-- A port takes a request: it is judged and carried out, its answer placed, and the holder's idle timer restarted (R33, R34,
R177, R178). -/
def takeRequest (p : PortId) (k : Request) (body : List Byte) (block : State → State × Reply) (s : State) : State :=
  if s.resetHeld = false ∧ (s.port p).mayTake (.request k.code body) = true then
    let r := judge p k body block (s.dropItem p)
    restartIdle p (r.1.placeAnswer p (k.answer r.2))
  else s

/-- A port takes a request of a kind that is none (R178, R188). -/
def takeUnknown (p : PortId) (kind : Byte) (body : List Byte) (s : State) : State :=
  if s.resetHeld = false ∧ isRequestCode kind = false ∧ (s.port p).mayTake (.request kind body) = true then
    restartIdle p ((s.dropItem p).placeAnswer p { kind := 0xFF, body := [0x11, kind], newRate := none })
  else s

/-- The failure of the frame-error item that stands first (R177). -/
def Port.firstError (x : Port) : Option FrameFailure :=
  match x.receiveQueue with
  | .frameError f :: _ => some f
  | .request _ _ :: _ => none
  | [] => none

/-- A port takes a frame-error item (R177); it is no request, so no timer restarts (R34). -/
def takeFrameError (p : PortId) (s : State) : State :=
  match (s.port p).firstError with
  | none => s
  | some f =>
    if (s.port p).mayTake (.frameError f) then
      (s.dropItem p).placeAnswer p { kind := 0xFF, body := num1 f.code ++ [0x00], newRate := none }
    else s

/-! ### Sending -/

/-- What the owning block does when the transmitter takes a notice (R119, R137, R179). -/
def noticeTaken (n : PriorityNotice) (s : State) : State :=
  match n with
  | .punchIn l _ _ _ _ _ _ => punchInTaken l s
  | .punchOut _ _ _ _ _ => s
  | .locate g _ _ _ => loopLocateTaken g s
  | .halt _ _ => s

/-- The transmitter at a message boundary: the oldest priority notice, else the answer (R179). -/
def transmitNext (p : PortId) (s : State) : State :=
  let x := s.port p
  if x.attached = true ∧ x.transmitting = none then
    match x.priority, x.slot with
    | n :: rest, _ =>
      noticeTaken n
        (s.setPort p { x with priority := rest, transmitting := some { message := .notice n, newRate := none } })
    | [], some a => s.setPort p { x with slot := none, transmitting := some { message := .answer a, newRate := a.newRate } }
    | [], none => s
  else s

/-- The last byte has been sent; a rate that waited for it takes effect (R179, R183). -/
def transmitEnd (p : PortId) (s : State) : State :=
  let x := s.port p
  match x.transmitting with
  | none => s
  | some t => s.setPort p { x with transmitting := none, lineRate := t.newRate.getD x.lineRate }

end Sys2Proof.Machine
end

