-- ==== Sys2Proof/Machine/Events.lean ====
section
/-! DEFINITION. Machine/Events.lean: the commands that are no request: RESET, the words on POSIN, the expiries, the blocks
taking what the tracker and the lanes offered, the pins, and the ports' receivers and transmitters. -/

namespace Sys2Proof.Machine

/-- An event that has its effect while RESET is released and none while it is held (R41, R93, R168, R174, R186). -/
def live (f : State → State) (s : State) : Result := .next (if s.resetHeld then s else f s)

/-! ### RESET (R168, R169) -/

/-- RESET_ASSERT: every block takes its device-reset state; the straps are kept until they are sampled again (R168; log 6).
The commands that wait are outside the part and stay (log 26). -/
def execResetAssert (s : State) : Result := .next (State.deviceReset true s.straps s.pending)

/-- RESET_RELEASE: the straps are sampled (R169). -/
def releaseReset (x : Straps) (s : State) : State := if s.resetHeld then State.deviceReset false x s.pending else s

/-- RESET_RELEASE (R169). -/
def execResetRelease (o2 o1 o0 : Level) (s : State) : Result := .next (releaseReset { o2 := o2, o1 := o1, o0 := o0 } s)

/-! ### POSIN (R41, R42) -/

/-- POSITION_WORD: the bytes arrive one after another (R41, R42). -/
def execPositionWord (bytes : List Byte) (s : State) : Result := live (fun t => bytes.foldl posinByte t) s

/-- WORD_GAP_TIMEOUT: bytes arrive, and then none for 2 ms (R41). -/
def execWordGapTimeout (bytes : List Byte) (s : State) : Result := live (fun t => abandonWord (bytes.foldl posinByte t)) s

/-- WORD_BYTE_WITHOUT_STOP_BIT: bytes arrive, and then one without its stop bit (R41). -/
def execWordByteWithoutStopBit (bytes : List Byte) (s : State) : Result :=
  live (fun t => abandonWord (bytes.foldl posinByte t)) s

/-! ### Expiries (R34, R53, R54, R139) -/

/-- WORD_WAIT_EXPIRY (R53). -/
def execWordWaitExpiry (s : State) : Result := live waitExpiry s
/-- FREEWHEEL_STEP_EXPIRY (R54). -/
def execFreewheelStepExpiry (s : State) : Result := live stepExpiry s
/-- LOCATE_TIMER_EXPIRY (R139). -/
def execLocateTimerExpiry (s : State) : Result := live locateExpiry s
/-- GRANT_IDLE_EXPIRY (R34). -/
def execGrantIdleExpiry (s : State) : Result := live idleExpiry s

/-! ### Blocks taking what was offered -/

/-- LANE_POSITION_ADVANCE (R75). -/
def execLanePositionAdvance (l : LaneId) (s : State) : Result := live (laneTakesAdvance l) s
/-- LANE_ROLL_LOST (R83). -/
def execLaneRollLost (l : LaneId) (s : State) : Result := live (laneTakesLost l) s
/-- PUNCH_POSITION_ADVANCE (R125). -/
def execPunchPositionAdvance (s : State) : Result := live punchTakesAdvance s
/-- MARK_START_HANDOFF (R96). -/
def execMarkStartHandoff (l : LaneId) (s : State) : Result := live (takeStartHandoff l) s
/-- MARK_END_HANDOFF (R98). -/
def execMarkEndHandoff (l : LaneId) (s : State) : Result := live (takeEndHandoff l) s
/-- MARK_POSITION_ADVANCE (R97). -/
def execMarkPositionAdvance (s : State) : Result := live marksTakeAdvance s
/-- LOOP_POSITION_ADVANCE (R140). -/
def execLoopPositionAdvance (s : State) : Result := live loopTakesAdvance s
/-- LOOP_LOCK_ENTRY (R138). -/
def execLoopLockEntry (s : State) : Result := live loopTakesLock s
/-- LOOP_ROLL_LOST (R140, R141). -/
def execLoopRollLost (s : State) : Result := live loopTakesLost s

/-! ### Lines -/

/-- OVERLAY_WORD: the line is free (R110; log 13). -/
def execOverlayWord (s : State) : Result := live sendOverlayWord s
/-- INPUT_LINE_CHANGE (R162). -/
def execInputLineChange (i : LineId) (s : State) : Result := live (acceptChange i) s
/-- INPUT_SAMPLE (R162). -/
def execInputSample (i : LineId) (v : Level) (s : State) : Result := live (sampleInput i v) s

/-! ### Ports -/

/-- PORT_ATTACH (R174). -/
def execPortAttach (p : PortId) (s : State) : Result := live (attachPort p) s
/-- PORT_DETACH (R175). -/
def execPortDetach (p : PortId) (s : State) : Result := live (detachPort p) s
/-- PRESENT_SAMPLE (R174). -/
def execPresentSample (p : PortId) (v : Level) (s : State) : Result := live (samplePresent p v) s
/-- RECEIVE_FRAME: the characters arrive one after another (R176, R177). -/
def execReceiveFrame (p : PortId) (chars : List RxChar) (s : State) : Result := live (hearAll p chars) s
/-- INTER_BYTE_TIMEOUT: bytes arrive, and then none for 10 ms (R176). -/
def execInterByteTimeout (p : PortId) (bytes : List Byte) (s : State) : Result :=
  live (fun t =>
    let t1 := hearAll p (bytes.map wholeByte) t
    t1.setPort p (t1.port p).silence) s
/-- FRAME_ERROR (R177). -/
def execFrameError (p : PortId) (s : State) : Result := live (takeFrameError p) s
/-- UNKNOWN_KIND (R178, R188). -/
def execUnknownKind (p : PortId) (kind : Byte) (body : List Byte) (s : State) : Result := live (takeUnknown p kind body) s
/-- TRANSMIT_TAKE (R179). -/
def execTransmitTake (p : PortId) (s : State) : Result := live (transmitNext p) s
/-- TRANSMIT_COMPLETE (R179). -/
def execTransmitComplete (p : PortId) (s : State) : Result := live (transmitEnd p) s

end Sys2Proof.Machine
end

