-- ==== Sys2Proof/Machine/Clock.lean ====
section
/-! DEFINITION. Machine/Clock.lean: one millisecond of the timebase on the four timers that count in it (R34, R52, R139;
DESIGN CHOICE, log 2): what a step does when no command waits. -/

namespace Sys2Proof.Machine

/-- Every timer loses a millisecond. -/
def countDown (s : State) : State :=
  { s with
    tracker := { s.tracker with wordWait := s.tracker.wordWait.tick, stepTimer := s.tracker.stepTimer.tick }
    grant := { s.grant with idle := s.grant.idle.tick }
    loop := { s.loop with locateTimer := s.loop.locateTimer.tick } }

/-- An expiry whose timer has run down. -/
def whenDown (t : Timer) (f : State → State) (s : State) : State := if t = .running 0 then f s else s

/-- The expiries that fall due, in the order word-wait, freewheel step, grant idle, locate (log 2). -/
def expire (s : State) : State :=
  let s1 := whenDown s.tracker.wordWait waitExpiry s
  let s2 := whenDown s1.tracker.stepTimer stepExpiry s1
  let s3 := whenDown s2.grant.idle idleExpiry s2
  whenDown s3.loop.locateTimer locateExpiry s3

/-- One millisecond; nothing counts while RESET is held. -/
def tick (s : State) : State := if s.resetHeld then s else expire (countDown s)

end Sys2Proof.Machine
end

