-- ==== Sys2Proof/Machine/LaneRequests.lean ====
section
/-! DEFINITION. Machine/LaneRequests.lean: the requests of the lanes and CLEAR STAGE (R66, R69, R70, R86, R87, R92), and
those of the tracker and the Punch Unit (R61, R115, R126, R128). -/

namespace Sys2Proof.Machine

/-! ### SET LANE and READ LANE (R66, R92) -/

/-- The routing record a body names, when every field is in range (R65, R66). -/
def routingOf (b : List Byte) : Option Routing :=
  match portOrNone (byteAt b 1), toneOrNone (byteAt b 2), boolOf (byteAt b 6) with
  | some q, some t, some r =>
    if byteAt b 3 ≤ 7 ∧ byteAt b 4 ≤ 15 ∧ byteAt b 5 ≤ 15 then
      some { recordPort := q, tone := t, colour := byteAt b 3, priority := byteAt b 4, advance := byteAt b 5,
             requireReady := r }
    else none
  | _, _, _ => none

/-- The routing record takes the new values; a change of the record port clears the ready flag (R66, R116). -/
def writeRouting (l : LaneId) (x : Routing) (s : State) : State :=
  let s1 := s.setLane l { s.lane l with routing := x }
  if (s.lane l).routing.recordPort = x.recordPort then s1 else clearReady s1 l

/-- SET LANE (R66). -/
def answerSetLane (body : List Byte) (s : State) : State × Reply :=
  match laneOf (byteAt body 0), routingOf body with
  | some l, some x => if (s.lane l).mode = .off then (writeRouting l x s, .okWith []) else (s, .bare .busy)
  | _, _ => (s, .bare .range)

/-- The routing record as READ LANE carries it (R65, R92). -/
def Routing.bytes (x : Routing) : List Byte :=
  encIndex x.recordPort ++ encIndex x.tone ++ num1 x.colour ++ num1 x.priority ++ num1 x.advance ++ encBool x.requireReady

/-- The cycle record as READ LANE carries it; with none, the codes of absent values (R92, R187; log 9). -/
def cycleBytes (x : Option CycleRecord) : List Byte :=
  encCue (x.map fun c => c.cue) ++ encSmall (x.map fun c => c.reel) ++ encFrame (x.map fun c => c.leadIn) ++
    encFrame (x.map fun c => c.punchIn) ++ encFrame (x.map fun c => c.markRef) ++ encFrame (x.map fun c => c.cycleEnd) ++
    encBool (x.any fun c => c.begun) ++ encSmall (x.bind fun c => c.take) ++ encFrame (x.bind fun c => c.begin) ++
    encFrame (x.map fun c => c.last) ++ encBool (x.any fun c => c.broken) ++ encLoop (x.bind fun c => c.loop) ++
    num2 ((x.map fun c => c.flags.mask false).getD 0)

/-- The dry reason of a punch state, where it is present (R113). -/
def PunchMode.dryReason : PunchMode → Option DryReason
  | .dry r => some r
  | .idle => none
  | .queued _ => none
  | .recording _ _ => none
  | .broken _ => none

/-- The next check point of a punch state, where it is present (R113). -/
def PunchMode.nextCheck : PunchMode → Option Nat
  | .recording _ n => some n
  | .idle => none
  | .dry _ => none
  | .queued _ => none
  | .broken _ => none

/-- The Punch Unit's part of READ LANE (R92, R113). -/
def PunchLane.bytes (x : PunchLane) : List Byte :=
  encBool x.ready ++ num1 x.mode.code ++ encIndex x.mode.port ++ num1 (encDry x.mode.dryReason) ++ encFrame x.mode.nextCheck ++
    num1 x.consecutive ++ num2 x.total

/-- The fields of READ LANE (R92). -/
def State.laneReport (s : State) (l : LaneId) : List Byte :=
  let x := s.lane l
  num1 x.mode.code ++ encBool x.closing ++ x.routing.bytes ++ encBool x.readyLatch ++ encBool (s.laneReady l) ++
    num2 x.falseStarts ++ encCue x.pinned ++ cycleBytes x.cycle ++ (s.punchOf l).bytes ++ encIndex (s.markLane l).channel

/-- READ LANE (R92). -/
def answerReadLane (body : List Byte) (s : State) : State × Reply :=
  match laneOf (byteAt body 0) with
  | none => (s, .bare .range)
  | some l => (s, .okWith (s.laneReport l))

/-! ### ENABLE LANE, DISABLE LANE, CANCEL LANE (R69, R70, R86) -/

/-- A lane's state and closing flag (R69, R70). -/
def State.laneBrief (s : State) (l : LaneId) : List Byte := num1 (s.lane l).mode.code ++ encBool (s.lane l).closing

/-- ENABLE LANE (R69). -/
def answerEnable (body : List Byte) (s : State) : State × Reply :=
  match laneOf (byteAt body 0) with
  | none => (s, .bare .range)
  | some l => (laneEnable l s, .okWith ((laneEnable l s).laneBrief l))

/-- DISABLE LANE (R70). -/
def answerDisable (body : List Byte) (s : State) : State × Reply :=
  match laneOf (byteAt body 0) with
  | none => (s, .bare .range)
  | some l => (laneDisable l s, .okWith ((laneDisable l s).laneBrief l))

/-- CANCEL LANE (R86). The take number is carried as absent when no take ended (log 9). -/
def answerCancel (body : List Byte) (s : State) : State × Reply :=
  match laneOf (byteAt body 0) with
  | none => (s, .bare .range)
  | some l =>
    (laneCancel l s, .okWith (num1 ((laneCancel l s).lane l).mode.code ++ encSmall (s.takeToEnd l)))

/-! ### CLEAR STAGE (R87, R112, R132, R148) -/

/-- A lane's ready latch becomes CLEAR. -/
def clearLatch (s : State) (l : LaneId) : State := s.setLane l { s.lane l with readyLatch := false }

/-- The lanes whose cycle the request ends. -/
def State.lanesInCycle (s : State) : Nat := allLanes.countP fun l => (s.lane l).mode.inCycle

/-- CLEAR STAGE: the hand-offs that wait are dropped, so that the cycles it ends gain no WIPE_DROPPED and no release makes a decision
pass (R112); then the active group, the lanes L0 to L7, the latches, the marks, the Punch Unit's flags, tallies and links (R87,
R112, R132, R148; log 16). -/
def clearStage (s : State) : State :=
  let s1 := loopStopActive .clear { s with handoffs := [] }
  let s2 := allLanes.foldl (fun t l => laneCancel l t) s1
  let s3 := clearMarks (allLanes.foldl clearLatch s2)
  let s4 := allLanes.foldl clearTallied (allLanes.foldl clearReady s3)
  { s4 with links := Vector.replicate 4 .normal }

/-- CLEAR STAGE (R87). -/
def answerClearStage (s : State) : State × Reply := (clearStage s, .okWith (num1 s.lanesInCycle))

/-! ### TRACKER STATUS (R61) -/

/-- TRACKER STATUS (R61). -/
def answerTrackerStatus (s : State) : State × Reply :=
  let t := s.tracker
  (s, .okWith (num1 t.mode.code ++ encPosition t.position ++ num1 ((t.motion.map Motion.code).getD 0xFF) ++ num1 t.run ++
    num1 t.freewheel ++ num2 t.words ++ num2 t.badWords ++ num2 t.jumps ++ num2 t.losses))

/-! ### READY, TALLY, RECONFIRM (R115, R126, R128) -/

/-- READY (R115). -/
def answerReady (p : PortId) (body : List Byte) (s : State) : State × Reply :=
  match laneOf (byteAt body 0), boolOf (byteAt body 1) with
  | some l, some b =>
    if s.recordPort l = some p then (s.setPunch l { s.punchOf l with ready := b }, .okWith (encBool b))
    else (s, .bare .wrongPort)
  | _, _ => (s, .bare .range)

/-- TALLY from a lane's punch port while it is RECORDING, else NOT_RECORDING (R126). -/
def tallyLane (p : PortId) (l : LaneId) (s : State) : State × Reply :=
  match (s.punchOf l).mode with
  | .recording q n =>
    if q = p then
      (s.setPunch l { s.punchOf l with tallied := true }, .okWith (num3 n ++ num1 (s.punchOf l).consecutive))
    else (s, .bare .notRecording)
  | .idle => (s, .bare .notRecording)
  | .dry _ => (s, .bare .notRecording)
  | .queued _ => (s, .bare .notRecording)
  | .broken _ => (s, .bare .notRecording)

/-- TALLY (R126). -/
def answerTally (p : PortId) (body : List Byte) (s : State) : State × Reply :=
  match laneOf (byteAt body 0) with
  | none => (s, .bare .range)
  | some l => tallyLane p l s

/-- RECONFIRM (R128). -/
def answerReconfirm (p : PortId) (s : State) : State × Reply := (s.setLink p .normal, .okWith (num1 (s.link p).code))

/-! ### The commands -/

/-- SET_LANE (R66). -/
def execSetLane (p : PortId) (body : List Byte) (s : State) : Result :=
  .next (takeRequest p .setLane body (answerSetLane body) s)
/-- READ_LANE (R92). -/
def execReadLane (p : PortId) (body : List Byte) (s : State) : Result :=
  .next (takeRequest p .readLane body (answerReadLane body) s)
/-- ENABLE_LANE (R69). -/
def execEnableLane (p : PortId) (body : List Byte) (s : State) : Result :=
  .next (takeRequest p .enableLane body (answerEnable body) s)
/-- DISABLE_LANE (R70). -/
def execDisableLane (p : PortId) (body : List Byte) (s : State) : Result :=
  .next (takeRequest p .disableLane body (answerDisable body) s)
/-- CANCEL_LANE (R86). -/
def execCancelLane (p : PortId) (body : List Byte) (s : State) : Result :=
  .next (takeRequest p .cancelLane body (answerCancel body) s)
/-- CLEAR_STAGE (R87). -/
def execClearStage (p : PortId) (body : List Byte) (s : State) : Result :=
  .next (takeRequest p .clearStage body answerClearStage s)
/-- TRACKER_STATUS (R61). -/
def execTrackerStatus (p : PortId) (body : List Byte) (s : State) : Result :=
  .next (takeRequest p .trackerStatus body answerTrackerStatus s)
/-- READY (R115). -/
def execReady (p : PortId) (body : List Byte) (s : State) : Result :=
  .next (takeRequest p .ready body (answerReady p body) s)
/-- TALLY (R126). -/
def execTally (p : PortId) (body : List Byte) (s : State) : Result :=
  .next (takeRequest p .tally body (answerTally p body) s)
/-- RECONFIRM (R128). -/
def execReconfirm (p : PortId) (body : List Byte) (s : State) : Result :=
  .next (takeRequest p .reconfirm body (answerReconfirm p) s)

end Sys2Proof.Machine
end

