-- ==== Sys2Proof/Machine/PortRequests.lean ====
section
/-! DEFINITION. Machine/PortRequests.lean: IDENTIFY, PORT STATUS, CONFIGURE PORT, FETCH NOTICES, SET PARAMETERS, READ
PARAMETERS, REQUEST GRANT and RELEASE GRANT (R182 to R185, R189, R27 to R31). -/

namespace Sys2Proof.Machine

/-! ### Identity and status (R184) -/

/-- IDENTIFY (R184, R187). -/
def answerIdentify (s : State) : State × Reply :=
  (s, .okWith (num2 0x0F5A ++ num2 0x0408 ++ num1 0x01 ++ num1 8 ++ num1 4 ++ num1 4))

/-- The fill of the answer slot as PORT STATUS reports it to a port: its own answer is in preparation (R184). -/
def slotFill (asker q : PortId) (x : Port) : Nat := if asker = q then 1 else if x.slot.isSome then 1 else 0

/-- The fields of PORT STATUS (R184). -/
def State.portReport (s : State) (asker q : PortId) : List Byte :=
  let x := s.port q
  encBool x.attached ++ num1 x.roles.code ++ num1 x.subscription.code ++ num1 x.rate.code ++ num1 x.threshold ++
    num1 x.receiveQueue.length ++ num1 (slotFill asker q x) ++ num1 x.priority.length ++ num1 x.ordinary.length ++
    encBool x.attn ++ num1 (s.link q).code ++ num2 x.lostSinceFetch ++ num2 x.frameErrors ++ num2 x.overruns ++
    num2 x.noticesLost

/-- PORT STATUS (R184). -/
def answerPortStatus (p : PortId) (body : List Byte) (s : State) : State × Reply :=
  match portOf (byteAt body 0) with
  | none => (s, .bare .range)
  | some q => (s, .okWith (s.portReport p q))

/-! ### CONFIGURE PORT (R183) -/

/-- The four settings of a port. -/
structure PortSettings where
  roles : Roles
  subscription : Subscription
  rate : Rate
  threshold : Nat
  deriving DecidableEq, Repr

/-- The settings a body names, when every one is in range (R183, test 1; R188). -/
def settingsOf (body : List Byte) : Option PortSettings :=
  match rolesOf (byteAt body 1), subscriptionOf (byteAt body 2), rateOf (byteAt body 3) with
  | some r, some x, some b =>
    if 1 ≤ byteAt body 4 ∧ byteAt body 4 ≤ 32 then some { roles := r, subscription := x, rate := b, threshold := byteAt body 4 }
    else none
  | _, _, _ => none

/-- The removal of EDIT from the holder or a waiter (R37; R183, test 2). -/
def State.losesEdit (s : State) (q : PortId) (r : Roles) : Bool :=
  (s.port q).roles.edit && !r.edit && (s.grant.holder == some q || s.grant.waiting.contains q)

/-- The removal of RECORD from a punch port (R130; R183, test 3). -/
def State.losesRecord (s : State) (q : PortId) (r : Roles) : Bool :=
  (s.port q).roles.record && !r.record && s.isPunchPort q

/-- The removal of TRANSPORT from the active group's transport port (R145; R183, test 4). -/
def State.losesTransport (s : State) (q : PortId) (r : Roles) : Bool :=
  (s.port q).roles.transport && !r.transport &&
    match s.activeGroup with
    | none => false
    | some g => (s.group g).port == some q

/-- A rate that another port's CONFIGURE PORT gives: at once on an idle line, else at the end of the message being sent
(R183). It replaces a rate that waits for that same end, and cancels one that waits with the port's own answer in the slot (log 11). -/
def Port.takeRate (x : Port) (b : Rate) : Port :=
  let x1 : Port := { x with slot := x.slot.map fun a => { a with newRate := none } }
  match x1.transmitting with
  | none => { x1 with lineRate := b }
  | some t => { x1 with transmitting := some { t with newRate := some b } }

/-- The settings are written (R183). The requester's own rate waits for the answer. -/
def writeSettings (p q : PortId) (y : PortSettings) (s : State) : State :=
  let x := s.port q
  let x1 : Port := { x with roles := y.roles, subscription := y.subscription, rate := y.rate, threshold := y.threshold }
  let s1 := s.setPort q (if p = q then x1 else x1.takeRate y.rate)
  if x.roles.record && !y.roles.record then clearReadyOf q s1 else s1

/-- CONFIGURE PORT (R183). -/
def answerConfigurePort (p : PortId) (body : List Byte) (s : State) : State × Reply :=
  match portOf (byteAt body 0), settingsOf body with
  | some q, some y =>
    if s.losesEdit q y.roles || s.losesRecord q y.roles || s.losesTransport q y.roles then (s, .bare .busy)
    else
      (writeSettings p q y s,
        { status := .ok
          fields := num1 y.roles.code ++ num1 y.subscription.code ++ num1 y.rate.code ++ num1 y.threshold
          newRate := if p = q then some y.rate else none })
  | _, _ => (s, .bare .range)

/-! ### FETCH NOTICES (R182, R189) -/

/-- The oldest notices, at most so many, as long as their entries fit the room: those taken and those left (R189). -/
def takeNotices : Nat → Nat → List Notice → List Notice × List Notice
  | 0, _, ns => ([], ns)
  | _ + 1, _, [] => ([], [])
  | k + 1, room, n :: ns =>
    if n.entry.length ≤ room then
      let r := takeNotices k (room - n.entry.length) ns
      (n :: r.1, r.2)
    else ([], n :: ns)

/-- The bytes of an answer body before the notices: status, count, lost, number (R189). -/
def fetchFixed : Nat := 5

/-- FETCH NOTICES (R182, R189). -/
def answerFetch (p : PortId) (s : State) : State × Reply :=
  let x := s.port p
  let r := takeNotices 4 (Config.maxBody - fetchFixed) x.ordinary
  (s.setPort p { x with ordinary := r.2, lostSinceFetch := 0 },
    .okWith (num1 r.2.length ++ num2 x.lostSinceFetch ++ num1 r.1.length ++ (r.1.map Notice.entry).flatten))

/-! ### Parameters (R62, R63, R185) -/

/-- The eight values a body names, when every one is in range (R185). -/
def paramsOf (b : List Byte) : Option Params :=
  if isFrameRate (byteAt b 0) = true ∧ 2 ≤ byteAt b 1 ∧ byteAt b 1 ≤ 15 ∧ byteAt b 2 ≤ 15 ∧ 16 ≤ byteAt b 3 ∧
      byteAt b 3 ≤ 128 ∧ byteAt b 4 ≤ 2 ∧ 1 ≤ byteAt b 5 ∧ byteAt b 5 ≤ 60 ∧ 1 ≤ byteAt b 6 ∧ byteAt b 6 ≤ 30 then
    some { frameRate := byteAt b 0, lockCount := byteAt b 1, freewheelLimit := byteAt b 2, tallyInterval := byteAt b 3,
           missAllowance := byteAt b 4, grantTimeout := byteAt b 5, locateTimeout := byteAt b 6, bidThreshold := byteAt b 7 }
  else none

/-- The parameters as SET PARAMETERS carries and answers them (R185). -/
def Params.bytes (x : Params) : List Byte :=
  num1 x.frameRate ++ num1 x.lockCount ++ num1 x.freewheelLimit ++ num1 x.tallyInterval ++ num1 x.missAllowance ++
    num1 x.grantTimeout ++ num1 x.locateTimeout ++ num1 x.bidThreshold

/-- Whether the new values would disturb what runs (R62, R63, R185). -/
def State.paramsBusy (s : State) (x : Params) : Bool :=
  (s.tracker.mode == .freewheel && decide (x.freewheelLimit < s.tracker.freewheel)) ||
    (x.frameRate != s.params.frameRate && allLanes.any fun l => (s.lane l).mode.inCycle)

/-- SET PARAMETERS (R62, R63, R185). -/
def answerSetParameters (body : List Byte) (s : State) : State × Reply :=
  match paramsOf body with
  | none => (s, .bare .range)
  | some x => if s.paramsBusy x then (s, .bare .busy) else ({ s with params := x }, .okWith x.bytes)

/-- READ PARAMETERS: the word-wait factor, in tenths, at its place in the table, after the freewheel limit
(R185, R187). -/
def answerReadParameters (s : State) : State × Reply :=
  let x := s.params
  (s, .okWith (num1 x.frameRate ++ num1 x.lockCount ++ num1 x.freewheelLimit ++ num1 15 ++ num1 x.tallyInterval ++
    num1 x.missAllowance ++ num1 x.grantTimeout ++ num1 x.locateTimeout ++ num1 x.bidThreshold))

/-! ### The grant (R27 to R31) -/

/-- A reply of ALREADY or QUEUED with its place, 0 for HOLDER (R27, R187). -/
def placeReply (x : Status) (place : Nat) : Reply := { status := x, fields := num1 place, newRate := none }

/-- A port joins the end of the wait list (R29). -/
def State.joinWaiting (s : State) (p : PortId) : State :=
  { s with grant := { s.grant with waiting := s.grant.waiting ++ [p] } }

/-- REQUEST GRANT (R27). -/
def answerRequestGrant (p : PortId) (s : State) : State × Reply :=
  match s.grant.holder with
  | none => (giveAtOnce p s, .okWith (num1 0))
  | some h =>
    if h = p then (s, placeReply .already 0)
    else if s.grant.waiting.contains p then (s, placeReply .already (placeOf p s.grant.waiting))
    else (s.joinWaiting p, placeReply .queued (s.grant.waiting.length + 1))

/-- RELEASE GRANT (R30, R31). -/
def answerReleaseGrant (p : PortId) (s : State) : State × Reply :=
  if s.grant.holder = some p then
    (releaseByHolder p s, .okWith (num2 (s.table.afterRelease s.grant.changed).generation.toNat))
  else if s.grant.waiting.contains p then (s.leaveWaiting p, .okWith [])
  else (s, .bare .notHeld)

/-! ### The commands -/

/-- IDENTIFY (R184). -/
def execIdentify (p : PortId) (body : List Byte) (s : State) : Result :=
  .next (takeRequest p .identify body answerIdentify s)
/-- PORT_STATUS (R184). -/
def execPortStatus (p : PortId) (body : List Byte) (s : State) : Result :=
  .next (takeRequest p .portStatus body (answerPortStatus p body) s)
/-- CONFIGURE_PORT (R183). -/
def execConfigurePort (p : PortId) (body : List Byte) (s : State) : Result :=
  .next (takeRequest p .configurePort body (answerConfigurePort p body) s)
/-- FETCH_NOTICES (R182). -/
def execFetchNotices (p : PortId) (body : List Byte) (s : State) : Result :=
  .next (takeRequest p .fetchNotices body (answerFetch p) s)
/-- SET_PARAMETERS (R185). -/
def execSetParameters (p : PortId) (body : List Byte) (s : State) : Result :=
  .next (takeRequest p .setParameters body (answerSetParameters body) s)
/-- READ_PARAMETERS (R185). -/
def execReadParameters (p : PortId) (body : List Byte) (s : State) : Result :=
  .next (takeRequest p .readParameters body answerReadParameters s)
/-- REQUEST_GRANT (R27). -/
def execRequestGrant (p : PortId) (body : List Byte) (s : State) : Result :=
  .next (takeRequest p .requestGrant body (answerRequestGrant p) s)
/-- RELEASE_GRANT (R30, R31). -/
def execReleaseGrant (p : PortId) (body : List Byte) (s : State) : Result :=
  .next (takeRequest p .releaseGrant body (answerReleaseGrant p) s)

end Sys2Proof.Machine
end

