-- ==== Sys2Proof/Machine/StageRequests.lean ====
section
/-! DEFINITION. Machine/StageRequests.lean: the requests of the Loop Controller (R135, R144, R147), the take journal (R154,
R155, R158, R159) and the Line Unit (R170, R171). -/

namespace Sys2Proof.Machine

/-! ### The Loop Controller -/

/-- The operands of START LOOP, when they are in range (R135, test 1). -/
structure LoopOrder where
  group : GroupId
  limit : Nat
  preroll : Nat
  deriving DecidableEq, Repr

/-- The operands as a body names them (R135, test 1). -/
def loopOrderOf (b : List Byte) : Option LoopOrder :=
  match groupOf (byteAt b 0) with
  | none => none
  | some g =>
    if byteAt b 1 ≤ 99 ∧ wordAt b 2 ≤ 480 then some { group := g, limit := byteAt b 1, preroll := wordAt b 2 } else none

/-- The group is started (R136). -/
def startGroup (o : LoopOrder) (port : PortId) (sp : LoopSpan) (s : State) : State :=
  loopLocate o.group .start sp
    (s.setGroup o.group { s.group o.group with passes := 0, limit := o.limit, preroll := o.preroll, port := some port })

/-- The fields START LOOP answers with: reel, span start, span end, locate frame, transport port (R135). -/
def Group.startBytes (x : Group) : List Byte :=
  encSmall x.reel ++ encFrame x.spanStart ++ encFrame x.spanEnd ++ num3 x.locateFrame ++ encIndex x.port

/-- START LOOP after its operands have been found in range (R135, tests 2 to 5; R136). -/
def startLoop (o : LoopOrder) (s : State) : State × Reply :=
  if s.activeGroup.isSome then (s, .bare .busy)
  else
    match s.transportPort with
    | none => (s, .bare .noTransport)
    | some q =>
      match s.spanOf (s.armableMembers o.group) with
      | none => (s, .bare .noCue)
      | some sp =>
        if oneReel (s.armableMembers o.group) then
          (startGroup o q sp s, .okWith ((startGroup o q sp s).group o.group).startBytes)
        else (s, .bare .range)

/-- START LOOP (R135). -/
def answerStartLoop (body : List Byte) (s : State) : State × Reply :=
  match loopOrderOf body with
  | none => (s, .bare .range)
  | some o => startLoop o s

/-- A named group is stopped when it is the active one (R144). -/
def stopGroup (g : GroupId) (s : State) : State :=
  if s.activeGroup = some g then loopStopActive .stopRequest s else s

/-- STOP LOOP (R144). -/
def answerStopLoop (body : List Byte) (s : State) : State × Reply :=
  match groupOf (byteAt body 0) with
  | none => (s, .bare .range)
  | some g => (stopGroup g s, .okWith (num1 ((stopGroup g s).group g).mode.code))

/-- The record of a group as READ LOOP carries it (R133, R147). -/
def Group.bytes (x : Group) : List Byte :=
  num1 x.mode.code ++ num1 x.cause.code ++ num1 x.passes ++ num1 x.limit ++ num2 x.preroll ++ encSmall x.reel ++
    encFrame x.spanStart ++ encFrame x.spanEnd ++ encIndex x.port

/-- The fields of READ LOOP; locate sent and the time left are NO and 0 when the group is not LOCATING (R147; log 9). -/
def State.loopReport (s : State) (g : GroupId) : List Byte :=
  let locating := (s.group g).mode == .locating
  (s.group g).bytes ++ encBool (s.activeGroup == some g) ++ encBool (locating && s.loop.locateSent) ++
    num2 (if locating then s.loop.locateTimer.left else 0) ++ num1 (allLanes.countP fun l => s.lanePinsMember g l)

/-- READ LOOP (R147). -/
def answerReadLoop (body : List Byte) (s : State) : State × Reply :=
  match groupOf (byteAt body 0) with
  | none => (s, .bare .range)
  | some g => (s, .okWith (s.loopReport g))

/-! ### The take journal -/

/-- READ JOURNAL (R158, 11.5). -/
def answerReadJournal (body : List Byte) (s : State) : State × Reply :=
  let j := s.journal
  let found := j.entries.filter fun e => decide (frameAt body 0 ≤ e.sequence)
  let shown := found.take 2
  (s, .okWith (num2 j.entries.length ++ num2 (j.entries.countP fun e => e.circled) ++ encSequence j.next ++
    encBool j.isSealed ++ num1 shown.length ++ encBool (found.length ≤ 2) ++ (shown.map JournalEntry.bytes).flatten))

/-- The newest entry of a cue and take (R154). -/
def State.entryOf (s : State) (cue take : Nat) : Option JournalEntry := s.newest fun e => e.cue == cue && e.take == take

/-- The answer to a circle or uncircle: the sequence and the cue's field after the claim (R154, R155). -/
def State.circleBytes (s : State) (e : JournalEntry) : List Byte := num3 e.sequence ++ num1 (s.cueField e.cue).code

/-- Whether the cue and take of a circle are in range (R154). -/
def circleInRange (b : List Byte) : Bool := wordAt b 0 != 0 && decide (1 ≤ byteAt b 2 ∧ byteAt b 2 ≤ 99)

/-- CIRCLE TAKE (R154). -/
def answerCircle (p : PortId) (body : List Byte) (s : State) : State × Reply :=
  if circleInRange body = false then (s, .bare .range)
  else
    match s.entryOf (wordAt body 0) (byteAt body 2) with
    | none => (s, .bare .notFound)
    | some e => (circle e (.port p) s, .okWith ((circle e (.port p) s).circleBytes e))

/-- UNCIRCLE TAKE (R155). -/
def answerUncircle (p : PortId) (body : List Byte) (s : State) : State × Reply :=
  if circleInRange body = false then (s, .bare .range)
  else
    match s.entryOf (wordAt body 0) (byteAt body 2) with
    | none => (s, .bare .notFound)
    | some e => (uncircle e (.port p) s, .okWith ((uncircle e (.port p) s).circleBytes e))

/-- TRIM JOURNAL (UNCIRCLED): the circled entries stay (R159). -/
def trimUncircled (s : State) : State := s.setEntries (s.journal.entries.filter fun e => e.circled)

/-- TRIM JOURNAL (ALL) (R159). -/
def trimAll (s : State) : State := clearAllCircled { s with journal := { entries := [], next := some 1, isSealed := false } }

/-- TRIM JOURNAL (R159). -/
def answerTrim (body : List Byte) (s : State) : State × Reply :=
  let n := s.journal.entries.length
  match boolOf (byteAt body 0) with
  | none => (s, .bare .range)
  | some false => (trimUncircled s, .okWith (num2 (n - (trimUncircled s).journal.entries.length)))
  | some true => (trimAll s, .okWith (num2 n))

/-! ### The Line Unit -/

/-- A line named by a body (11.4). -/
inductive LineName where
  | input (i : LineId)
  | output (o : LineId)
  deriving DecidableEq, Repr

/-- I0 to I7 0x00 to 0x07, O0 to O7 0x10 to 0x17 (11.4). -/
def lineOf (n : Nat) : Option LineName :=
  if n < 0x10 then (laneOf n).map .input else (laneOf (n - 0x10)).map .output

/-- An input line's settings, level and activity (R171; log 12). -/
def InputLine.bytes (x : InputLine) : List Byte :=
  num1 x.function.code ++ num1 x.trigger.code ++ num1 (levelCode x.polarity) ++ num1 x.debounce ++ num1 (levelCode x.level) ++
    encBool x.active

/-- An output line's settings, activity and driven level (R171; log 12). -/
def State.outputBytes (s : State) (o : LineId) : List Byte :=
  num1 (s.output o).function.code ++ num1 (levelCode (s.output o).polarity) ++ num1 (s.output o).span.code ++
    encBool (s.outputActive o) ++ num1 (levelCode (s.outputLevel o))

/-- SET LINE of an input line (R170). -/
def setInputFrom (i : LineId) (b : List Byte) (s : State) : State × Reply :=
  match inputFunctionOf (byteAt b 1), triggerOf (byteAt b 2), polarityOf (byteAt b 3) with
  | some f, some t, some pol =>
    if 1 ≤ byteAt b 4 ∧ byteAt b 4 ≤ 15 then
      (setInputLine i f t pol (byteAt b 4) s, .okWith ((setInputLine i f t pol (byteAt b 4) s).input i).bytes)
    else (s, .bare .range)
  | _, _, _ => (s, .bare .range)

/-- SET LINE of an output line; its trigger byte is 0 (R170, 11.2). -/
def setOutputFrom (o : LineId) (b : List Byte) (s : State) : State × Reply :=
  match outputFunctionOf (byteAt b 1), polarityOf (byteAt b 3), spanOf (byteAt b 4) with
  | some f, some pol, some x =>
    if byteAt b 2 = 0 then (setOutputLine o f pol x s, .okWith ((setOutputLine o f pol x s).outputBytes o))
    else (s, .bare .range)
  | _, _, _ => (s, .bare .range)

/-- SET LINE (R170). -/
def answerSetLine (body : List Byte) (s : State) : State × Reply :=
  match lineOf (byteAt body 0) with
  | none => (s, .bare .range)
  | some (.input i) => setInputFrom i body s
  | some (.output o) => setOutputFrom o body s

/-- The tone lines as READ LINES carries them (R171). -/
def State.toneBytes (s : State) (t : ToneId) : List Byte := encBool (s.toneSounding t) ++ num2 s.marks.collisions[t]

/-- The fields of READ LINES (R171; log 8). -/
def State.linesReport (s : State) : List Byte :=
  (allLines.map fun i => (s.input i).bytes).flatten ++ encBool s.lines.holdToggle ++ encBool s.directorHold ++
    (allLines.map fun o => s.outputBytes o).flatten ++ num1 s.straps.frameRate ++ num1 (levelCode s.straps.o2) ++
    (allTones.map fun t => s.toneBytes t).flatten

/-- READ LINES (R171). -/
def answerReadLines (s : State) : State × Reply := (s, .okWith s.linesReport)

/-! ### The commands -/

/-- START_LOOP (R135). -/
def execStartLoop (p : PortId) (body : List Byte) (s : State) : Result :=
  .next (takeRequest p .startLoop body (answerStartLoop body) s)
/-- STOP_LOOP (R144). -/
def execStopLoop (p : PortId) (body : List Byte) (s : State) : Result :=
  .next (takeRequest p .stopLoop body (answerStopLoop body) s)
/-- READ_LOOP (R147). -/
def execReadLoop (p : PortId) (body : List Byte) (s : State) : Result :=
  .next (takeRequest p .readLoop body (answerReadLoop body) s)
/-- READ_JOURNAL (R158). -/
def execReadJournal (p : PortId) (body : List Byte) (s : State) : Result :=
  .next (takeRequest p .readJournal body (answerReadJournal body) s)
/-- CIRCLE_TAKE (R154). -/
def execCircleTake (p : PortId) (body : List Byte) (s : State) : Result :=
  .next (takeRequest p .circleTake body (answerCircle p body) s)
/-- UNCIRCLE_TAKE (R155). -/
def execUncircleTake (p : PortId) (body : List Byte) (s : State) : Result :=
  .next (takeRequest p .uncircleTake body (answerUncircle p body) s)
/-- TRIM_JOURNAL (R159). -/
def execTrimJournal (p : PortId) (body : List Byte) (s : State) : Result :=
  .next (takeRequest p .trimJournal body (answerTrim body) s)
/-- SET_LINE (R170). -/
def execSetLine (p : PortId) (body : List Byte) (s : State) : Result :=
  .next (takeRequest p .setLine body (answerSetLine body) s)
/-- READ_LINES (R171). -/
def execReadLines (p : PortId) (body : List Byte) (s : State) : Result :=
  .next (takeRequest p .readLines body answerReadLines s)

end Sys2Proof.Machine
end

