-- ==== Sys2Proof/Machine/TableRequests.lean ====
section
/-! DEFINITION. Machine/TableRequests.lean: the requests of the Cue Table: edits, reads and lead-in profiles (R5 to R18). -/

namespace Sys2Proof.Machine

/-- An edit answered OK: the new records and the holder's change flag (R12). -/
def edited (rs : List CueRecord) (s : State) : State := setChanged (s.setRecords rs)

/-! ### Edits (R5 to R12) -/

/-- INSERT CUE (R7). -/
def answerInsert (body : List Byte) (s : State) : State × Reply :=
  match cueOf (cueFields body) 0 none with
  | none => (s, .bare .range)
  | some c =>
    if (s.record c.number).isSome then (s, .bare .duplicate)
    else if Config.tableCapacity ≤ s.table.records.length then (s, .bare .tableFull)
    else if overlaps c s.table.records then (s, .bare .laneOverlap)
    else (edited (placeCue c s.table.records) s, .okWith (num2 (s.table.records.length + 1)))

/-- The tests of AMEND CUE after the record has been found (R8). -/
def amendFound (old c : CueRecord) (s : State) : State × Reply :=
  if s.isPinned old.number then (s, .bare .pinned)
  else if c.takeLimit < old.takeCount then (s, .bare .range)
  else if overlaps c s.table.records then (s, .bare .laneOverlap)
  else
    (edited (placeCue { c with takeCount := old.takeCount, circled := old.circled } (dropCue old.number s.table.records)) s,
      .okWith [])

/-- AMEND CUE (R8). -/
def answerAmend (body : List Byte) (s : State) : State × Reply :=
  match cueOf (cueFields body) 0 none with
  | none => (s, .bare .range)
  | some c =>
    match s.record c.number with
    | none => (s, .bare .noCue)
    | some old => amendFound old c s

/-- DELETE CUE (R9). -/
def answerDelete (body : List Byte) (s : State) : State × Reply :=
  let n := wordAt body 0
  if n = 0 then (s, .bare .range)
  else if (s.record n).isNone then (s, .bare .noCue)
  else if s.isPinned n then (s, .bare .pinned)
  else (edited (dropCue n s.table.records) s, .okWith [])

/-- HOLD CUE (R10). -/
def answerHold (body : List Byte) (s : State) : State × Reply :=
  let n := wordAt body 0
  match boolOf (byteAt body 2) with
  | none => (s, .bare .range)
  | some h =>
    if n = 0 then (s, .bare .range)
    else
      match s.record n with
      | none => (s, .bare .noCue)
      | some c =>
        (edited (changeCue n (fun x => { x with hold := h }) s.table.records) s,
          .okWith (num1 (CueRecord.status { c with hold := h }).code))

/-- CLEAR TABLE (R11). -/
def answerClearTable (s : State) : State × Reply :=
  if s.pinnedRecords.isEmpty then (edited [] s, .okWith (num2 s.table.records.length)) else (s, .bare .pinned)

/-! ### Reads (R13 to R15) -/

/-- READ CUE (R13). -/
def answerReadCue (body : List Byte) (s : State) : State × Reply :=
  let n := wordAt body 0
  if n = 0 then (s, .bare .range)
  else
    match s.record n with
    | none => (s, .bare .noCue)
    | some c => (s, .okWith (s.cueAnswer c))

/-- The record NEXT CUE names, the END marker as none, or no such start (R14). -/
def State.cueAfter (s : State) (start : Nat) : Option (Option CueRecord) :=
  if start = 0 then some s.table.records.head? else nextInOrder start s.table.records

/-- NEXT CUE (R14, 11.5). -/
def answerNextCue (body : List Byte) (s : State) : State × Reply :=
  let generation := num2 s.table.generation.toNat
  match s.cueAfter (wordAt body 0) with
  | none => (s, .bare .noCue)
  | some none => (s, .okWith (generation ++ num1 0))
  | some (some c) => (s, .okWith (generation ++ num1 1 ++ s.cueAnswer c))

/-- TABLE STATUS (R15). -/
def answerTableStatus (s : State) : State × Reply :=
  (s, .okWith (num2 s.table.records.length ++ encBool s.table.confirmed ++ num2 s.table.generation.toNat ++
    num1 s.pinnedRecords.length))

/-! ### Profiles (R16 to R18) -/

/-- The profile a body names, when every value is in range (R16, R17). -/
def profileValues (b : List Byte) : Option Profile :=
  if byteAt b 1 ≤ 240 ∧ byteAt b 2 ≤ 4 ∧ 1 ≤ byteAt b 3 ∧ byteAt b 3 ≤ 60 ∧ 1 ≤ byteAt b 4 ∧ byteAt b 4 ≤ 8 ∧
      byteAt b 4 ≤ byteAt b 3 ∧ byteAt b 5 ≤ 8 ∧ byteAt b 6 ≤ 120 ∧ byteAt b 7 ≤ 240 then
    some { wipe := byteAt b 1, pips := byteAt b 2, spacing := byteAt b 3, pipLength := byteAt b 4, flash := byteAt b 5,
           recordLead := byteAt b 6, tail := byteAt b 7 }
  else none

/-- One profile takes new values. -/
def State.setProfile (s : State) (q : ProfileId) (x : Profile) : State :=
  { s with table := { s.table with profiles := s.table.profiles.set q x } }

/-- SET PROFILE (R17). -/
def answerSetProfile (body : List Byte) (s : State) : State × Reply :=
  match profileOf (byteAt body 0), profileValues body with
  | some q, some x => if s.profileUsers q = 0 then (s.setProfile q x, .okWith []) else (s, .bare .busy)
  | _, _ => (s, .bare .range)

/-- READ PROFILE (R18). -/
def answerReadProfile (body : List Byte) (s : State) : State × Reply :=
  match profileOf (byteAt body 0) with
  | none => (s, .bare .range)
  | some q =>
    let x := s.profile q
    (s, .okWith (num1 x.wipe ++ num1 x.pips ++ num1 x.spacing ++ num1 x.pipLength ++ num1 x.flash ++ num1 x.recordLead ++
      num1 x.tail ++ num1 (s.profileUsers q)))

/-! ### The commands -/

/-- TABLE_STATUS (R15). -/
def execTableStatus (p : PortId) (body : List Byte) (s : State) : Result :=
  .next (takeRequest p .tableStatus body answerTableStatus s)
/-- INSERT_CUE (R7). -/
def execInsertCue (p : PortId) (body : List Byte) (s : State) : Result :=
  .next (takeRequest p .insertCue body (answerInsert body) s)
/-- AMEND_CUE (R8). -/
def execAmendCue (p : PortId) (body : List Byte) (s : State) : Result :=
  .next (takeRequest p .amendCue body (answerAmend body) s)
/-- DELETE_CUE (R9). -/
def execDeleteCue (p : PortId) (body : List Byte) (s : State) : Result :=
  .next (takeRequest p .deleteCue body (answerDelete body) s)
/-- HOLD_CUE (R10). -/
def execHoldCue (p : PortId) (body : List Byte) (s : State) : Result :=
  .next (takeRequest p .holdCue body (answerHold body) s)
/-- CLEAR_TABLE (R11). -/
def execClearTable (p : PortId) (body : List Byte) (s : State) : Result :=
  .next (takeRequest p .clearTable body answerClearTable s)
/-- READ_CUE (R13). -/
def execReadCue (p : PortId) (body : List Byte) (s : State) : Result :=
  .next (takeRequest p .readCue body (answerReadCue body) s)
/-- NEXT_CUE (R14). -/
def execNextCue (p : PortId) (body : List Byte) (s : State) : Result :=
  .next (takeRequest p .nextCue body (answerNextCue body) s)
/-- SET_PROFILE (R17). -/
def execSetProfile (p : PortId) (body : List Byte) (s : State) : Result :=
  .next (takeRequest p .setProfile body (answerSetProfile body) s)
/-- READ_PROFILE (R18). -/
def execReadProfile (p : PortId) (body : List Byte) (s : State) : Result :=
  .next (takeRequest p .readProfile body (answerReadProfile body) s)

end Sys2Proof.Machine
end

