-- ==== Sys2Proof/Machine/Dispatch.lean ====
section
/-! DEFINITION. Machine/Dispatch.lean: the meaning of each command, one arm for each row of the table. -/

namespace Sys2Proof.Machine

def exec (i : Instr) (s : State) : Host.Outcome State Fault Refusal :=
  match i with
  | .resetAssert => Sys2Proof.Machine.execResetAssert s
  | .resetRelease o2 o1 o0 => Sys2Proof.Machine.execResetRelease o2 o1 o0 s
  | .positionWord bytes => Sys2Proof.Machine.execPositionWord bytes s
  | .wordGapTimeout bytes => Sys2Proof.Machine.execWordGapTimeout bytes s
  | .wordWaitExpiry => Sys2Proof.Machine.execWordWaitExpiry s
  | .freewheelStepExpiry => Sys2Proof.Machine.execFreewheelStepExpiry s
  | .lanePositionAdvance l => Sys2Proof.Machine.execLanePositionAdvance l s
  | .laneRollLost l => Sys2Proof.Machine.execLaneRollLost l s
  | .punchPositionAdvance => Sys2Proof.Machine.execPunchPositionAdvance s
  | .markStartHandoff l => Sys2Proof.Machine.execMarkStartHandoff l s
  | .markEndHandoff l => Sys2Proof.Machine.execMarkEndHandoff l s
  | .markPositionAdvance => Sys2Proof.Machine.execMarkPositionAdvance s
  | .overlayWord => Sys2Proof.Machine.execOverlayWord s
  | .loopPositionAdvance => Sys2Proof.Machine.execLoopPositionAdvance s
  | .loopLockEntry => Sys2Proof.Machine.execLoopLockEntry s
  | .loopRollLost => Sys2Proof.Machine.execLoopRollLost s
  | .locateTimerExpiry => Sys2Proof.Machine.execLocateTimerExpiry s
  | .grantIdleExpiry => Sys2Proof.Machine.execGrantIdleExpiry s
  | .inputLineChange n => Sys2Proof.Machine.execInputLineChange n s
  | .portAttach p => Sys2Proof.Machine.execPortAttach p s
  | .portDetach p => Sys2Proof.Machine.execPortDetach p s
  | .receiveFrame p chars => Sys2Proof.Machine.execReceiveFrame p chars s
  | .interByteTimeout p bytes => Sys2Proof.Machine.execInterByteTimeout p bytes s
  | .frameError p => Sys2Proof.Machine.execFrameError p s
  | .unknownKind p kind body => Sys2Proof.Machine.execUnknownKind p kind body s
  | .transmitTake p => Sys2Proof.Machine.execTransmitTake p s
  | .transmitComplete p => Sys2Proof.Machine.execTransmitComplete p s
  | .identify p body => Sys2Proof.Machine.execIdentify p body s
  | .portStatus p body => Sys2Proof.Machine.execPortStatus p body s
  | .configurePort p body => Sys2Proof.Machine.execConfigurePort p body s
  | .fetchNotices p body => Sys2Proof.Machine.execFetchNotices p body s
  | .setParameters p body => Sys2Proof.Machine.execSetParameters p body s
  | .readParameters p body => Sys2Proof.Machine.execReadParameters p body s
  | .requestGrant p body => Sys2Proof.Machine.execRequestGrant p body s
  | .releaseGrant p body => Sys2Proof.Machine.execReleaseGrant p body s
  | .tableStatus p body => Sys2Proof.Machine.execTableStatus p body s
  | .insertCue p body => Sys2Proof.Machine.execInsertCue p body s
  | .amendCue p body => Sys2Proof.Machine.execAmendCue p body s
  | .deleteCue p body => Sys2Proof.Machine.execDeleteCue p body s
  | .holdCue p body => Sys2Proof.Machine.execHoldCue p body s
  | .clearTable p body => Sys2Proof.Machine.execClearTable p body s
  | .readCue p body => Sys2Proof.Machine.execReadCue p body s
  | .nextCue p body => Sys2Proof.Machine.execNextCue p body s
  | .setProfile p body => Sys2Proof.Machine.execSetProfile p body s
  | .readProfile p body => Sys2Proof.Machine.execReadProfile p body s
  | .setLane p body => Sys2Proof.Machine.execSetLane p body s
  | .readLane p body => Sys2Proof.Machine.execReadLane p body s
  | .enableLane p body => Sys2Proof.Machine.execEnableLane p body s
  | .disableLane p body => Sys2Proof.Machine.execDisableLane p body s
  | .cancelLane p body => Sys2Proof.Machine.execCancelLane p body s
  | .clearStage p body => Sys2Proof.Machine.execClearStage p body s
  | .trackerStatus p body => Sys2Proof.Machine.execTrackerStatus p body s
  | .ready p body => Sys2Proof.Machine.execReady p body s
  | .tally p body => Sys2Proof.Machine.execTally p body s
  | .reconfirm p body => Sys2Proof.Machine.execReconfirm p body s
  | .startLoop p body => Sys2Proof.Machine.execStartLoop p body s
  | .stopLoop p body => Sys2Proof.Machine.execStopLoop p body s
  | .readLoop p body => Sys2Proof.Machine.execReadLoop p body s
  | .readJournal p body => Sys2Proof.Machine.execReadJournal p body s
  | .circleTake p body => Sys2Proof.Machine.execCircleTake p body s
  | .uncircleTake p body => Sys2Proof.Machine.execUncircleTake p body s
  | .trimJournal p body => Sys2Proof.Machine.execTrimJournal p body s
  | .setLine p body => Sys2Proof.Machine.execSetLine p body s
  | .readLines p body => Sys2Proof.Machine.execReadLines p body s
  | .wordByteWithoutStopBit bytes => Sys2Proof.Machine.execWordByteWithoutStopBit bytes s
  | .inputSample n v => Sys2Proof.Machine.execInputSample n v s
  | .presentSample p v => Sys2Proof.Machine.execPresentSample p v s

end Sys2Proof.Machine
end

