-- ==== Sys2Proof/Safety.lean ====
section
/-! DEFINITION. Safety.lean: what holds of the part between any two steps, as predicates on its state, and the words the
statements use: a port that can take a request, a state in which nothing is outstanding, a state with one answer more. -/

namespace Sys2Proof.Machine

/-! ### Words of the statements -/

/-- RESET is released, the port is attached, its answer slot is empty, and the request stands first in its queue or arrives on
an empty one (R177; log 7). -/
def State.canTake (s : State) (p : PortId) (k : Request) (body : List Byte) : Prop :=
  s.resetHeld = false ∧ (s.port p).attached = true ∧ (s.port p).slot = none ∧
    ((s.port p).receiveQueue = [] ∨ (s.port p).receiveQueue.head? = some (.request k.code body))

/-- The port has the role the request needs, and the grant where it needs it (R178). -/
def State.allowed (s : State) (p : PortId) (k : Request) : Prop :=
  k.need.roleMet (s.port p).roles = true ∧ (k.need.wantsGrant = true → s.grant.holder = some p)

/-- An answer stands in the port's slot, and the holder's idle timer runs at its full length if the port is the holder (R34,
R177). -/
def State.answered (s : State) (p : PortId) (kind : Byte) (body : List Byte) : State :=
  restartIdle p (s.placeAnswer p { kind := kind, body := body, newRate := none })

/-- The six body bytes that follow a sync byte on POSIN are a valid word, and the receiver hunts when they come (R41, R42). -/
def State.hears (s : State) (b : List Byte) (w : PositionWord) : Prop :=
  s.resetHeld = false ∧ s.tracker.receiver = none ∧ b.length = 6 ∧ wordOf b = some w

/-- Nothing the tracker offered and no hand-off is outstanding (log 4). -/
def State.quiet (s : State) : Prop :=
  s.offered.lanes = Vector.replicate 8 false ∧ s.offered.marks = false ∧ s.offered.punch = false ∧ s.offered.loop = false ∧
    s.handoffs = []

/-- A port to which a notice is posted: it joins the end of the ordinary queue, or is dropped and counted twice when 32 wait
there (R181). -/
def Port.hasPosted (x : Port) (n : Notice) : Port :=
  let more (k : Nat) : Nat := if k < 65535 then k + 1 else k
  if x.ordinary.length < 32 then { x with ordinary := x.ordinary ++ [n] }
  else { x with lostSinceFetch := more x.lostSinceFetch, noticesLost := more x.noticesLost }

/-! ### Parts of the state -/

/-- The parts of the state, one for each field. -/
inductive Part where
  | resetHeld
  | straps
  | params
  | table
  | grant
  | tracker
  | offered
  | lanes
  | handoffs
  | marks
  | punch
  | links
  | loop
  | journal
  | lines
  | ports
  | pending
  deriving DecidableEq, Repr

/-- A part is the same in two states. -/
def Part.same (x : Part) (s t : State) : Prop :=
  match x with
  | .resetHeld => t.resetHeld = s.resetHeld
  | .straps => t.straps = s.straps
  | .params => t.params = s.params
  | .table => t.table = s.table
  | .grant => t.grant = s.grant
  | .tracker => t.tracker = s.tracker
  | .offered => t.offered = s.offered
  | .lanes => t.lanes = s.lanes
  | .handoffs => t.handoffs = s.handoffs
  | .marks => t.marks = s.marks
  | .punch => t.punch = s.punch
  | .links => t.links = s.links
  | .loop => t.loop = s.loop
  | .journal => t.journal = s.journal
  | .lines => t.lines = s.lines
  | .ports => t.ports = s.ports
  | .pending => t.pending = s.pending

/-- Only these parts may differ between two states. -/
def TouchesOnly (xs : List Part) (s t : State) : Prop := ∀ x : Part, x ∉ xs → x.same s t

/-! ### Lanes and takes -/

/-- The advance is offered to the lane, which has still to take it (section 3.5). -/
def State.offersLane (s : State) (l : LaneId) (a : Advance) : Prop :=
  s.resetHeld = false ∧ s.offered.event = some (.advance a) ∧ s.offered.lanes[l] = true

/-- A roll lost is offered to the lane, which has still to take it (section 3.5). -/
def State.offersLaneLost (s : State) (l : LaneId) : Prop :=
  s.resetHeld = false ∧ (∃ r, s.offered.event = some (.lost r)) ∧ s.offered.lanes[l] = true

/-- No group waits for the release of a pin (R141). -/
def State.notDraining (s : State) : Prop := ∀ g : GroupId, s.activeGroup = some g → (s.group g).mode ≠ .draining

/-- The conditions of an arming claim (R72). -/
def State.armingAllowed (s : State) (l : LaneId) : Prop :=
  s.table.confirmed = true ∧ s.directorHold = false ∧ (s.lane l).closing = false ∧
    ((s.lane l).routing.requireReady = false ∨ (s.lane l).readyLatch = true ∨ s.readyLevel l = true)

/-- The tail-yield test finds nothing to yield to at the frame (R81). -/
def State.noYield (s : State) (l : LaneId) (reel p : Nat) : Prop :=
  s.table.confirmed = false ∨ s.directorHold = true ∨ (s.lane l).closing = true ∨
    ∀ c, s.offer l reel p = some c → (s.frames c).leadIn ≠ p + 1

/-- The cycle record of a take that begins at an advance on the cue's record: the take number, the begin frame, the group and pass
of an active group of the cue, and FREEWHEELED when the advance carries the mark (R77, R82). -/
def State.begunRecord (s : State) (c : CycleRecord) (r : CueRecord) (a : Advance) : CycleRecord :=
  { c with
    begun := true, take := some (r.takeCount + 1), begin := some a.frame, last := a.frame
    loop :=
      match s.activeGroup with
      | none => none
      | some g => if r.group = some g then some { group := g, pass := (s.group g).passes + 1 } else none
    flags := { c.flags with freewheeled := c.flags.freewheeled || a.freewheel } }

/-- What the end of a begun take makes of the state (R89, R90, R120 to R122). The Punch Unit is told. The Mark Generator is handed
the end, or, where `told` says that the lane has left TAKE, takes an exit that still waits as MARK_END_HANDOFF does, so that its
flag is in the cycle record when the entry is built (R149; log 15). The entry, with what `added` adds to the flags, goes to the
journal; the count rises and the pin goes, which the Loop Controller hears of (log 24); CYCLE ENDED is posted, and the lane is in
STANDBY, or OFF if it was closing. -/
def EndedTake (l : LaneId) (c : CycleRecord) (take : Nat) (told : Bool) (outcome : TakeOutcome) (reason : PunchReason)
    (added : Flags → Flags) (s t : State) : Prop :=
  let recorded : Option PortId :=
    match (s.punchOf l).mode with
    | .recording p _ => some p
    | .broken p => some p
    | .idle => none
    | .dry _ => none
    | .queued _ => none
  let dry : Option DryReason :=
    match (s.punchOf l).mode with
    | .dry r => some r
    | .queued _ => some .notSent
    | .idle => none
    | .recording _ _ => none
    | .broken _ => none
  let priority (p : PortId) : List PriorityNotice :=
    match (s.punchOf l).mode with
    | .queued q => if p = q then (s.port p).priority.filter (fun x => !x.isPunchIn l) else (s.port p).priority
    | .recording q _ =>
      if p = q ∧ (s.port p).attached = true then (s.port p).priority ++ [.punchOut l c.cue take reason c.last]
      else (s.port p).priority
    | .idle => (s.port p).priority
    | .dry _ => (s.port p).priority
    | .broken _ => (s.port p).priority
  let final : TakeOutcome := if c.broken = true then .broken else outcome
  let next : LaneMode := if (s.lane l).closing = true then .off else .standby
  let entry (flags : Flags) : JournalEntry :=
    { sequence := 0, cue := c.cue, lane := l, reel := c.reel, take := take, outcome := final, recorded := recorded.isSome
      flags := { added flags with dry := dry }, circled := false, begin := c.begin.getD 0, last := c.last
      recordPort := recorded, misses := if recorded.isSome = true then (s.punchOf l).total else 0, loop := c.loop }
  ∃ (v w : State) (flags : Flags),
    v.punch = s.punch.set l { s.punchOf l with mode := .idle } ∧
      (∀ p : PortId, v.port p = { s.port p with priority := priority p }) ∧
      TouchesOnly [.punch, .ports] s v ∧
      (if told = true then exec (.markEndHandoff l) v = .next w else w = v.handOff (.stop l false)) ∧
      (w.lane l).cycle = some { c with flags := flags } ∧
      let j := journalWrite (entry flags) w
      let u : State :=
        { j.1 with
          table :=
            { j.1.table with
              records := j.1.table.records.map fun r => if r.number = c.cue then { r with takeCount := r.takeCount + 1 } else r }
          lanes := w.lanes.set l { w.lane l with pinned := none } }
      t =
        post .lane (.cycleEnded l c.cue take final recorded.isSome j.2 next)
          ((afterRelease c.cue u).setLane l
            { s.lane l with mode := next, pinned := none, cycle := none, readyLatch := false, closing := false })

/-- What cancelling a lane makes of the state while no group is active (R84, R86, R87): OFF and STANDBY stay; ARMED lets its cue go;
a take that has not begun is a false start; a begun take ends with the reason CANCEL. -/
def CancelledLane (l : LaneId) (s t : State) : Prop :=
  let x := s.lane l
  let gone (m : LaneMode) : Lane := { x with mode := m, pinned := none, cycle := none, closing := false }
  (x.mode = .off ∨ x.mode = .standby → t = s) ∧
    (x.mode = .armed → t = s.setLane l (gone .standby)) ∧
    ∀ c : CycleRecord, x.cycle = some c →
      (x.mode = .leadin → c.begun = false →
        t = (s.handOff (.stop l false)).setLane l
          { gone (if x.closing = true then .off else .standby) with falseStarts := satInc x.falseStarts }) ∧
        (x.mode = .leadin ∨ x.mode = .take ∨ x.mode = .tail → c.begun = true →
          EndedTake l c (c.take.getD 0) (decide (x.mode = .tail)) .cancelled .cancel id s t)

/-- The pip of a setup that begins at a frame, the first one where several would (R94, R97). -/
def MarkSetup.beginsPip (m : MarkSetup) (p : Nat) (pip : Option Nat) : Prop :=
  match pip with
  | none => ∀ k : Nat, 1 ≤ k → k ≤ m.pips → p + k * m.spacing ≠ m.markRef
  | some k => 1 ≤ k ∧ k ≤ m.pips ∧ p + k * m.spacing = m.markRef ∧ ∀ j : Nat, 1 ≤ j → j < k → p + j * m.spacing ≠ m.markRef

/-! ### Requests as commands -/

/-- The command in which a port takes a request of a kind. -/
def Request.command (k : Request) (p : PortId) (body : List Byte) : Instr :=
  match k with
  | .identify => .identify p body
  | .portStatus => .portStatus p body
  | .configurePort => .configurePort p body
  | .fetchNotices => .fetchNotices p body
  | .setParameters => .setParameters p body
  | .readParameters => .readParameters p body
  | .requestGrant => .requestGrant p body
  | .releaseGrant => .releaseGrant p body
  | .tableStatus => .tableStatus p body
  | .insertCue => .insertCue p body
  | .amendCue => .amendCue p body
  | .deleteCue => .deleteCue p body
  | .holdCue => .holdCue p body
  | .clearTable => .clearTable p body
  | .readCue => .readCue p body
  | .nextCue => .nextCue p body
  | .setProfile => .setProfile p body
  | .readProfile => .readProfile p body
  | .setLane => .setLane p body
  | .readLane => .readLane p body
  | .enableLane => .enableLane p body
  | .disableLane => .disableLane p body
  | .cancelLane => .cancelLane p body
  | .clearStage => .clearStage p body
  | .trackerStatus => .trackerStatus p body
  | .ready => .ready p body
  | .tally => .tally p body
  | .reconfirm => .reconfirm p body
  | .startLoop => .startLoop p body
  | .stopLoop => .stopLoop p body
  | .readLoop => .readLoop p body
  | .readJournal => .readJournal p body
  | .circleTake => .circleTake p body
  | .uncircleTake => .uncircleTake p body
  | .trimJournal => .trimJournal p body
  | .setLine => .setLine p body
  | .readLines => .readLines p body

/-- The port takes a request of the right length with the role and the grant it needs: the request reaches its block (R178). -/
def State.admits (s : State) (p : PortId) (k : Request) (body : List Byte) : Prop :=
  s.canTake p k body ∧ k.lengthFits body = true ∧ s.allowed p k

/-- What the request answers: from the state without the item, the block's state with the answer in the slot (R177, R178). -/
def Answers (k : Request) (p : PortId) (body : List Byte) (s : State) (block : State) (fields : List Byte) : Prop :=
  exec (k.command p body) s = .next (block.answered p (k.code + 0x80) fields)

/-! ### The Position Tracker (R43, R44, R54, R60) -/

/-- The parameters lie in their ranges (R185). -/
def Params.wf (x : Params) : Prop :=
  isFrameRate x.frameRate = true ∧ 2 ≤ x.lockCount ∧ x.lockCount ≤ 15 ∧ x.freewheelLimit ≤ 15 ∧ 16 ≤ x.tallyInterval ∧
    x.tallyInterval ≤ 128 ∧ x.missAllowance ≤ 2 ∧ 1 ≤ x.grantTimeout ∧ x.grantTimeout ≤ 60 ∧ 1 ≤ x.locateTimeout ∧
    x.locateTimeout ≤ 30 ∧ x.bidThreshold ≤ 255

/-- A published position lies in its ranges. -/
def Position.wf (q : Position) : Prop := 1 ≤ q.reel ∧ q.reel ≤ 99 ∧ q.frame ≤ Config.lastFrame

/-- What R43 and R54 say of the tracker's items. -/
def Tracker.wf (t : Tracker) (x : Params) : Prop :=
  (t.position.isNone ↔ t.mode = .idle) ∧ (t.motion.isNone ↔ t.mode = .idle) ∧ (∀ q ∈ t.position, q.wf) ∧
    (t.run = 0 ↔ t.mode ≠ .acquiring) ∧ t.run ≤ 15 ∧
    (t.freewheel = 0 ↔ t.mode ≠ .freewheel) ∧ t.freewheel ≤ x.freewheelLimit ∧
    (t.stepTimer.isRunning = true ↔ t.mode = .freewheel) ∧
    (t.wordWait.isRunning = true ↔ t.mode ≠ .idle ∧ t.mode ≠ .freewheel) ∧
    t.words ≤ 65535 ∧ t.badWords ≤ 65535 ∧ t.jumps ≤ 65535 ∧ t.losses ≤ 65535

/-- The tracker and the parameters keep to R43, R54, R60 and R185. -/
def State.trackerInv (s : State) : Prop := s.params.wf ∧ s.tracker.wf s.params

/-! ### The Grant Arbiter (R26 to R29, R37) -/

/-- The port is attached and has EDIT. -/
def State.isEditor (s : State) (p : PortId) : Prop := (s.port p).attached = true ∧ (s.port p).roles.edit = true

/-- The holder is no waiter, its timer runs; with no holder nobody waits, the flag is OFF and the timer stopped; holder and
waiters are attached and have EDIT, and no port waits twice. -/
def State.grantInv (s : State) : Prop :=
  s.grant.waiting.Nodup ∧ (∀ p ∈ s.grant.waiting, s.isEditor p) ∧
    match s.grant.holder with
    | none => s.grant.waiting = [] ∧ s.grant.changed = false ∧ s.grant.idle = .stopped
    | some p => p ∉ s.grant.waiting ∧ s.isEditor p ∧ s.grant.idle.isRunning = true

/-! ### The take journal (R149, R151) -/

/-- At most 1,024 entries with strictly increasing sequence numbers, all below the next one; sealed exactly when there is no
next one. -/
def State.journalInv (s : State) : Prop :=
  s.journal.entries.length ≤ Config.journalCapacity ∧
    s.journal.entries.Pairwise (fun a b => a.sequence < b.sequence) ∧
    (∀ e ∈ s.journal.entries, 1 ≤ e.sequence ∧ e.sequence ≤ Config.lastSequence) ∧
    (s.journal.isSealed = true ↔ s.journal.next = none) ∧
    (∀ n ∈ s.journal.next, 1 ≤ n ∧ n ≤ Config.lastSequence ∧ ∀ e ∈ s.journal.entries, e.sequence < n)

/-! ### Client ports (R173, R175, R177, R181) -/

/-- A port's queues keep to their places, its counters to their range; PRESENT and the attach state agree; a detached port
holds nothing. -/
def Port.wf (x : Port) : Prop :=
  x.receiveQueue.length ≤ Config.receivePlaces ∧ x.ordinary.length ≤ Config.ordinaryPlaces ∧
    (x.attached = true ↔ x.presentLevel = .high) ∧ x.presentDiffering < Config.presentDebounce ∧
    1 ≤ x.threshold ∧ x.threshold ≤ 32 ∧
    x.lostSinceFetch ≤ 65535 ∧ x.frameErrors ≤ 65535 ∧ x.overruns ≤ 65535 ∧ x.noticesLost ≤ 65535 ∧
    (x.attached = false → x.receiver = none ∧ x.receiveQueue = [] ∧ x.slot = none ∧ x.priority = [] ∧ x.ordinary = [] ∧
      x.transmitting = none ∧ x.lostSinceFetch = 0)

/-- Every port keeps to R173, R175, R177 and R181. -/
def State.portsInv (s : State) : Prop := ∀ p : PortId, (s.port p).wf

/-! ### The Loop Controller (R133) -/

/-- At most one group is active; the locate timer runs exactly while a group is LOCATING, and locate sent is YES only then. -/
def State.loopInv (s : State) : Prop :=
  (∀ g h : GroupId, (s.group g).mode.isActive = true → (s.group h).mode.isActive = true → g = h) ∧
    (s.loop.locateTimer.isRunning = true ↔ ∃ g : GroupId, (s.group g).mode = .locating) ∧
    (s.loop.locateSent = true → ∃ g : GroupId, (s.group g).mode = .locating)

/-! ### The Cue Table and the pins (R2, R20, R22, R67) -/

/-- The records: at most 512, in table order, one for each cue number, no two windows of one lane and reel sharing a frame, no
count above its limit. -/
def State.tableInv (s : State) : Prop :=
  s.table.records.length ≤ Config.tableCapacity ∧ s.table.records.Pairwise (fun a b => cueBefore a b = true) ∧
    s.table.records.Pairwise (fun a b => a.number ≠ b.number ∧ overlaps a [b] = false) ∧
    ∀ c ∈ s.table.records, c.takeCount ≤ c.takeLimit

/-- A lane's pin, cycle record and closing flag agree with its state, and its pinned record is in the table under the lane's
number with its count below its limit. -/
def State.laneInv (s : State) (l : LaneId) : Prop :=
  ((s.lane l).closing = true → (s.lane l).mode.running = true) ∧
    match (s.lane l).pinned with
    | none => (s.lane l).mode.inCycle = false ∧ (s.lane l).cycle = none
    | some n =>
      (s.lane l).mode.inCycle = true ∧ (∃ y, (s.lane l).cycle = some y ∧ y.cue = n) ∧
        ∃ c ∈ s.table.records, c.number = n ∧ c.lane = l ∧ c.takeCount < c.takeLimit

/-- The table and the pins keep to R2, R20, R22 and R67. -/
def State.cueInv (s : State) : Prop := s.tableInv ∧ ∀ l : LaneId, s.laneInv l

/-! ### Punch notices (R123, R180) -/

/-- Whether a priority notice is a punch notice of the lane. -/
def PriorityNotice.isPunch (l : LaneId) (n : PriorityNotice) : Bool := n.isPunchIn l || n.isPunchOut l

/-- A port's priority queue holds at most one punch notice of each lane and at most one transport notice; a PUNCH IN waits only
for a lane that is QUEUED on that port; a RECORDING lane has no punch notice on its port; and a punch state other than IDLE
belongs to a cycle whose take has begun. -/
def State.punchInv (s : State) : Prop :=
  (∀ p : PortId, (s.port p).priority.countP PriorityNotice.isTransport ≤ 1) ∧
    (∀ (p : PortId) (l : LaneId), (s.port p).priority.countP (PriorityNotice.isPunch l) ≤ 1) ∧
    (∀ (p : PortId) (l : LaneId), (s.port p).priority.any (PriorityNotice.isPunchIn l) = true →
      (s.punchOf l).mode = .queued p) ∧
    (∀ (p : PortId) (l : LaneId) (n : Nat), (s.punchOf l).mode = .recording p n →
      (s.port p).priority.any (PriorityNotice.isPunch l) = false) ∧
    (∀ l : LaneId, (s.punchOf l).mode ≠ .idle → (s.lane l).mode.running = true ∧ s.takeBegun l = true)

/-! ### Overlay channels (R101) -/

/-- A channel is BLANK exactly when it has no holder; a lane that holds a channel is that channel's holder, so that no channel
is held by two lanes; and a lane with no mark setup has the bid state IDLE (R95). -/
def State.overlayInv (s : State) : Prop :=
  (∀ c : ChannelId, (s.channel c).holder = none ↔ (s.channel c).drawing = .blank) ∧
    (∀ (l : LaneId) (c : ChannelId), (s.markLane l).bid = .holding c → (s.channel c).holder = some l) ∧
    ∀ l : LaneId, (s.markLane l).setup = none → (s.markLane l).bid = .idle

end Sys2Proof.Machine
end

