-- ==== Sys2Proof/WellFormed.lean ====
section
/-! DEFINITION. WellFormed.lean: which terms of Instr are commands the part can meet: the lengths that the lines' frames
and words have (R41, R176, 11.1, 11.8). The meanings are total and do not rest on it. -/

namespace Sys2Proof

/-- A body that fits a frame: LEN counts the kind byte and at most 63 body bytes (11.1). -/
def bodyFits (body : List Byte) : Bool := body.length ≤ Config.maxBody

/-- The request codes of 11.2. -/
def requestCodes : List Nat :=
  [0x01, 0x02, 0x03, 0x04, 0x05, 0x06, 0x08, 0x09, 0x0A] ++
  [0x10, 0x11, 0x12, 0x13, 0x14, 0x15, 0x16, 0x18, 0x19, 0x1A, 0x1B, 0x1C, 0x1D, 0x1E, 0x1F] ++
  [0x20, 0x22, 0x23, 0x24, 0x26, 0x27, 0x28, 0x2A, 0x2B, 0x2C, 0x2D, 0x2E, 0x2F]

/-- Well-formed commands: a position word has seven bytes, a word or frame that is cut off has fewer bytes than a whole
one, a frame brings between 1 and 67 characters, an UNKNOWN_KIND names no request code, a body fits its frame. -/
def WellFormed (i : Instr) : Bool :=
  match i with
  | .resetAssert => true
  | .resetRelease _ _ _ => true
  | .positionWord bytes => bytes.length == 7
  | .wordGapTimeout bytes => bytes.length ≤ 6
  | .wordWaitExpiry => true
  | .freewheelStepExpiry => true
  | .lanePositionAdvance _ => true
  | .laneRollLost _ => true
  | .punchPositionAdvance => true
  | .markStartHandoff _ => true
  | .markEndHandoff _ => true
  | .markPositionAdvance => true
  | .overlayWord => true
  | .loopPositionAdvance => true
  | .loopLockEntry => true
  | .loopRollLost => true
  | .locateTimerExpiry => true
  | .grantIdleExpiry => true
  | .inputLineChange _ => true
  | .portAttach _ => true
  | .portDetach _ => true
  | .receiveFrame _ chars => 1 ≤ chars.length && chars.length ≤ 67
  | .interByteTimeout _ bytes => bytes.length ≤ 66
  | .frameError _ => true
  | .unknownKind _ kind body => !requestCodes.contains kind.toNat && bodyFits body
  | .transmitTake _ => true
  | .transmitComplete _ => true
  | .identify _ body => bodyFits body
  | .portStatus _ body => bodyFits body
  | .configurePort _ body => bodyFits body
  | .fetchNotices _ body => bodyFits body
  | .setParameters _ body => bodyFits body
  | .readParameters _ body => bodyFits body
  | .requestGrant _ body => bodyFits body
  | .releaseGrant _ body => bodyFits body
  | .tableStatus _ body => bodyFits body
  | .insertCue _ body => bodyFits body
  | .amendCue _ body => bodyFits body
  | .deleteCue _ body => bodyFits body
  | .holdCue _ body => bodyFits body
  | .clearTable _ body => bodyFits body
  | .readCue _ body => bodyFits body
  | .nextCue _ body => bodyFits body
  | .setProfile _ body => bodyFits body
  | .readProfile _ body => bodyFits body
  | .setLane _ body => bodyFits body
  | .readLane _ body => bodyFits body
  | .enableLane _ body => bodyFits body
  | .disableLane _ body => bodyFits body
  | .cancelLane _ body => bodyFits body
  | .clearStage _ body => bodyFits body
  | .trackerStatus _ body => bodyFits body
  | .ready _ body => bodyFits body
  | .tally _ body => bodyFits body
  | .reconfirm _ body => bodyFits body
  | .startLoop _ body => bodyFits body
  | .stopLoop _ body => bodyFits body
  | .readLoop _ body => bodyFits body
  | .readJournal _ body => bodyFits body
  | .circleTake _ body => bodyFits body
  | .uncircleTake _ body => bodyFits body
  | .trimJournal _ body => bodyFits body
  | .setLine _ body => bodyFits body
  | .readLines _ body => bodyFits body
  | .wordByteWithoutStopBit bytes => bytes.length ≤ 6
  | .inputSample _ _ => true
  | .presentSample _ _ => true

end Sys2Proof
end

