-- ==== Sys2Proof/Certificates/Slice0/Obligations.lean ====
section
/-! DEFINITION. Certificates/Slice0/Obligations.lean: the statements about the CJ408 for the provers. A request's statement
is an equality of states wherever the rules fix the whole next state, so that it says its frame as well. -/

section

open Sys2Proof Sys2Proof.Machine

/-! ### The step, reset and the queue -/

/-- The step takes the command at the front of the queue and runs it on the state with the queue's rest. -/
def Obligations.StepRunsTheFrontCommand : Prop :=
  ∀ (c : Instr) (rest : List Instr) (s : State), step { s with pending := c :: rest } = exec c { s with pending := rest }

/-- With no command waiting, a step is one millisecond (the model's choice, log 2): nothing while RESET is held; otherwise the
four timers lose a millisecond, and when no timer runs down nothing else changes; the timers that run down expire as their own
commands say, the word-wait timer first, then the freewheel step, the grant idle and the locate timer. -/
def Obligations.IdleStepCountsOneMillisecond : Prop :=
  ∀ s : State, s.pending = [] →
    let less (x : Timer) : Timer :=
      match x with
      | .stopped => .stopped
      | .running ms => .running (ms - 1)
    let counted : State :=
      { s with
        tracker := { s.tracker with wordWait := less s.tracker.wordWait, stepTimer := less s.tracker.stepTimer }
        grant := { s.grant with idle := less s.grant.idle }
        loop := { s.loop with locateTimer := less s.loop.locateTimer } }
    let goesOn (x : Timer) : Prop := x = .stopped ∨ 2 ≤ x.left
    let due (x : Timer) (c : Instr) (u v : State) : Prop := (x = .running 0 → exec c u = .next v) ∧ (x ≠ .running 0 → v = u)
    (s.resetHeld = true → step s = .next s) ∧
      (s.resetHeld = false → goesOn s.tracker.wordWait → goesOn s.tracker.stepTimer →
        (goesOn s.grant.idle → goesOn s.loop.locateTimer → step s = .next counted) ∧
          (s.grant.idle = .running 1 → goesOn s.loop.locateTimer → step s = exec .grantIdleExpiry counted) ∧
          (s.loop.locateTimer = .running 1 → goesOn s.grant.idle → step s = exec .locateTimerExpiry counted)) ∧
      (s.resetHeld = false →
        ∃ t u v w : State, due counted.tracker.wordWait .wordWaitExpiry counted t ∧
          due t.tracker.stepTimer .freewheelStepExpiry t u ∧ due u.grant.idle .grantIdleExpiry u v ∧
          due v.loop.locateTimer .locateTimerExpiry v w ∧ step s = .next w)

/-- Every command answers a next state, and none but the step itself touches the queue: the spec names nothing that stops the
part. That RESET_ASSERT and RESET_RELEASE leave the waiting commands is the model's choice (log 26). -/
def Obligations.EveryCommandAnswersAState : Prop :=
  ∀ (c : Instr) (s : State), ∃ t : State, exec c s = .next t ∧ t.pending = s.pending

/-- RESET_ASSERT from any state: O3 to O7 are driven LOW, O0 to O2 are high-impedance, every port is detached, so that ATTN is
inactive and no byte is heard, nothing is being sent, no word is on OVL and every tone line is silent; the straps stay as they
were sampled (log 6) and so do the waiting commands (log 26). While RESET is held no command but RESET_ASSERT and RESET_RELEASE
changes anything, and RESET_RELEASE while it is not held changes nothing (log 1). -/
def Obligations.ResetAssertHoldsThePart : Prop :=
  ∀ s : State,
    (∃ t : State, exec .resetAssert s = .next t ∧ t.resetHeld = true ∧ t.straps = s.straps ∧ t.pending = s.pending ∧
      (∀ o : LineId, t.outputPin o = if o.val ≤ 2 then none else some .low) ∧
      (∀ p : PortId, (t.port p).attached = false ∧ (t.port p).attn = false ∧ (t.port p).transmitting = none ∧
        (t.port p).receiveQueue = [] ∧ (t.port p).priority = [] ∧ (t.port p).ordinary = [] ∧ (t.port p).slot = none) ∧
      t.marks.ovl = none ∧ (∀ x : ToneId, t.toneSounding x = false) ∧ t.tracker.receiver = none) ∧
      (∀ c : Instr, s.resetHeld = true → c ≠ .resetAssert → (∀ o2 o1 o0 : Level, c ≠ .resetRelease o2 o1 o0) →
        exec c s = .next s) ∧
      ∀ o2 o1 o0 : Level, s.resetHeld = false → exec (.resetRelease o2 o1 o0) s = .next s

/-- RESET_RELEASE while RESET is held: the straps are the sampled levels; FRATE gives the nominal frame rate and the profiles,
BAUDSEL the rate of all four ports; every output, O0 to O2 among them, is driven LOW; no channel has a last word sent;
and every block has the values of the spec's reset tables. That the waiting commands stay is the model's choice (log 26). -/
def Obligations.ResetReleaseStartsThePart : Prop :=
  ∀ (o2 o1 o0 : Level) (s : State), s.resetHeld = true →
    let nf : Nat :=
      match o1, o0 with
      | .low, .low => 24
      | .low, .high => 25
      | .high, .low => 30
      | .high, .high => 48
    let baud : Rate :=
      match o2 with
      | .low => .b115200
      | .high => .b460800
    ∃ t : State, exec (.resetRelease o2 o1 o0) s = .next t ∧ t.resetHeld = false ∧ t.pending = s.pending ∧
      t.straps = { o2 := o2, o1 := o1, o0 := o0 } ∧ t.params.frameRate = nf ∧
      (∀ p : PortId, (t.port p).rate = baud ∧ (t.port p).lineRate = baud) ∧
      (∀ q : ProfileId, t.profile q =
        { wipe := 3 * nf, pips := 3, spacing := nf, pipLength := 2, flash := 2, recordLead := 2 * nf, tail := nf }) ∧
      (∀ o : LineId, t.outputPin o = some .low) ∧
      (∀ c : ChannelId, (t.channel c).lastSent = none ∧ (t.channel c).drawing = .blank ∧ (t.channel c).holder = none) ∧
      (t.params.lockCount = 4 ∧ t.params.freewheelLimit = 3 ∧ t.params.tallyInterval = 48 ∧ t.params.missAllowance = 1 ∧
        t.params.grantTimeout = 10 ∧ t.params.locateTimeout = 8 ∧ t.params.bidThreshold = 0) ∧
      (t.table.records = [] ∧ t.table.confirmed = false ∧ t.table.generation = 0) ∧
      (t.grant.holder = none ∧ t.grant.waiting = [] ∧ t.grant.changed = false ∧ t.grant.idle = .stopped) ∧
      (t.tracker.mode = .idle ∧ t.tracker.position = none ∧ t.tracker.motion = none ∧ t.tracker.run = 0 ∧
        t.tracker.freewheel = 0 ∧ t.tracker.wordWait = .stopped ∧ t.tracker.stepTimer = .stopped ∧ t.tracker.words = 0 ∧
        t.tracker.badWords = 0 ∧ t.tracker.jumps = 0 ∧ t.tracker.losses = 0 ∧ t.tracker.receiver = none) ∧
      (∀ l : LaneId,
        t.lane l =
          { routing := { recordPort := none, tone := none, colour := l.val, priority := 8, advance := 0, requireReady := false }
            mode := .off, pinned := none, cycle := none, readyLatch := false, closing := false, falseStarts := 0 } ∧
        t.markLane l = { setup := none, lastFrame := none, phase := .none, pip := none, bid := .idle } ∧
        t.punchOf l = { ready := false, mode := .idle, tallied := false, consecutive := 0, total := 0 }) ∧
      (t.marks.frame = none ∧ ∀ x : ToneId, t.marks.collisions[x] = 0) ∧
      (∀ g : GroupId,
        t.group g =
          { mode := .idle, cause := .none, passes := 0, limit := 0, preroll := 0, reel := none, spanStart := none,
            spanEnd := none, port := none }) ∧
      (t.loop.locateTimer = .stopped ∧ t.loop.locateSent = false) ∧
      (t.journal.entries = [] ∧ t.journal.next = some 1 ∧ t.journal.isSealed = false) ∧
      (∀ i : LineId,
        t.input i = { function := .none, trigger := .edge, polarity := .low, debounce := 5, level := .high, differing := 0 } ∧
        t.output i = { function := .none, polarity := .high, span := .toIn }) ∧
      t.lines.holdToggle = false ∧
      (∀ p : PortId, t.link p = .normal ∧ (t.port p).attached = false ∧ (t.port p).presentLevel = .low ∧
        (t.port p).presentDiffering = 0 ∧ (t.port p).roles = { edit := true, record := false, transport := false } ∧
        (t.port p).subscription =
          { table := true, grant := true, tracker := true, lane := true, loop := true, journal := true, lines := true } ∧
        (t.port p).threshold = 1 ∧ (t.port p).receiveQueue = [] ∧ (t.port p).slot = none ∧ (t.port p).priority = [] ∧
        (t.port p).ordinary = [] ∧ (t.port p).lostSinceFetch = 0 ∧ (t.port p).frameErrors = 0 ∧ (t.port p).overruns = 0 ∧
        (t.port p).noticesLost = 0)

/-- The state after reset meets every invariant stated below. -/
def Obligations.ResetStateMeetsTheInvariants : Prop :=
  State.reset.trackerInv ∧ State.reset.grantInv ∧ State.reset.journalInv ∧ State.reset.portsInv ∧ State.reset.loopInv ∧
    State.reset.cueInv ∧ State.reset.punchInv ∧ State.reset.overlayInv

/-! ### POSIN and the Position Tracker -/

/-- A complete word whose sum, reel, frame or motion fails its test is counted, and nothing else changes. A word in progress that
no byte follows for 2 ms, or that a byte without its stop bit follows, is abandoned: it counts as a bad word, the receiver hunts,
and nothing else changes. While the receiver hunts, bytes other than the sync byte, the gap and the broken byte change nothing. -/
def Obligations.BadOrAbandonedWordIsOnlyCounted : Prop :=
  ∀ (b : List Byte) (s : State), s.resetHeld = false →
    let counted : State := { s with tracker := { s.tracker with badWords := satInc s.tracker.badWords } }
    (s.tracker.receiver = none → b.length = 6 →
      (byteSum b ≠ 0 ∨ byteAt b 0 = 0 ∨ 99 < byteAt b 0 ∨ 1048575 < frameAt b 1 ∨ 5 < byteAt b 4) →
        exec (.positionWord (0xC5 :: b)) s = .next counted) ∧
      (s.tracker.receiver = none → b.length ≤ 5 →
        exec (.wordGapTimeout (0xC5 :: b)) s = .next counted ∧
          exec (.wordByteWithoutStopBit (0xC5 :: b)) s = .next counted) ∧
      (s.tracker.receiver = none → 0xC5 ∉ b →
        exec (.wordGapTimeout b) s = .next s ∧ exec (.wordByteWithoutStopBit b) s = .next s) ∧
      (∀ r : List Byte, s.tracker.receiver = some r →
        let t : State := { s with tracker := { s.tracker with receiver := none, badWords := satInc s.tracker.badWords } }
        exec (.wordGapTimeout []) s = .next t ∧ exec (.wordByteWithoutStopBit []) s = .next t)

/-- The bytes of every valid word, with the check byte that makes them sum to 0, read back as that word. -/
def Obligations.WordBytesReadBack : Prop :=
  ∀ (reel frame : Nat) (m : Motion), 1 ≤ reel → reel ≤ 99 → frame ≤ 1048575 →
    let body : List Byte := num1 reel ++ num3 frame ++ num1 m.code
    wordOf (body ++ [0 - byteSum body]) = some { reel := reel, frame := frame, motion := m }

/-- What follows from a word or an expiry: the tracker's new contents, TRACKER STATE when a cause is given, and, where an event
is given, its offer to all its receivers. A relock is the Loop Controller's alone. Where an earlier event or a hand-off is still
outstanding, it is taken first, as its own commands say: by the lanes L0 to L7, then the hand-offs in their order, the Mark
Generator, the Punch Unit, the Loop Controller (log 4). -/
def Obligations.TrackerChangeIsNoticedThenOffered : Prop :=
  ∀ (x : TrackerStep) (s : State),
    let told (u : State) : State :=
      match x.cause with
      | none => { u with tracker := x.tracker }
      | some c => post .tracker (.trackerState x.tracker.mode x.tracker.position c) { u with tracker := x.tracker }
    let offers (u : State) : Prop :=
      (∀ a : Advance, x.event = some (.advance a) →
        trackerApply x s =
          { told u with offered :=
              { event := some (.advance a), lanes := Vector.replicate 8 true, marks := true, punch := true, loop := true } }) ∧
        (∀ q : Position, x.event = some (.relock q) →
          trackerApply x s =
            { told u with offered :=
                { event := some (.relock q), lanes := Vector.replicate 8 false, marks := false, punch := false, loop := true } }) ∧
        (∀ r : RollLost, x.event = some (.lost r) →
          trackerApply x s =
            { told u with offered :=
                { event := some (.lost r), lanes := Vector.replicate 8 true, marks := false, punch := false, loop := true } })
    let after (c : Instr) (u : State) : State :=
      match exec c u with
      | .next v => v
      | .fault _ => s
      | .refused _ => s
    let lane (u : State) (l : LaneId) : State := after (.laneRollLost l) (after (.lanePositionAdvance l) u)
    let handOff (u : State) (h : Handoff) : State :=
      match h with
      | .start l _ _ => after (.markStartHandoff l) u
      | .stop l _ => after (.markEndHandoff l) u
    let lanes : State := [0, 1, 2, 3, 4, 5, 6, 7].foldl lane s
    let handed : State := lanes.handoffs.foldl handOff lanes
    let settled : State :=
      after .loopRollLost (after .loopLockEntry (after .loopPositionAdvance
        (after .punchPositionAdvance (after .markPositionAdvance handed))))
    (x.event = none → trackerApply x s = told s) ∧ (s.quiet → offers s) ∧ (s.resetHeld = false → offers settled)

/-- A valid word in IDLE, whatever else is outstanding: ACQUIRING with run 1, PARKED or SCANNING by its motion, its position
published, the word-wait timer started, TRACKER STATE posted, and nothing offered. -/
def Obligations.WordInIdle : Prop :=
  ∀ (b : List Byte) (w : PositionWord) (s : State), s.hears b w → s.tracker.mode = .idle →
    let row : TrackerMode × Nat × TrackerCause :=
      match w.motion with
      | .playFwd => (.acquiring, 1, .signal)
      | .still => (.parked, 0, .still)
      | .playRev => (.scanning, 0, .scan)
      | .variFwd => (.scanning, 0, .scan)
      | .variRev => (.scanning, 0, .scan)
      | .shuttle => (.scanning, 0, .scan)
    exec (.positionWord (0xC5 :: b)) s =
      .next (post .tracker (.trackerState row.1 (some { reel := w.reel, frame := w.frame }) row.2.2)
        { s with tracker :=
            { s.tracker with
              mode := row.1, position := some { reel := w.reel, frame := w.frame }, motion := some w.motion, run := row.2.1
              freewheel := 0, wordWait := .running (wordWaitMs s.params.frameRate), stepTimer := .stopped
              words := satInc s.tracker.words } })

/-- A PLAY_FWD word in ACQUIRING: a contiguous one extends the run or locks with the advance that carries ACQUIRED; any other
restarts the run. A PLAY_FWD word in PARKED or SCANNING starts a run. -/
def Obligations.PlayWordBeforeLock : Prop :=
  ∀ (b : List Byte) (w : PositionWord) (q : Position) (s : State), s.hears b w → w.motion = .playFwd →
    s.tracker.position = some q →
    let t := s.tracker.follow s.params.frameRate w
    let contiguous : Prop := w.reel = q.reel ∧ w.frame = q.frame + 1
    let answer (x : TrackerStep) : Prop := exec (.positionWord (0xC5 :: b)) s = .next (trackerApply x s)
    (s.tracker.mode = .acquiring → contiguous → s.params.lockCount ≤ s.tracker.run + 1 →
      answer
        { tracker := { t with mode := .locked, run := 0 }, cause := some .lock
          event := some (.advance { reel := w.reel, frame := w.frame, freewheel := false, lock := some .acquired }) }) ∧
      (s.tracker.mode = .acquiring → contiguous → s.tracker.run + 1 < s.params.lockCount →
        answer { tracker := { t with run := s.tracker.run + 1 }, cause := none, event := none }) ∧
      (s.tracker.mode = .acquiring → ¬contiguous → answer { tracker := { t with run := 1 }, cause := none, event := none }) ∧
      (s.tracker.mode = .parked ∨ s.tracker.mode = .scanning →
        answer { tracker := { t with mode := .acquiring, run := 1 }, cause := some .signal, event := none })

/-- A PLAY_FWD word while rolling: LOCKED goes on by a contiguous word and breaks by any other; FREEWHEEL relocks by a contiguous
word with an advance and by the late word without one, and breaks by any other. -/
def Obligations.PlayWordWhileRolling : Prop :=
  ∀ (b : List Byte) (w : PositionWord) (q : Position) (s : State), s.hears b w → w.motion = .playFwd →
    s.tracker.position = some q →
    let t := s.tracker.follow s.params.frameRate w
    let answer (x : TrackerStep) : Prop := exec (.positionWord (0xC5 :: b)) s = .next (trackerApply x s)
    let breaks (c : TrackerCause) : Prop :=
      answer
        { tracker := { t with mode := .acquiring, run := 1, jumps := satInc s.tracker.jumps }, cause := some c
          event := some (.lost { cause := c, mode := .acquiring, position := some { reel := w.reel, frame := w.frame } }) }
    (s.tracker.mode = .locked ∨ s.tracker.mode = .freewheel →
      (w.reel ≠ q.reel → breaks .reel) ∧
        (w.reel = q.reel → w.frame ≠ q.frame → w.frame ≠ q.frame + 1 → breaks .jump)) ∧
      (s.tracker.mode = .locked → w.reel = q.reel →
        (w.frame = q.frame → breaks .jump) ∧
          (w.frame = q.frame + 1 →
            answer
              { tracker := t, cause := none
                event := some (.advance { reel := w.reel, frame := w.frame, freewheel := false, lock := none }) })) ∧
      (s.tracker.mode = .freewheel → w.reel = q.reel →
        (w.frame = q.frame →
          answer
            { tracker := { t with mode := .locked }, cause := some .lock
              event := some (.relock { reel := w.reel, frame := w.frame }) }) ∧
          (w.frame = q.frame + 1 →
            answer
              { tracker := { t with mode := .locked }, cause := some .lock
                event := some (.advance { reel := w.reel, frame := w.frame, freewheel := false, lock := some .relocked }) }))

/-- A STILL word parks the tracker and a reverse, varispeed or shuttle word makes it scan, from every state: the state changes
with its cause unless it is there already, and a roll is lost when there was one. -/
def Obligations.StillAndScanningWords : Prop :=
  ∀ (b : List Byte) (w : PositionWord) (s : State), s.hears b w → w.motion ≠ .playFwd →
    let row : TrackerMode × TrackerCause := if w.motion = .still then (.parked, .still) else (.scanning, .scan)
    exec (.positionWord (0xC5 :: b)) s =
      .next (trackerApply
        { tracker := { s.tracker.follow s.params.frameRate w with mode := row.1, run := 0 }
          cause := if s.tracker.mode = row.1 then none else some row.2
          event :=
            if s.tracker.mode = .locked ∨ s.tracker.mode = .freewheel then
              some (.lost { cause := row.2, mode := row.1, position := some { reel := w.reel, frame := w.frame } })
            else none } s)

/-- The word-wait expiry by state, and the freewheel step: one frame more while the count is below the limit and the reel has one,
else the roll runs out. A timer that is stopped does not expire (log 1). -/
def Obligations.TrackerTimersExpire : Prop :=
  ∀ s : State, s.resetHeld = false →
    let idle : Tracker :=
      { s.tracker with
        mode := .idle, position := none, motion := none, run := 0, freewheel := 0, wordWait := .stopped, stepTimer := .stopped }
    let waits (x : TrackerStep) : Prop := exec .wordWaitExpiry s = .next (trackerApply x s)
    let steps (x : TrackerStep) : Prop := exec .freewheelStepExpiry s = .next (trackerApply x s)
    (s.tracker.wordWait.isRunning = false → exec .wordWaitExpiry s = .next s) ∧
      (s.tracker.wordWait.isRunning = true →
        (s.tracker.mode = .acquiring ∨ s.tracker.mode = .parked ∨ s.tracker.mode = .scanning →
          waits { tracker := idle, cause := some .signal, event := none }) ∧
          (∀ q : Position, s.tracker.mode = .locked → s.tracker.position = some q →
            (s.params.freewheelLimit = 0 ∨ 1048575 ≤ q.frame →
              waits
                { tracker := { idle with losses := satInc s.tracker.losses }, cause := some .loss
                  event := some (.lost { cause := .loss, mode := .idle, position := none }) }) ∧
              (1 ≤ s.params.freewheelLimit → q.frame < 1048575 → s.tracker.freewheel = 0 →
                waits
                  { tracker :=
                      { s.tracker with
                        mode := .freewheel, position := some { reel := q.reel, frame := q.frame + 1 }, freewheel := 1
                        wordWait := .stopped, stepTimer := .running (freewheelStepMs s.params.frameRate) }
                    cause := some .loss
                    event := some (.advance { reel := q.reel, frame := q.frame + 1, freewheel := true, lock := none }) }))) ∧
      (s.tracker.stepTimer.isRunning = false → exec .freewheelStepExpiry s = .next s) ∧
        (∀ q : Position, s.tracker.stepTimer.isRunning = true → s.tracker.mode = .freewheel → s.tracker.position = some q →
          (s.tracker.freewheel < s.params.freewheelLimit → q.frame < 1048575 →
            steps
              { tracker :=
                  { s.tracker with
                    position := some { reel := q.reel, frame := q.frame + 1 }, freewheel := s.tracker.freewheel + 1
                    wordWait := .stopped, stepTimer := .running (freewheelStepMs s.params.frameRate) }
                cause := none
                event := some (.advance { reel := q.reel, frame := q.frame + 1, freewheel := true, lock := none }) }) ∧
            (s.params.freewheelLimit ≤ s.tracker.freewheel ∨ 1048575 ≤ q.frame →
              steps
                { tracker :=
                    { s.tracker with
                      mode := .idle, position := none, motion := none, run := 0, freewheel := 0, wordWait := .stopped
                      stepTimer := .stopped, losses := satInc s.tracker.losses }
                  cause := some .loss
                  event := some (.lost { cause := .loss, mode := .idle, position := none }) }))

/-- The word-wait time is 1.5 nominal periods and the freewheel step 1, in whole milliseconds rounded up. -/
def Obligations.TimerLengths : Prop :=
  (∀ r : Nat, 0 < r →
    (3 * 1000 ≤ 2 * r * wordWaitMs r ∧ 2 * r * wordWaitMs r < 3 * 1000 + 2 * r) ∧
      (1000 ≤ r * freewheelStepMs r ∧ r * freewheelStepMs r < 1000 + r)) ∧
    (wordWaitMs 24 = 63 ∧ wordWaitMs 25 = 60 ∧ wordWaitMs 30 = 50 ∧ wordWaitMs 48 = 32) ∧
    (freewheelStepMs 24 = 42 ∧ freewheelStepMs 25 = 40 ∧ freewheelStepMs 30 = 34 ∧ freewheelStepMs 48 = 21)

/-! ### The lanes -/

/-- The offer: the first record in table order that is not pinned, names the lane and the reel, is not held, has takes left,
starts its lead-in after the frame and, with a group active, belongs to it. The offer of a re-arming claim: the same, but the
lane's own record counts whatever its hold, its pin and its place. -/
def Obligations.OfferIsTheFirstEligibleCue : Prop :=
  ∀ (s : State) (l : LaneId) (reel p : Nat) (c : CueRecord),
    let allowed (r : CueRecord) : Prop :=
      r.lane = l ∧ r.reel = reel ∧ r.takeCount < r.takeLimit ∧ ∀ g : GroupId, s.activeGroup = some g → r.group = some g
    let eligible (r : CueRecord) : Prop :=
      allowed r ∧ (∀ k : LaneId, (s.lane k).pinned ≠ some r.number) ∧ r.hold = false ∧
        (let q := s.profile r.profile
         let a := (s.lane l).routing.advance
         p < r.inFrame - max (max (q.wipe + a) (q.pips * q.spacing + a)) (max q.recordLead 1))
    let first (good : CueRecord → Prop) (x : Option CueRecord) : Prop :=
      (x = some c ↔
        ∃ before after : List CueRecord, s.table.records = before ++ c :: after ∧ good c ∧ ∀ r ∈ before, ¬good r) ∧
        (x = none ↔ ∀ r ∈ s.table.records, ¬good r)
    first eligible (s.offer l reel p) ∧
      ∀ own : Nat, first (fun r => eligible r ∨ (r.number = own ∧ allowed r)) (s.reoffer l reel p own)

/-- A STANDBY lane takes an advance: with the arming conditions met and a cue on offer it pins the cue, makes its cycle record,
enters ARMED and posts CUE ARMED; else it stays as it is. An OFF lane takes nothing from an advance, and a lane to which none is
offered is left alone (log 1). The ready level, one of the conditions, is active while some LEVEL line with ACTOR_READY for the
lane is at its active level. -/
def Obligations.StandbyLaneArms : Prop :=
  ∀ (l : LaneId) (s : State), s.resetHeld = false →
    (∀ a : Advance, s.offersLane l a →
      ((s.lane l).mode = .off → exec (.lanePositionAdvance l) s = .next (s.laneTook l)) ∧
        ((s.lane l).mode = .standby →
          (∀ c : CueRecord, s.armingAllowed l → s.offer l a.reel a.frame = some c →
            exec (.lanePositionAdvance l) s =
              .next (post .lane
                (.cueArmed l c.number none c.reel (s.frames c).leadIn c.inFrame (c.takeCount + 1) c.group)
                ((s.laneTook l).setLane l
                  { s.lane l with
                    mode := .armed, pinned := some c.number
                    cycle := some
                      { cue := c.number, reel := c.reel, leadIn := (s.frames c).leadIn, punchIn := (s.frames c).punchIn
                        markRef := (s.frames c).markRef, inFrame := c.inFrame, outFrame := c.outFrame
                        cycleEnd := (s.frames c).cycleEnd, profile := c.profile, record := c.record
                        character := c.character, slate := c.slate, begun := false, take := none, begin := none
                        last := a.frame, loop := none, broken := false, flags := Flags.empty } }))) ∧
            (¬s.armingAllowed l ∨ s.offer l a.reel a.frame = none →
              exec (.lanePositionAdvance l) s = .next (s.laneTook l)))) ∧
      ((∀ a : Advance, s.offered.event ≠ some (.advance a)) ∨ s.offered.lanes[l] = false →
        exec (.lanePositionAdvance l) s = .next s) ∧
      (s.readyLevel l = true ↔
        ∃ i : LineId, (s.input i).function = .actorReady l ∧ (s.input i).trigger = .level ∧
          (s.input i).level = (s.input i).polarity)

/-- An ARMED lane takes an advance: it keeps its cue when the table is UNCONFIRMED or offers the same cue, and then enters LEADIN
when the frame has reached the lead-in start, handing over its mark setup; where the frame has then reached the punch-in point of a
cue with record ON as well, the take begins within the entry; it switches to an earlier cue with CUE ARMED; it lets its cue go
when nothing is offered. -/
def Obligations.ArmedLaneAdvances : Prop :=
  ∀ (l : LaneId) (a : Advance) (c : CycleRecord) (n : Nat) (s : State), s.offersLane l a → (s.lane l).mode = .armed →
    (s.lane l).pinned = some n → (s.lane l).cycle = some c → c.begun = false →
    let keeps : Prop :=
      s.table.confirmed = false ∨ ∃ r : CueRecord, s.reoffer l a.reel a.frame n = some r ∧ r.number = n
    let y : CycleRecord := { c with last := a.frame }
    let q := s.profile c.profile
    let start : Handoff :=
      .start l
        { cue := c.cue, markRef := c.markRef, wipe := q.wipe, pips := q.pips, spacing := q.spacing
          pipLength := q.pipLength, flash := q.flash, tone := (s.lane l).routing.tone
          colour := (s.lane l).routing.colour, priority := (s.lane l).routing.priority } a.frame
    let answer (t : State) : Prop := exec (.lanePositionAdvance l) s = .next t
    (keeps → a.frame < c.leadIn → answer ((s.laneTook l).setLane l { s.lane l with cycle := some y })) ∧
      (keeps → c.leadIn ≤ a.frame → (c.record = false ∨ a.frame < c.punchIn) →
        answer (((s.laneTook l).setLane l { s.lane l with mode := .leadin, cycle := some y }).handOff start)) ∧
      (∀ r : CueRecord, keeps → c.leadIn ≤ a.frame → c.record = true → c.punchIn ≤ a.frame → s.record c.cue = some r →
        ∃ t : State, answer t ∧ t.handoffs = s.handoffs ++ [start] ∧
          t.lanes = s.lanes.set l { s.lane l with mode := .leadin, cycle := some (s.begunRecord c r a) } ∧
          TouchesOnly [.offered, .lanes, .handoffs, .punch, .ports] s t) ∧
      (s.table.confirmed = true → s.notDraining → s.reoffer l a.reel a.frame n = none →
        answer ((s.laneTook l).setLane l
          { s.lane l with mode := .standby, pinned := none, cycle := none, closing := false })) ∧
      (∀ r : CueRecord, s.table.confirmed = true → s.notDraining → s.reoffer l a.reel a.frame n = some r → r.number ≠ n →
        answer (post .lane
          (.cueArmed l r.number (some n) r.reel (s.frames r).leadIn r.inFrame (r.takeCount + 1) r.group)
          ((s.laneTook l).setLane l { s.lane l with pinned := some r.number, cycle := some (s.freshCycle r a.frame) })))

/-- The take of a cue with record ON begins in LEADIN at the punch-in point, which with record lead 0 is the entry into TAKE, and
that of a cue with record OFF at the entry into TAKE: the cycle record gets the take number, the begin frame, the group and pass of
an active group of the cue, and FREEWHEELED when the advance carries the mark; with record OFF nothing else changes. -/
def Obligations.TakeBegins : Prop :=
  ∀ (l : LaneId) (a : Advance) (c : CycleRecord) (r : CueRecord) (s : State), s.offersLane l a → (s.lane l).mode = .leadin →
    (s.lane l).cycle = some c → c.begun = false → s.record c.cue = some r →
    let y : CycleRecord := s.begunRecord c r a
    (c.record = true → c.punchIn ≤ a.frame →
      ∃ t : State, exec (.lanePositionAdvance l) s = .next t ∧
        t.lanes =
          s.lanes.set l { s.lane l with mode := if c.inFrame ≤ a.frame then .take else .leadin, cycle := some y } ∧
        TouchesOnly [.offered, .lanes, .punch, .ports] s t) ∧
      (c.record = false → c.inFrame ≤ a.frame →
        exec (.lanePositionAdvance l) s =
          .next ((s.laneTook l).setLane l { s.lane l with mode := .take, cycle := some y })) ∧
      ((c.record = true → a.frame < c.punchIn) → a.frame < c.inFrame →
        exec (.lanePositionAdvance l) s =
          .next ((s.laneTook l).setLane l { s.lane l with cycle := some { c with last := a.frame } }))

/-- The punch-in decision at the begin of a recorded take, in LEADIN, at the entry into TAKE or within the entry into LEADIN: the
four tests in their order, each with its dry reason; when all
hold, QUEUED on the record port with PUNCH IN at the end of its priority queue. The ready flag is CLEAR afterwards and the misses
0 in every case. -/
def Obligations.PunchInDecision : Prop :=
  ∀ (l : LaneId) (a : Advance) (c : CycleRecord) (r : CueRecord) (s : State), s.offersLane l a →
    (s.lane l).cycle = some c → c.begun = false → c.record = true → c.punchIn ≤ a.frame → s.record c.cue = some r →
    ((s.lane l).mode = .leadin ∨
      ((s.lane l).mode = .armed ∧ c.leadIn ≤ a.frame ∧ ∃ n : Nat, (s.lane l).pinned = some n ∧
        (s.table.confirmed = false ∨ ∃ x : CueRecord, s.reoffer l a.reel a.frame n = some x ∧ x.number = n))) →
    let isRecordPort (p : PortId) : Prop :=
      (s.lane l).routing.recordPort = some p ∧ (s.port p).attached = true ∧ (s.port p).roles.record = true
    let behind (p : PortId) : Prop := ∃ x ∈ (s.port p).priority, x.isPunchOut l = true
    let decided (m : PunchMode) (t : State) : Prop :=
      exec (.lanePositionAdvance l) s = .next t ∧
        t.punch = s.punch.set l { ready := false, mode := m, tallied := false, consecutive := 0, total := 0 }
    ((∀ p : PortId, ¬isRecordPort p) → ∃ t : State, decided (.dry .noRecorder) t ∧ t.ports = s.ports) ∧
      (∀ p : PortId, isRecordPort p →
        (s.link p = .reconfirm → ∃ t : State, decided (.dry .reconfirm) t ∧ t.ports = s.ports) ∧
          (s.link p = .normal → (s.punchOf l).ready = false →
            ∃ t : State, decided (.dry .notReady) t ∧ t.ports = s.ports) ∧
          (s.link p = .normal → (s.punchOf l).ready = true → behind p →
            ∃ t : State, decided (.dry .portBehind) t ∧ t.ports = s.ports) ∧
          (s.link p = .normal → (s.punchOf l).ready = true → ¬behind p →
            ∃ t : State, decided (.queued p) t ∧
              t.ports = s.ports.set p
                { s.port p with
                  priority := (s.port p).priority ++
                    [.punchIn l c.cue (r.takeCount + 1) c.character c.reel a.frame c.slate] }))

/-- A lane with its take begun goes from LEADIN to TAKE at the in frame, from TAKE to TAIL at the out frame, telling the Mark
Generator, and runs its tail, while nothing on offer starts on the next frame; between those frames only the last frame and the
freewheel mark change. -/
def Obligations.BegunTakeAdvances : Prop :=
  ∀ (l : LaneId) (a : Advance) (c : CycleRecord) (s : State), s.offersLane l a → (s.lane l).cycle = some c → c.begun = true →
    let y : CycleRecord :=
      { c with last := a.frame, flags := { c.flags with freewheeled := c.flags.freewheeled || a.freewheel } }
    let now (m : LaneMode) : State := (s.laneTook l).setLane l { s.lane l with mode := m, cycle := some y }
    let answer (t : State) : Prop := exec (.lanePositionAdvance l) s = .next t
    ((s.lane l).mode = .leadin → c.record = true →
      (a.frame < c.inFrame → answer (now .leadin)) ∧ (c.inFrame ≤ a.frame → answer (now .take))) ∧
      ((s.lane l).mode = .take →
        (a.frame < c.outFrame → answer (now .take)) ∧
          (c.outFrame ≤ a.frame → a.frame < c.cycleEnd → s.noYield l a.reel a.frame →
            answer ((now .tail).handOff (.stop l true)))) ∧
      ((s.lane l).mode = .tail → a.frame < c.cycleEnd → s.noYield l a.reel a.frame → answer (now .tail))

/-- The five ends of a begun take, each with its outcome, flag and PUNCH OUT reason, BROKEN in place of the outcome when the take
was broken. After an end at an advance a lane in STANDBY that may arm pins the cue on offer on the same advance, with CUE ARMED
behind CYCLE ENDED; with no group draining and the ended cue's lead-in behind, that cue is the one on offer before, after a yield
the one yielded to. The journal's write: the oldest uncircled entry leaves a full journal, or the oldest one with JOURNAL FULL, the
number 16,777,215 seals it with JOURNAL SEALED, and a sealed one writes nothing. That an exit still waiting is taken before the
entry is built is log 15, that the release is heard within the claim log 24. -/
def Obligations.TakeEnds : Prop :=
  (∀ (l : LaneId) (c : CycleRecord) (take : Nat) (s : State), (s.lane l).cycle = some c → (s.lane l).pinned = some c.cue →
    c.begun = true → c.take = some take →
    (∀ a : Advance, s.offersLane l a →
      let y : CycleRecord :=
        { c with last := a.frame, flags := { c.flags with freewheeled := c.flags.freewheeled || a.freewheel } }
      let now (m : LaneMode) : State := (s.laneTook l).setLane l { s.lane l with mode := m, cycle := some y }
      let answer (t : State) : Prop := exec (.lanePositionAdvance l) s = .next t
      let goesOn (t : State) : Prop :=
        let may : Prop := (s.lane l).closing = false ∧ t.armingAllowed l
        (¬may ∨ t.offer l a.reel a.frame = none → answer t) ∧
          (∀ r : CueRecord, may → t.offer l a.reel a.frame = some r →
            answer (post .lane (.cueArmed l r.number none r.reel (t.frames r).leadIn r.inFrame (r.takeCount + 1) r.group)
              (t.setLane l
                { t.lane l with mode := .armed, pinned := some r.number, cycle := some (t.freshCycle r a.frame) }))) ∧
          (s.notDraining → (∀ r ∈ s.table.records, r.number = c.cue → (s.frames r).leadIn ≤ a.frame) →
            (t.offer l a.reel a.frame).map (fun r => r.number) = (s.offer l a.reel a.frame).map fun r => r.number)
      let yields : Prop :=
        s.table.confirmed = true ∧ s.directorHold = false ∧ (s.lane l).closing = false ∧
          ∃ r : CueRecord, s.offer l a.reel a.frame = some r ∧ (s.frames r).leadIn = a.frame + 1
      ((s.lane l).mode = .tail → c.cycleEnd ≤ a.frame →
        ∃ t : State, EndedTake l y take true .complete .finish id (now .tail) t ∧ goesOn t) ∧
        ((s.lane l).mode = .take → c.outFrame ≤ a.frame → c.cycleEnd ≤ a.frame →
          ∃ t : State, EndedTake l y take true .complete .finish id ((now .take).handOff (.stop l true)) t ∧
            goesOn t) ∧
        ((s.lane l).mode = .tail → a.frame < c.cycleEnd → yields →
          ∃ t : State, EndedTake l y take true .complete .yield (fun f => { f with tailCut := true }) (now .tail) t ∧ goesOn t) ∧
        ((s.lane l).mode = .take → c.outFrame ≤ a.frame → a.frame < c.cycleEnd → yields →
          ∃ t : State,
            EndedTake l y take true .complete .yield (fun f => { f with tailCut := true })
              ((now .tail).handOff (.stop l true)) t ∧ goesOn t)) ∧
      (s.offersLaneLost l →
        ((s.lane l).mode = .tail →
          ∃ t : State, exec (.laneRollLost l) s = .next t ∧
            EndedTake l c take true .complete .finish (fun f => { f with tailShort := true }) (s.laneTook l) t) ∧
          ((s.lane l).mode = .take ∨ (s.lane l).mode = .leadin →
            ∃ t : State, exec (.laneRollLost l) s = .next t ∧
              EndedTake l c take false .stopped .stop id (s.laneTook l) t)) ∧
      (∀ p : PortId, s.canTake p .cancelLane [BitVec.ofNat 8 l.val] → s.allowed p .cancelLane →
        (s.lane l).mode = .leadin ∨ (s.lane l).mode = .take ∨ (s.lane l).mode = .tail →
        ∃ t : State,
          EndedTake l c take (decide ((s.lane l).mode = .tail)) .cancelled .cancel id (s.dropItem p) t ∧
            exec (.cancelLane p [BitVec.ofNat 8 l.val]) s =
              .next (t.answered p 0x9E ([0x00] ++ num1 (if (s.lane l).closing = true then 0 else 1) ++ num1 take)))) ∧
    ∀ (e : JournalEntry) (s : State),
      let written (n : Nat) (u : State) : State :=
        let es := u.journal.entries ++ [{ e with sequence := n, circled := false }]
        if n = 16777215 then
          post .journal (.journalSealed n es.length) { u with journal := { entries := es, next := none, isSealed := true } }
        else { u with journal := { entries := es, next := some (n + 1), isSealed := false } }
      let without (es : List JournalEntry) : State := { s with journal := { s.journal with entries := es } }
      (s.journal.isSealed = true → journalWrite e s = (s, none)) ∧
        ∀ n : Nat, s.journal.next = some n → s.journal.isSealed = false →
          (s.journal.entries.length < 1024 → journalWrite e s = (written n s, some n)) ∧
            (∀ (older newer : List JournalEntry) (x : JournalEntry), 1024 ≤ s.journal.entries.length →
              s.journal.entries = older ++ x :: newer → x.circled = false → (∀ z ∈ older, z.circled = true) →
              journalWrite e s = (written n (without (older ++ newer)), some n)) ∧
            ∀ (x : JournalEntry) (rest : List JournalEntry), 1024 ≤ s.journal.entries.length →
              s.journal.entries = x :: rest → (∀ z ∈ s.journal.entries, z.circled = true) →
              let remains : Prop := ∃ z ∈ rest, z.cue = x.cue ∧ z.take = x.take
              let told (cleared : Bool) (u : State) : State :=
                written n (post .journal (.journalFull x.sequence x.cue x.take cleared) u)
              (remains → journalWrite e s = (told false (without rest), some n)) ∧
                (¬remains → ∀ k : Bool, (k = true ↔ ∃ r : CueRecord, s.record x.cue = some r ∧ r.circled = some x.take) →
                  journalWrite e s =
                    (told k
                      { without rest with
                        table :=
                          { s.table with
                            records := s.table.records.map fun r =>
                              if r.number = x.cue then (if r.circled = some x.take then { r with circled := none } else r)
                              else r } }, some n))

/-- A roll lost on a lane whose take has not begun: an ARMED lane lets its cue go; a LEADIN lane has a false start, which ends its
marks, counts, and leaves the take count, the journal and the ready latch alone; OFF and STANDBY stay as they are. -/
def Obligations.RollLostBeforeTheTake : Prop :=
  ∀ (l : LaneId) (s : State), s.offersLaneLost l → s.notDraining →
    let next : LaneMode := if (s.lane l).closing = true then .off else .standby
    let gone : Lane := { s.lane l with mode := next, pinned := none, cycle := none, closing := false }
    ((s.lane l).mode = .off ∨ (s.lane l).mode = .standby → exec (.laneRollLost l) s = .next (s.laneTook l)) ∧
      ((s.lane l).mode = .armed → exec (.laneRollLost l) s = .next ((s.laneTook l).setLane l gone)) ∧
      (∀ c : CycleRecord, (s.lane l).mode = .leadin → (s.lane l).cycle = some c → c.begun = false →
        exec (.laneRollLost l) s =
          .next (((s.laneTook l).handOff (.stop l false)).setLane l
            { gone with falseStarts := satInc (s.lane l).falseStarts }))

/-! ### The Punch Unit at an advance -/

/-- The Punch Unit takes an advance: a RECORDING lane whose check point is reached is checked, a lane over the miss allowance is
broken on its port, and every other lane stays as it is. The next check point is the least one of its form above the frame, which
near the end of a reel may lie above the range of R113 (log 28). -/
def Obligations.PunchUnitChecksTallies : Prop :=
  (∀ first interval above : Nat, 0 < interval →
    ∃ k : Nat, 1 ≤ k ∧ nextCheckPoint first interval above = first + k * interval ∧
      above < nextCheckPoint first interval above ∧ ∀ j : Nat, 1 ≤ j → above < first + j * interval → k ≤ j) ∧
    ∀ (a : Advance) (s : State), s.resetHeld = false → s.offered.event = some (.advance a) → s.offered.punch = true →
      let misses (l : LaneId) : Nat := if (s.punchOf l).tallied = true then 0 else (s.punchOf l).consecutive + 1
      let total (l : LaneId) : Nat :=
        if (s.punchOf l).tallied = true then (s.punchOf l).total else min 255 ((s.punchOf l).total + 1)
      let begin (l : LaneId) : Nat := ((s.lane l).cycle.bind fun c => c.begin).getD 0
      let due (l : LaneId) (p : PortId) : Prop := ∃ n : Nat, (s.punchOf l).mode = .recording p n ∧ n ≤ a.frame
      ∃ t : State, exec .punchPositionAdvance s = .next t ∧ TouchesOnly [.offered, .lanes, .punch, .links, .ports] s t ∧
        (∀ l : LaneId, (∀ p : PortId, ¬due l p) → t.punchOf l = s.punchOf l ∧ t.lane l = s.lane l) ∧
        (∀ (l : LaneId) (p : PortId), due l p → misses l ≤ s.params.missAllowance →
          t.lane l = s.lane l ∧
            t.punchOf l =
              { s.punchOf l with
                mode := .recording p (nextCheckPoint (begin l) s.params.tallyInterval a.frame)
                tallied := false, consecutive := misses l, total := total l }) ∧
        (∀ (l : LaneId) (p : PortId), due l p → s.params.missAllowance < misses l →
          t.lane l = { s.lane l with cycle := (s.lane l).cycle.map fun c => { c with broken := true } } ∧
            t.punchOf l =
              { s.punchOf l with mode := .broken p, tallied := false, consecutive := misses l, total := total l } ∧
            t.link p = .reconfirm ∧
            ∀ c : CycleRecord, (s.lane l).cycle = some c → (s.port p).attached = true →
              .punchOut l c.cue (c.take.getD 0) .broken c.last ∈ (t.port p).priority) ∧
        (∀ p : PortId, (∀ l : LaneId, due l p → misses l ≤ s.params.missAllowance) →
          t.link p = s.link p ∧ t.port p = s.port p)

/-! ### The Mark Generator and the Overlay Arbiter -/

/-- The Mark Generator takes a lane's start hand-off: the setup is stored; while the block has still to take the advance the lane
waits for it; otherwise the lane is evaluated at the frame: a pip that begins is active, and counts a collision where another
lane's pip sounds on its line; before the bid start the lane waits; a bid that opens is worked out and a decision pass follows, but
one whose wipe and flash are over is dropped with WIPE_DROPPED. A lane whose next hand-off is no start is left alone (log 1). -/
def Obligations.StartHandoffStoresTheSetup : Prop :=
  ∀ (l : LaneId) (s : State), s.resetHeld = false →
    (∀ (m : MarkSetup) (p : Nat), s.firstHandoff l = some (.start l m p) →
      let u : State := { s with handoffs := dropHandoff l s.handoffs }
      let bid : BidState := if m.wipe = 0 ∧ m.flash = 0 then .closed else .waiting
      let answer (t : State) : Prop := exec (.markStartHandoff l) s = .next t
      (s.offered.marks = true →
        answer (u.setMarkLane l { setup := some m, lastFrame := none, phase := .leading, pip := none, bid := bid })) ∧
        (s.offered.marks = false → ∀ pip : Option Nat, m.beginsPip p pip →
          let others (x : ToneId) : Bool := allLanes.any fun k => k != l && s.pipOn x k
          let collisions : Vector Nat 8 :=
            match m.tone, pip with
            | some x, some _ => if others x = true then s.marks.collisions.set x (satInc s.marks.collisions[x]) else s.marks.collisions
            | some _, none => s.marks.collisions
            | none, _ => s.marks.collisions
          let evaluated (b : BidState) : State :=
            State.setMarkLane { u with marks := { u.marks with collisions := collisions } } l
              { setup := some m, lastFrame := some p, pip := pip, bid := b
                phase := if p < m.markRef then .leading else if p < m.markRef + m.flash then .flashing else .spent }
          (m.wipe = 0 → m.flash = 0 → answer (evaluated .closed)) ∧
            (m.wipe ≠ 0 ∨ m.flash ≠ 0 →
              (p + m.wipe < m.markRef → answer (evaluated .waiting)) ∧
                (m.markRef ≤ p + m.wipe → p < m.markRef + m.flash →
                  answer (decisionPass p
                    (evaluated (.bidding (m.priority * 16 + (15 - min 15 ((m.markRef - p) / 4))))))) ∧
                (m.markRef ≤ p + m.wipe → m.markRef + m.flash ≤ p →
                  answer (addMarkFlag l m.cue (fun f => { f with wipeDropped := true }) (evaluated .closed)))))) ∧
      ((∀ (m : MarkSetup) (k : LaneId) (p : Nat), s.firstHandoff l ≠ some (.start k m p)) →
        exec (.markStartHandoff l) s = .next s)

/-- The Mark Generator takes a lane's end hand-off: the lane's marks are over; a bid still open as the lane leaves TAKE is dropped
with WIPE_DROPPED in its cycle record; a channel it holds becomes BLANK, and a decision pass at the arbiter's frame follows, which
with nobody bidding at the threshold changes nothing else. A decision pass serves the highest bid, the lowest lane between equal
ones, with the lowest free channel, and goes on until no channel or no such bid is left; a grant after the bid start adds
WIPE_LATE. A wipe flag goes to the cycle record while the lane runs the cycle, and nowhere once it does not (log 15). A lane whose
next hand-off is no end is left alone (log 1). -/
def Obligations.EndHandoffEndsTheMarks : Prop :=
  (∀ (l : LaneId) (s : State), s.resetHeld = false →
    (∀ (k : LaneId) (left : Bool), s.firstHandoff l ≠ some (.stop k left)) → exec (.markEndHandoff l) s = .next s) ∧
    (∀ (l : LaneId) (left : Bool) (s : State), s.resetHeld = false → s.firstHandoff l = some (.stop l left) →
      let u : State := { s with handoffs := dropHandoff l s.handoffs }
      let ended : MarkLane := { setup := none, lastFrame := none, phase := .none, pip := none, bid := .idle }
      let answer (t : State) : Prop := exec (.markEndHandoff l) s = .next t
      ((∀ c : ChannelId, (s.markLane l).bid ≠ .holding c) → (left = false ∨ ∀ b : Nat, (s.markLane l).bid ≠ .bidding b) →
        answer (u.setMarkLane l ended)) ∧
        (∀ (b : Nat) (m : MarkSetup), left = true → (s.markLane l).bid = .bidding b → (s.markLane l).setup = some m →
          answer ((addMarkFlag l m.cue (fun f => { f with wipeDropped := true }) u).setMarkLane l ended)) ∧
        (∀ c : ChannelId, (s.markLane l).bid = .holding c →
          let freed : State := (u.setChannel c { s.channel c with holder := none, drawing := .blank }).setMarkLane l ended
          answer (decisionPass (s.marks.frame.getD 0) freed) ∧
            ((∀ (k : LaneId) (b : Nat), (s.markLane k).bid = .bidding b → b < s.params.bidThreshold) → answer freed))) ∧
    (∀ (p : Nat) (s : State), (∀ (k : LaneId) (b : Nat), (s.markLane k).bid = .bidding b → (s.markLane k).setup ≠ none) →
      ((∀ c : ChannelId, (s.channel c).holder ≠ none) ∨
          (∀ (k : LaneId) (b : Nat), (s.markLane k).bid = .bidding b → b < s.params.bidThreshold) →
        decisionPass p s = s) ∧
        ∀ (l : LaneId) (c : ChannelId) (b : Nat) (m : MarkSetup), (s.channel c).holder = none →
          (∀ d : ChannelId, d < c → (s.channel d).holder ≠ none) → (s.markLane l).bid = .bidding b →
          (s.markLane l).setup = some m → s.params.bidThreshold ≤ b →
          (∀ (k : LaneId) (x : Nat), (s.markLane k).bid = .bidding x → x < b ∨ (x = b ∧ l ≤ k)) →
          let granted : State :=
            (s.setChannel c
              { s.channel c with
                holder := some l
                drawing :=
                  if p < m.markRef then .wipe m.colour (min 255 ((p + m.wipe - m.markRef) * 256 / m.wipe))
                  else .flash m.colour }).setMarkLane l { s.markLane l with bid := .holding c }
          (p + m.wipe ≤ m.markRef → decisionPass p s = decisionPass p granted) ∧
            (m.markRef < p + m.wipe →
              decisionPass p s = decisionPass p (addMarkFlag l m.cue (fun f => { f with wipeLate := true }) granted))) ∧
    ∀ (l : LaneId) (cue : Nat) (f : Flags → Flags) (s : State),
      let runs (c : CycleRecord) : Prop := (s.lane l).mode.running = true ∧ (s.lane l).cycle = some c ∧ c.cue = cue
      (∀ c : CycleRecord, runs c →
        addMarkFlag l cue f s = s.setLane l { s.lane l with cycle := some { c with flags := f c.flags } }) ∧
        ((∀ c : CycleRecord, ¬runs c) → addMarkFlag l cue f s = s)

/-- The Mark Generator and the arbiter take an advance. Every lane with a setup that has not been evaluated at the frame yet is: its
phase, its pip, which begins, goes on or ends, and its bid. A bid opens at its start and is worked out afresh while it is open; one
still open when wipe and flash are over is closed with WIPE_DROPPED; a holder's channel shows its mark for the frame, and is given
up when the flash is over. The lines' collision counts rise by the pips that begin, less one where no earlier one still sounds. The
decision pass then leaves no free channel beside a bid at the threshold, having served the higher bids, and the lower lanes
between equal ones, first; a grant after the bid start adds WIPE_LATE. The flags go to the cycle record while the lane runs the
cycle (log 15). With no advance to take nothing changes (log 1). -/
def Obligations.MarksTakeAnAdvance : Prop :=
  ∀ s : State, s.resetHeld = false →
    ((∀ a : Advance, s.offered.event ≠ some (.advance a)) ∨ s.offered.marks = false →
      exec .markPositionAdvance s = .next s) ∧
      ∀ a : Advance, s.offered.event = some (.advance a) → s.offered.marks = true → s.overlayInv →
        let p := a.frame
        let due (l : LaneId) (m : MarkSetup) : Prop := (s.markLane l).setup = some m ∧ (s.markLane l).lastFrame ≠ some p
        let opened (l : LaneId) (m : MarkSetup) : Prop :=
          (∃ b : Nat, (s.markLane l).bid = .bidding b) ∨ ((s.markLane l).bid = .waiting ∧ m.markRef ≤ p + m.wipe)
        let drawn (m : MarkSetup) : Drawing :=
          if p < m.markRef then .wipe m.colour (min 255 ((p + m.wipe - m.markRef) * 256 / m.wipe)) else .flash m.colour
        ∃ u t : State, exec .markPositionAdvance s = .next t ∧ t = decisionPass p u ∧
          (TouchesOnly [.offered, .lanes, .marks] s u ∧ u.offered = { s.offered with marks := false } ∧
            u.marks.frame = some p ∧ u.marks.ovl = s.marks.ovl) ∧
          (∀ l : LaneId, (∀ m : MarkSetup, ¬due l m) → u.markLane l = s.markLane l ∧ u.lane l = s.lane l) ∧
          (∀ (l : LaneId) (m : MarkSetup), due l m →
            let x := s.markLane l
            let y := u.markLane l
            (y.setup = some m ∧ y.lastFrame = some p ∧
              y.phase = if p < m.markRef then .leading else if p < m.markRef + m.flash then .flashing else .spent) ∧
              (∀ k : Nat, m.beginsPip p (some k) → y.pip = some k) ∧
              (m.beginsPip p none → (x.pip = none → y.pip = none) ∧
                ∀ k : Nat, x.pip = some k → y.pip = if p + k * m.spacing = m.markRef + m.pipLength then none else some k) ∧
              (x.bid = .idle ∨ x.bid = .closed ∨ (x.bid = .waiting ∧ p + m.wipe < m.markRef) →
                y.bid = x.bid ∧ u.lane l = s.lane l) ∧
              (opened l m → p < m.markRef + m.flash →
                y.bid = .bidding (m.priority * 16 + (15 - min 15 ((m.markRef - p) / 4))) ∧ u.lane l = s.lane l) ∧
              (opened l m → m.markRef + m.flash ≤ p →
                y.bid = .closed ∧ u.lane l = (addMarkFlag l m.cue (fun f => { f with wipeDropped := true }) s).lane l) ∧
              ∀ c : ChannelId, x.bid = .holding c →
                u.lane l = s.lane l ∧
                  (p < m.markRef + m.flash → y.bid = .holding c ∧ u.channel c = { s.channel c with drawing := drawn m }) ∧
                  (m.markRef + m.flash ≤ p →
                    y.bid = .closed ∧ u.channel c = { s.channel c with holder := none, drawing := .blank })) ∧
          (∀ c : ChannelId, (∀ (l : LaneId) (m : MarkSetup), due l m → (s.markLane l).bid ≠ .holding c) →
            u.channel c = s.channel c) ∧
          (∀ x : ToneId, s.marks.collisions[x] ≤ 65535 →
            let begins (l : LaneId) : Bool :=
              match (s.markLane l).setup with
              | none => false
              | some m =>
                m.tone == some x && (s.markLane l).lastFrame != some p &&
                  (List.range m.pips).any fun i => p + (i + 1) * m.spacing == m.markRef
            let sounds (l : LaneId) : Bool :=
              match (u.markLane l).setup with
              | none => false
              | some m => m.tone == some x && (u.markLane l).pip.isSome
            let n := allLanes.countP begins
            u.marks.collisions[x] =
              min 65535 (s.marks.collisions[x] + if (allLanes.any fun l => sounds l && !begins l) = true then n else n - 1)) ∧
          (TouchesOnly [.lanes, .marks] u t ∧
            t.marks = { u.marks with lanes := t.marks.lanes, channels := t.marks.channels }) ∧
          ((∀ c : ChannelId, (t.channel c).holder ≠ none) ∨
            ∀ (l : LaneId) (b : Nat), (t.markLane l).bid = .bidding b → b < s.params.bidThreshold) ∧
          (∀ l : LaneId, (t.markLane l = u.markLane l ∧ t.lane l = u.lane l) ∨
            ∃ (b : Nat) (m : MarkSetup) (c : ChannelId), (u.markLane l).bid = .bidding b ∧ s.params.bidThreshold ≤ b ∧
              (u.markLane l).setup = some m ∧ t.markLane l = { u.markLane l with bid := .holding c } ∧
              (u.channel c).holder = none ∧ t.channel c = { u.channel c with holder := some l, drawing := drawn m } ∧
              (p + m.wipe ≤ m.markRef → t.lane l = u.lane l) ∧
              (m.markRef < p + m.wipe →
                t.lane l = (addMarkFlag l m.cue (fun f => { f with wipeLate := true }) u).lane l)) ∧
          (∀ c : ChannelId, t.channel c = u.channel c ∨
            ∃ l : LaneId, (u.channel c).holder = none ∧ (t.channel c).holder = some l ∧ (t.markLane l).bid = .holding c) ∧
          ∀ (k l : LaneId) (b b' : Nat) (c : ChannelId), (u.markLane k).bid = .bidding b → (t.markLane k).bid = .holding c →
            (t.markLane l).bid = .bidding b' → b' < b ∨ (b' = b ∧ k < l)

/-- The overlay line is free: a word for the lowest channel whose state differs from its last word sent, six bytes whose last five
sum to 0; with no channel differing the line idles. -/
def Obligations.OverlayWordReportsTheLowestChange : Prop :=
  ∀ s : State, s.resetHeld = false →
    ((∀ c : ChannelId, (s.channel c).lastSent = some (s.channel c).drawing) → exec .overlayWord s = .next s) ∧
      ∀ c : ChannelId, (s.channel c).lastSent ≠ some (s.channel c).drawing →
        (∀ d : ChannelId, d < c → (s.channel d).lastSent = some (s.channel d).drawing) →
        let fields : List Byte :=
          match (s.channel c).drawing with
          | .blank => [0, 0, 0]
          | .wipe colour progress => [1, BitVec.ofNat 8 colour, BitVec.ofNat 8 progress]
          | .flash colour => [2, BitVec.ofNat 8 colour, 0]
        ∃ check : Byte, byteSum ([BitVec.ofNat 8 c.val] ++ fields ++ [check]) = 0 ∧
          exec .overlayWord s =
            .next
              (let u := s.setChannel c { s.channel c with lastSent := some (s.channel c).drawing }
               { u with marks := { u.marks with ovl := some ([0xB9, BitVec.ofNat 8 c.val] ++ fields ++ [check]) } })

/-! ### The Loop Controller -/

/-- A lock entry, alone or carried by an advance below the span end: a LOCATING group whose LOCATE AND ROLL has gone out enters
RUNNING when the entry lies on its reel below its span start; any other entry changes no group. A lock entry and the advance that
carries it are one event for the controller (log 18). -/
def Obligations.LockEntryStartsThePass : Prop :=
  ∀ (g : GroupId) (q : Position) (s : State), s.resetHeld = false → s.offered.loop = true → s.activeGroup = some g →
    (s.group g).mode = .locating → (s.offered.event = some (.relock q) ∨
      ∃ a : Advance, s.offered.event = some (.advance a) ∧ a.lock ≠ none ∧ q = { reel := a.reel, frame := a.frame }) →
    (s.loop.locateSent = true → (s.group g).reel = some q.reel → q.frame < (s.group g).spanStart.getD 0 →
      q.frame < (s.group g).spanEnd.getD 0 →
      exec .loopLockEntry s =
        .next (post .loop (.loopState g .running (s.group g).passes .lock none)
          { s.loopTook with
            loop :=
              { groups := s.loop.groups.set g { s.group g with mode := .running, cause := .lock }
                locateTimer := .stopped, locateSent := false } })) ∧
      (s.loop.locateSent = false ∨ (s.group g).reel ≠ some q.reel ∨ (s.group g).spanStart.getD 0 ≤ q.frame →
        exec .loopLockEntry s = .next s.loopTook)

/-- A RUNNING group takes an advance, one that carries a lock entry among them: below its span end nothing changes; at or past it,
DRAINING while some lane pins a member, and else the pass ends. An advance changes nothing in a DRAINING group, nor, unless it
carries a lock entry, in a LOCATING one; an advance and the lock entry it carries are one event, which either command takes
(log 18). The end of a pass takes one of the four courses, whatever brings it. -/
def Obligations.AdvanceAtTheSpanEnd : Prop :=
  ∀ (g : GroupId) (q : PortId) (s : State), s.activeGroup = some g → (s.group g).port = some q →
    let e := (s.group g).spanEnd.getD 0
    let n := min 99 ((s.group g).passes + 1)
    let members := s.table.records.filter fun c =>
      c.group == some g && !c.hold && decide (c.takeCount < c.takeLimit) && (s.lane c.lane).mode != .off &&
        !(s.lane c.lane).closing
    let pinned : Prop :=
      ∃ (l : LaneId) (k : Nat) (c : CueRecord), (s.lane l).pinned = some k ∧ s.record k = some c ∧ c.group = some g
    let loopIs (x : Group) : Loop := { groups := s.loop.groups.set g x, locateTimer := .stopped, locateSent := false }
    let ends (u : State) (answer : State → Prop) : Prop :=
      let halted (m : LoopMode) (c : LoopCause) : Prop :=
        answer (post .loop (.loopState g m n c none)
          { postTransport q (.halt g c) u with loop := loopIs { s.group g with mode := m, cause := c, passes := n } })
      (s.group g).passes ≤ 99 →
        ((s.group g).limit ≠ 0 → n = (s.group g).limit → halted .done .limit) ∧
          (((s.group g).limit = 0 ∨ n ≠ (s.group g).limit) →
            (members = [] → halted .done .exhausted) ∧
              ((∃ c ∈ members, ∃ d ∈ members, c.reel ≠ d.reel) → halted .failed .reels) ∧
              ∀ (c : CueRecord) (rest : List CueRecord), members = c :: rest → (∀ d ∈ rest, d.reel = c.reel) →
                ∃ first last : Nat,
                  (∀ d ∈ members, first ≤ (s.frames d).leadIn ∧ (s.frames d).cycleEnd ≤ last) ∧
                  (∃ d ∈ members, (s.frames d).leadIn = first) ∧ (∃ d ∈ members, (s.frames d).cycleEnd = last) ∧
                  let f := first - (s.group g).preroll
                  answer (post .loop (.loopState g .locating n .pass (some { reel := c.reel, frame := f }))
                    { postTransport q (.locate g c.reel f (n + 1)) u with
                      loop :=
                        { groups := s.loop.groups.set g
                            { s.group g with
                              mode := .locating, cause := .pass, passes := n, reel := some c.reel
                              spanStart := some first, spanEnd := some last }
                          locateTimer := .running (1000 * s.params.locateTimeout), locateSent := false } }))
    ends s (fun t => passEnd g s = t) ∧
      ∀ a : Advance, s.resetHeld = false → s.offered.loop = true → s.offered.event = some (.advance a) →
        let answer (t : State) : Prop := exec .loopPositionAdvance s = .next t
        ((s.group g).mode = .running →
          (a.frame < e → answer s.loopTook) ∧
            (e ≤ a.frame → pinned →
              answer (post .loop (.loopState g .draining (s.group g).passes .spanEnd none)
                { s.loopTook with loop := loopIs { s.group g with mode := .draining, cause := .spanEnd } })) ∧
            (e ≤ a.frame → ¬pinned → ends s.loopTook answer)) ∧
          ((s.group g).mode = .draining ∨ ((s.group g).mode = .locating ∧ a.lock = none) → answer s.loopTook) ∧
          (a.lock ≠ none → exec .loopPositionAdvance s = exec .loopLockEntry s)

/-- A roll lost fails a RUNNING group and stops its transport, ends the pass of a DRAINING one and leaves a LOCATING one alone; the
release of the last member's pin ends the pass of a DRAINING group; the locate timer's expiry fails a LOCATING group and stops its
transport, and that of a stopped timer changes nothing (log 1). That a release is heard within the claim is log 24. The courses of
a pass that ends are stated above. A transport notice takes the place of an older one that still waits in the port's priority
queue, else the end; a detached port takes none. -/
def Obligations.GroupsFailAndDrain : Prop :=
  (∀ (q : PortId) (n : PriorityNotice) (s : State),
    let transport (x : PriorityNotice) : Prop :=
      (∃ (g : GroupId) (c : LoopCause), x = .halt g c) ∨ ∃ (g : GroupId) (reel frame pass : Nat), x = .locate g reel frame pass
    let queued (ns : List PriorityNotice) : State := s.setPort q { s.port q with priority := ns }
    ((s.port q).attached = false → postTransport q n s = s) ∧
      ((s.port q).attached = true →
        ((∀ x ∈ (s.port q).priority, ¬transport x) → postTransport q n s = queued ((s.port q).priority ++ [n])) ∧
          ∀ (older newer : List PriorityNotice) (x : PriorityNotice), (s.port q).priority = older ++ x :: newer → transport x →
            (∀ y ∈ older, ¬transport y) → (∀ y ∈ newer, ¬transport y) → postTransport q n s = queued (older ++ n :: newer))) ∧
  ∀ (g : GroupId) (q : PortId) (s : State), s.resetHeld = false → s.activeGroup = some g → (s.group g).port = some q →
    let failed (c : LoopCause) (u : State) : State :=
      post .loop (.loopState g .failed (s.group g).passes c none)
        { postTransport q (.halt g c) u with
          loop :=
            { groups := s.loop.groups.set g { s.group g with mode := .failed, cause := c }
              locateTimer := .stopped, locateSent := false } }
    (∀ r : RollLost, s.offered.event = some (.lost r) → s.offered.loop = true →
      ((s.group g).mode = .running → exec .loopRollLost s = .next (failed .rollLost s.loopTook)) ∧
        ((s.group g).mode = .locating → exec .loopRollLost s = .next s.loopTook) ∧
        ((s.group g).mode = .draining → exec .loopRollLost s = .next (passEnd g s.loopTook))) ∧
      (∀ cue : Nat,
        let ends : Prop :=
          (s.group g).mode = .draining ∧ (∃ c : CueRecord, s.record cue = some c ∧ c.group = some g) ∧
            ∀ (l : LaneId) (n : Nat) (c : CueRecord), (s.lane l).pinned = some n → s.record n = some c → c.group ≠ some g
        (ends → afterRelease cue s = passEnd g s) ∧ (¬ends → afterRelease cue s = s)) ∧
      ((s.group g).mode = .locating → s.loop.locateTimer.isRunning = true →
        exec .locateTimerExpiry s = .next (failed .locateTimeout s)) ∧
      (s.loop.locateTimer.isRunning = false → exec .locateTimerExpiry s = .next s)

/-! ### The Grant Arbiter -/

/-- The grant idle timer expires: REVOKED, then the table UNCONFIRMED with TABLE STATE if the holder had changes and the table was
CONFIRMED, then the flag OFF and the grant to the first waiter, with GRANTED, or to nobody. With no holder the timer is stopped,
and its expiry changes nothing (log 1). A notice of a class joins the ordinary queue of every attached port that subscribes to the
class; one of the grant goes to the port it concerns as well; a full queue drops it and counts; nothing else changes. -/
def Obligations.IdleExpiryRevokesTheGrant : Prop :=
  (∀ (k : NoticeClass) (q : PortId) (n : Notice) (s : State),
    let holds (x : Subscription) : Bool :=
      match k with
      | .table => x.table
      | .grant => x.grant
      | .tracker => x.tracker
      | .lane => x.lane
      | .loop => x.loop
      | .journal => x.journal
      | .lines => x.lines
    let posted (picks : PortId → Prop) (t : State) : Prop :=
      TouchesOnly [.ports] s t ∧
        ∀ p : PortId,
          ((s.port p).attached = true ∧ picks p → t.port p = (s.port p).hasPosted n) ∧
            (¬((s.port p).attached = true ∧ picks p) → t.port p = s.port p)
    posted (fun p => holds (s.port p).subscription = true) (post k n s) ∧
      posted (fun p => p = q ∨ (s.port p).subscription.grant = true) (postGrantTo q n s)) ∧
  ∀ s : State, s.resetHeld = false →
    (s.grant.holder = none → exec .grantIdleExpiry s = .next s) ∧
      ∀ p : PortId, s.grant.holder = some p → s.grant.idle.isRunning = true →
        let u := postGrantTo p (.revoked p .idle s.grant.changed) s
        let v : State :=
          if s.grant.changed = true ∧ s.table.confirmed = true then
            post .table (.tableState false s.table.generation p .revoke) { u with table := { s.table with confirmed := false } }
          else u
        (s.grant.waiting = [] →
          exec .grantIdleExpiry s =
            .next { v with grant := { holder := none, waiting := [], changed := false, idle := .stopped } }) ∧
          ∀ (w : PortId) (ws : List PortId), s.grant.waiting = w :: ws →
            exec .grantIdleExpiry s =
              .next (postGrantTo w (.granted w ws.length s.table.generation)
                { v with grant :=
                    { holder := some w, waiting := ws, changed := false, idle := .running (1000 * s.params.grantTimeout) } })

/-- REQUEST GRANT from an EDIT port: given at once when nobody holds the grant, with GRANTED to the other subscribers; queued with
its place; or answered ALREADY with the place it has, 0 as the holder. The notice of a grant given at once goes to the attached
subscribers of GRANT but the requester. -/
def Obligations.RequestGrantAnswers : Prop :=
  (∀ (q : PortId) (n : Notice) (s : State),
    TouchesOnly [.ports] s (postGrantExcept q n s) ∧
      ∀ p : PortId,
        let told : Prop := (s.port p).attached = true ∧ p ≠ q ∧ (s.port p).subscription.grant = true
        (told → (postGrantExcept q n s).port p = (s.port p).hasPosted n) ∧
          (¬told → (postGrantExcept q n s).port p = s.port p)) ∧
  ∀ (p : PortId) (s : State), s.admits p .requestGrant [] →
    let u := s.dropItem p
    let answer (t : State) (fields : List Byte) : Prop := Answers .requestGrant p [] s t fields
    (s.grant.holder = none →
      answer (postGrantExcept p (.granted p s.grant.waiting.length s.table.generation)
        { u with grant :=
            { holder := some p, waiting := s.grant.waiting, changed := false
              idle := .running (1000 * s.params.grantTimeout) } }) [0x00, 0x00]) ∧
      (s.grant.holder = some p → answer u [0x02, 0x00]) ∧
      ∀ h : PortId, s.grant.holder = some h → h ≠ p →
        (p ∉ s.grant.waiting →
          answer { u with grant := { s.grant with waiting := s.grant.waiting ++ [p] } }
            [0x01, BitVec.ofNat 8 (s.grant.waiting.length + 1)]) ∧
          ∀ before after : List PortId, s.grant.waiting = before ++ p :: after → p ∉ before →
            answer u [0x02, BitVec.ofNat 8 (before.length + 1)]

/-- RELEASE GRANT: from the holder it confirms the table, steps the generation when the holder had changes, posts TABLE STATE when
either changed, frees the grant and passes it on; from a waiter it leaves the list, and the
answer is OK alone (log 9); from any other port it is NOT_HELD. -/
def Obligations.ReleaseGrantAnswers : Prop :=
  ∀ (p : PortId) (s : State), s.admits p .releaseGrant [] →
    let u := s.dropItem p
    let answer (t : State) (fields : List Byte) : Prop := Answers .releaseGrant p [] s t fields
    (s.grant.holder = some p →
      let gen : BitVec 16 := if s.grant.changed = true then s.table.generation + 1 else s.table.generation
      let confirmed : State := { u with table := { s.table with confirmed := true, generation := gen } }
      let v : State :=
        if s.grant.changed = true ∨ s.table.confirmed = false then post .table (.tableState true gen p .release) confirmed
        else confirmed
      (s.grant.waiting = [] →
        answer { v with grant := { holder := none, waiting := [], changed := false, idle := .stopped } }
          ([0x00] ++ num2 gen.toNat)) ∧
        ∀ (w : PortId) (ws : List PortId), s.grant.waiting = w :: ws →
          answer (postGrantTo w (.granted w ws.length gen)
            { v with grant :=
                { holder := some w, waiting := ws, changed := false, idle := .running (1000 * s.params.grantTimeout) } })
            ([0x00] ++ num2 gen.toNat)) ∧
      (s.grant.holder ≠ some p → p ∈ s.grant.waiting →
        answer { u with grant := { s.grant with waiting := s.grant.waiting.filter fun q => q != p } } [0x00]) ∧
      (s.grant.holder ≠ some p → p ∉ s.grant.waiting → answer u [0x05])

/-! ### The Line Unit -/

/-- INPUT_LINE_CHANGE: the other level is accepted; an activation runs the line's function (ready latch, hold toggle, circle of the
lane's newest entry, stop of the active group) and LINE CHANGE is posted. INPUT_SAMPLE: a sample that agrees starts the count
again, one that differs counts, and the one that reaches the debounce is the change (log 23). -/
def Obligations.InputLineChangesAndSamples : Prop :=
  ∀ (i : LineId) (s : State), s.resetHeld = false →
    let x := s.input i
    let v := otherLevel x.level
    let u := s.setInput i { x with level := v, differing := 0 }
    let told (t : State) : State := post .lines (.lineChange i v (v == x.polarity) x.function t.directorHold) t
    let answer (t : State) : Prop := exec (.inputLineChange i) s = .next t
    (s.directorHold = true ↔ s.lines.holdToggle = true ∨ ∃ j : LineId, (s.input j).function = .directorHold ∧
        (s.input j).trigger = .level ∧ (s.input j).level = (s.input j).polarity) ∧
      (v ≠ x.polarity ∨ x.function = .none → answer (told u)) ∧
      (x.trigger = .level → (x.function = .directorHold ∨ ∃ l : LaneId, x.function = .actorReady l) → answer (told u)) ∧
      (∀ l : LaneId, v = x.polarity → x.function = .actorReady l → x.trigger = .edge →
        answer (told (u.setLane l { s.lane l with readyLatch := true }))) ∧
      (v = x.polarity → x.function = .directorHold → x.trigger = .edge →
        answer (told { u with lines := { u.lines with holdToggle := !s.lines.holdToggle } })) ∧
      (∀ l : LaneId, v = x.polarity → x.function = .circleLast l →
        ((∀ e ∈ s.journal.entries, e.lane ≠ l) → answer (told u)) ∧
          ∀ (e : JournalEntry) (older newer : List JournalEntry), s.journal.entries = older ++ e :: newer → e.lane = l →
            (∀ y ∈ newer, y.lane ≠ l) →
            let field : CueField := if s.record e.cue = none then .noRecord else .field (some e.take)
            answer (told (post .journal (.circled e.sequence e.cue e.take l true (.line i) field)
              { u with
                journal :=
                  { s.journal with
                    entries := s.journal.entries.map fun y => if y.sequence = e.sequence then { y with circled := true } else y }
                table :=
                  { s.table with
                    records := s.table.records.map fun c => if c.number = e.cue then { c with circled := some e.take } else c }
              }))) ∧
      (v = x.polarity → x.function = .loopStop →
        (s.activeGroup = none → answer (told u)) ∧
          ∀ (g : GroupId) (q : PortId), s.activeGroup = some g → (s.group g).port = some q →
            answer (told (post .loop (.loopState g .idle (s.group g).passes .stopLine none)
              { postTransport q (.halt g .stopLine) u with
                loop :=
                  { groups := s.loop.groups.set g { s.group g with mode := .idle, cause := .stopLine }
                    locateTimer := .stopped, locateSent := false } }))) ∧
      (∀ w : Level,
        (w = x.level → exec (.inputSample i w) s = .next (s.setInput i { x with differing := 0 })) ∧
          (w ≠ x.level → x.differing + 1 < x.debounce →
            exec (.inputSample i w) s = .next (s.setInput i { x with differing := x.differing + 1 })) ∧
          (w ≠ x.level → x.debounce ≤ x.differing + 1 → exec (.inputSample i w) s = exec (.inputLineChange i) s))

/-! ### Client ports -/

/-- PORT_ATTACH and PORT_DETACH, and the samples of PRESENT that bring them. A detach empties the port, revokes or withdraws its
place at the arbiter, makes its queued takes dry and its recording takes broken, clears the ready flags of the lanes that name
it, and fails the active group that it carries; every other lane, link and group stays as it is. The other ports are told REVOKED,
TABLE STATE, GRANTED and LOOP STATE, each where it applies, and are otherwise as they were. The order of the blocks is log 10; the
rate in force becomes the setting (log 11). The attach of an attached port and the detach of a detached one change nothing (log 1),
and the 20th differing sample is the attach or the detach (log 23). -/
def Obligations.PresentAttachesAndDetaches : Prop :=
  ∀ (p : PortId) (s : State), s.resetHeld = false →
    let x := s.port p
    (x.attached = false →
      exec (.portAttach p) s =
          .next ((s.setPort p { x with attached := true, presentLevel := .high, presentDiffering := 0, receiver := none }).setLink p
            .normal) ∧
        exec (.portDetach p) s = .next s) ∧
      (x.attached = true → exec (.portAttach p) s = .next s) ∧
      (x.attached = true →
        let names (l : LaneId) : Prop := (s.lane l).routing.recordPort = some p
        let recording (l : LaneId) : Prop := ∃ n : Nat, (s.punchOf l).mode = .recording p n
        ∃ t : State, exec (.portDetach p) s = .next t ∧
          TouchesOnly [.table, .grant, .lanes, .punch, .loop, .ports] s t ∧
          t.port p =
            { x with
              attached := false, presentLevel := .low, presentDiffering := 0, receiver := none, receiveQueue := [], slot := none
              priority := [], ordinary := [], transmitting := none, lostSinceFetch := 0, lineRate := x.rate } ∧
          (s.grant.holder = some p → s.grant.waiting = [] →
            t.grant = { holder := none, waiting := [], changed := false, idle := .stopped }) ∧
          (∀ (w : PortId) (ws : List PortId), s.grant.holder = some p → s.grant.waiting = w :: ws →
            t.grant =
              { holder := some w, waiting := ws, changed := false, idle := .running (1000 * s.params.grantTimeout) }) ∧
          (s.grant.holder ≠ some p → t.grant = { s.grant with waiting := s.grant.waiting.filter fun q => q != p }) ∧
          (s.grant.holder = some p → s.grant.changed = true → t.table = { s.table with confirmed := false }) ∧
          (s.grant.holder ≠ some p ∨ s.grant.changed = false → t.table = s.table) ∧
          (∀ l : LaneId,
            (recording l →
              t.lane l = { s.lane l with cycle := (s.lane l).cycle.map fun c => { c with broken := true } } ∧
                (t.punchOf l).mode = .broken p) ∧
              (¬recording l → t.lane l = s.lane l) ∧
              ((s.punchOf l).mode = .queued p → (t.punchOf l).mode = .dry .notSent) ∧
              ((s.punchOf l).mode ≠ .queued p → ¬recording l → (t.punchOf l).mode = (s.punchOf l).mode) ∧
              (names l → (t.punchOf l).ready = false) ∧
              (¬names l → (t.punchOf l).ready = (s.punchOf l).ready)) ∧
          (∀ g : GroupId, s.activeGroup = some g → (s.group g).port = some p →
            t.loop =
              { groups := s.loop.groups.set g { s.group g with mode := .failed, cause := .transportLost }
                locateTimer := .stopped, locateSent := false }) ∧
          ((∀ g : GroupId, s.activeGroup = some g → (s.group g).port ≠ some p) → t.loop = s.loop) ∧
          (let gone : State := s.setPort p (t.port p)
           let revoked : State :=
            if s.grant.holder = some p then postGrantTo p (.revoked p .detach s.grant.changed) gone else gone
           let unconfirmed : State :=
            if s.grant.holder = some p ∧ s.grant.changed = true ∧ s.table.confirmed = true then
              post .table (.tableState false s.table.generation p .revoke) revoked
            else revoked
           let granted : State :=
            match s.grant.waiting with
            | [] => unconfirmed
            | w :: ws =>
              if s.grant.holder = some p then postGrantTo w (.granted w ws.length s.table.generation) unconfirmed
              else unconfirmed
           let failed : State :=
            match s.activeGroup with
            | none => granted
            | some g =>
              if (s.group g).port = some p then
                post .loop (.loopState g .failed (s.group g).passes .transportLost none) granted
              else granted
           t.ports = failed.ports)) ∧
      (∀ v : Level,
        (v = x.presentLevel → exec (.presentSample p v) s = .next (s.setPort p { x with presentDiffering := 0 })) ∧
          (v ≠ x.presentLevel → x.presentDiffering + 1 < 20 →
            exec (.presentSample p v) s = .next (s.setPort p { x with presentDiffering := x.presentDiffering + 1 })) ∧
          (v ≠ x.presentLevel → 20 ≤ x.presentDiffering + 1 → (x.attached = true ↔ x.presentLevel = .high) →
            exec (.presentSample p v) s = exec (if v = .high then .portAttach p else .portDetach p) s))

/-- Every frame whose body has at most 63 bytes is received as the request it spells: its bytes, sent one after another to a port
that hunts, put its kind and its body at the end of the receive queue, or count as an overrun when four items wait. -/
def Obligations.FrameReadsBack : Prop :=
  ∀ (p : PortId) (kind : Byte) (body : List Byte) (s : State), s.resetHeld = false → (s.port p).attached = true →
    (s.port p).receiver = none → body.length ≤ 63 →
    exec (.receiveFrame p ((frameOf kind body).map fun b => { byte := b, stop := true })) s =
      .next (s.setPort p
        (if (s.port p).receiveQueue.length < 4 then
          { s.port p with receiveQueue := (s.port p).receiveQueue ++ [.request kind body] }
        else { s.port p with overruns := satInc (s.port p).overruns }))

/-- The four ways a frame fails: it is counted once (log 17), a frame-error item joins the queue or counts as an overrun, and the receiver hunts.
What comes while the port hunts, but for a sync byte, and what comes while it is detached is discarded. A frame-error item and a
request of an unknown kind are answered with kind FF. -/
def Obligations.FramesFailAndAreAnswered : Prop :=
  ∀ (p : PortId) (s : State), s.resetHeld = false →
    let x := s.port p
    let whole (b : List Byte) : List RxChar := b.map fun c => { byte := c, stop := true }
    let fails (f : FrameFailure) : State :=
      s.setPort p
        (if x.receiveQueue.length < 4 then
          { x with receiver := none, frameErrors := satInc x.frameErrors, receiveQueue := x.receiveQueue ++ [.frameError f] }
        else { x with receiver := none, frameErrors := satInc x.frameErrors, overruns := satInc x.overruns })
    (x.attached = true → x.receiver = none →
      (∀ n : Byte, n = 0 ∨ 64 < n.toNat → exec (.receiveFrame p (whole [0xA7, n])) s = .next (fails .badLength)) ∧
        (∀ n : Byte, ∀ rest : List Byte, 1 ≤ n.toNat → n.toNat ≤ 64 → rest.length = n.toNat + 1 → byteSum (n :: rest) ≠ 0 →
          exec (.receiveFrame p (whole (0xA7 :: n :: rest))) s = .next (fails .badSum)) ∧
        (∀ n c : Byte, ∀ rest : List Byte, 1 ≤ n.toNat → n.toNat ≤ 64 → rest.length ≤ n.toNat →
          exec (.receiveFrame p (whole (0xA7 :: n :: rest) ++ [{ byte := c, stop := false }])) s = .next (fails .noStopBit) ∧
            exec (.interByteTimeout p (0xA7 :: n :: rest)) s = .next (fails .timeout)) ∧
        (∀ c : Byte, exec (.receiveFrame p (whole [0xA7] ++ [{ byte := c, stop := false }])) s = .next (fails .noStopBit)) ∧
        exec (.interByteTimeout p [0xA7]) s = .next (fails .timeout) ∧
        (∀ cs : List RxChar, (∀ c ∈ cs, c.stop = false ∨ c.byte ≠ 0xA7) → exec (.receiveFrame p cs) s = .next s) ∧
        (∀ b : List Byte, 0xA7 ∉ b → exec (.interByteTimeout p b) s = .next s)) ∧
      (x.attached = true → x.receiver ≠ none → exec (.interByteTimeout p []) s = .next (fails .timeout)) ∧
      (x.attached = false →
        (∀ cs : List RxChar, exec (.receiveFrame p cs) s = .next s) ∧
          ∀ b : List Byte, exec (.interByteTimeout p b) s = .next s) ∧
      (∀ (f : FrameFailure) (rest : List RxItem), x.attached = true → x.slot = none → x.receiveQueue = .frameError f :: rest →
        let code : Byte :=
          match f with
          | .badLength => 0x01
          | .noStopBit => 0x02
          | .timeout => 0x03
          | .badSum => 0x04
        exec (.frameError p) s =
          .next (s.setPort p
            { x with receiveQueue := rest, slot := some { kind := 0xFF, body := [code, 0x00], newRate := none } })) ∧
      (∀ (kind : Byte) (body : List Byte), kind.toNat ∉ requestCodes → x.attached = true → x.slot = none →
        (x.receiveQueue = [] ∨ x.receiveQueue.head? = some (.request kind body)) →
        exec (.unknownKind p kind body) s = .next ((s.dropItem p).answered p 0xFF [0x11, kind]))

/-- TRANSMIT_TAKE at a message boundary: the oldest priority notice before the answer; a PUNCH IN taken makes its QUEUED take
RECORDING with its first check point, a LOCATE AND ROLL taken tells the active LOCATING group; with nothing to send nothing
happens. TRANSMIT_COMPLETE ends the message, and a rate that waited for it comes into force. TRANSMIT_TAKE while a message is sent
or the port is detached, and TRANSMIT_COMPLETE with nothing being sent, change nothing (log 1). -/
def Obligations.TransmitterTakesPriorityFirst : Prop :=
  ∀ (p : PortId) (s : State), s.resetHeld = false →
    let x := s.port p
    (∀ (n : PriorityNotice) (rest : List PriorityNotice), x.attached = true → x.transmitting = none → x.priority = n :: rest →
      let sent := s.setPort p { x with priority := rest, transmitting := some { message := .notice n, newRate := none } }
      let answer (t : State) : Prop := exec (.transmitTake p) s = .next t
      (∀ (l : LaneId) (cue take character reel frame : Nat) (slate : List Byte) (q : PortId) (c : CycleRecord),
        n = .punchIn l cue take character reel frame slate → (s.punchOf l).mode = .queued q → (s.lane l).cycle = some c →
        answer (sent.setPunch l
          { s.punchOf l with
            mode := .recording q (nextCheckPoint (c.begin.getD 0) s.params.tallyInterval c.last), tallied := false })) ∧
        (∀ (l : LaneId) (cue take : Nat) (r : PunchReason) (frame : Nat), n = .punchOut l cue take r frame → answer sent) ∧
        (∀ (g : GroupId) (c : LoopCause), n = .halt g c → answer sent) ∧
        (∀ (g : GroupId) (reel frame pass : Nat), n = .locate g reel frame pass →
          (s.activeGroup = some g → (s.group g).mode = .locating →
            answer { sent with loop := { s.loop with locateSent := true } }) ∧
            (s.activeGroup ≠ some g ∨ (s.group g).mode ≠ .locating → answer sent))) ∧
      (∀ a : Answer, x.attached = true → x.transmitting = none → x.priority = [] → x.slot = some a →
        exec (.transmitTake p) s =
          .next (s.setPort p { x with slot := none, transmitting := some { message := .answer a, newRate := a.newRate } })) ∧
      (x.attached = false ∨ x.transmitting ≠ none ∨ (x.priority = [] ∧ x.slot = none) → exec (.transmitTake p) s = .next s) ∧
      (x.transmitting = none → exec (.transmitComplete p) s = .next s) ∧
      ∀ t : Transmission, x.transmitting = some t →
        exec (.transmitComplete p) s =
          .next (s.setPort p
            { x with
              transmitting := none
              lineRate :=
                match t.newRate with
                | none => x.lineRate
                | some r => r })

/-- The tests that stand before the owning block, in their order: a body of the wrong length is answered LENGTH, a port without
the role ROLE, a port without the grant NO_GRANT, and nothing else changes; a request that a port cannot take yet, or while RESET
is held, is left alone (log 1, log 7). The body length, the role and the grant that each request needs are those of the spec's
tables; a taken item leaves the queue, an answer stands in the slot, and the idle timer of a holder that is answered restarts. -/
def Obligations.RequestsAreJudgedInOrder : Prop :=
  (∀ (k : Request) (b : List Byte) (r : Roles),
    let grant : List Request :=
      [.configurePort, .insertCue, .amendCue, .deleteCue, .holdCue, .clearTable, .setProfile, .setLane, .trimJournal, .setLine]
    let edit : List Request :=
      [.setParameters, .requestGrant, .enableLane, .disableLane, .cancelLane, .clearStage, .startLoop, .stopLoop]
    let circles : List Request := [.circleTake, .uncircleTake]
    let length : Nat :=
      match k with
      | .insertCue | .amendCue => 17 + byteAt b 16
      | .setParameters | .setProfile => 8
      | .setLane => 7
      | .configurePort | .setLine => 5
      | .startLoop => 4
      | .holdCue | .readJournal | .circleTake | .uncircleTake => 3
      | .deleteCue | .readCue | .nextCue | .ready => 2
      | .portStatus | .readProfile | .readLane | .enableLane | .disableLane | .cancelLane | .tally | .stopLoop | .readLoop
      | .trimJournal => 1
      | .identify | .fetchNotices | .readParameters | .requestGrant | .releaseGrant | .tableStatus | .clearTable | .clearStage
      | .trackerStatus | .reconfirm | .readLines => 0
    (k.lengthFits b = true ↔ b.length = length) ∧ (k.need.wantsGrant = true ↔ k ∈ grant) ∧
      (k ∈ grant ∨ k ∈ edit → k.need.roleMet r = r.edit) ∧ (k = .reconfirm → k.need.roleMet r = r.record) ∧
      (k ∈ circles → k.need.roleMet r = (r.edit || r.record)) ∧
      (k ∉ grant → k ∉ edit → k ≠ .reconfirm → k ∉ circles → k.need.roleMet r = true)) ∧
  (∀ (p : PortId) (kind : Byte) (body : List Byte) (a : Answer) (s : State),
    let x := s.port p
    (x.receiveQueue = [] → s.dropItem p = s) ∧
      (∀ (i : RxItem) (rest : List RxItem), x.receiveQueue = i :: rest →
        s.dropItem p = s.setPort p { x with receiveQueue := rest }) ∧
      s.placeAnswer p a = s.setPort p { x with slot := some a } ∧
      (s.grant.holder = some p →
        restartIdle p s = { s with grant := { s.grant with idle := .running (1000 * s.params.grantTimeout) } }) ∧
      (s.grant.holder ≠ some p → restartIdle p s = s) ∧
      s.answered p kind body = restartIdle p (s.placeAnswer p { kind := kind, body := body, newRate := none })) ∧
  ∀ (k : Request) (p : PortId) (body : List Byte) (s : State),
    let answer (x : Byte) : Prop := exec (k.command p body) s = .next ((s.dropItem p).answered p (k.code + 0x80) [x])
    (s.canTake p k body →
      (k.lengthFits body = false → answer 0x12) ∧
        (k.lengthFits body = true → k.need.roleMet (s.port p).roles = false → answer 0x03) ∧
        (k.lengthFits body = true → k.need.roleMet (s.port p).roles = true → k.need.wantsGrant = true →
          s.grant.holder ≠ some p → answer 0x04)) ∧
      (¬s.canTake p k body → exec (k.command p body) s = .next s)

/-! ### The Cue Table's requests -/

/-- READ CUE, NEXT CUE, TABLE STATUS and READ PROFILE: what each answers, with nothing else changed but the request taken. With the
table's invariant the record count is at most 512 and the pinned count at most 8. -/
def Obligations.TableReadsAnswer : Prop :=
  ∀ (p : PortId) (s : State),
    let u := s.dropItem p
    let isPinned (c : CueRecord) : Bool := allLanes.any fun l => (s.lane l).pinned == some c.number
    let status (c : CueRecord) : Byte := if c.hold = true then 1 else if c.takeCount = c.takeLimit then 2 else 0
    let lane (c : CueRecord) : Byte :=
      match allLanes.find? fun l => (s.lane l).pinned == some c.number with
      | none => 0xFF
      | some l => BitVec.ofNat 8 l.val
    let group (c : CueRecord) : Byte :=
      match c.group with
      | none => 0
      | some g => BitVec.ofNat 8 (g.val + 1)
    let cue (c : CueRecord) : List Byte :=
      let q := s.profile c.profile
      let a := (s.lane c.lane).routing.advance
      num2 c.number ++ num1 c.lane.val ++ num1 c.reel ++ num3 c.inFrame ++ num3 c.outFrame ++ num1 c.profile.val ++ [group c] ++
        num1 c.character ++ [if c.record = true then 1 else 0] ++ [if c.hold = true then 1 else 0] ++ num1 c.takeLimit ++
        num1 c.slate.length ++ c.slate ++ num1 c.takeCount ++ num1 (c.circled.getD 0) ++ [status c] ++ [lane c] ++
        num3 (c.inFrame - max (max (q.wipe + a) (q.pips * q.spacing + a)) (max q.recordLead 1)) ++
        num3 (c.inFrame - q.recordLead) ++ num3 (c.inFrame - a) ++ num3 (min (c.outFrame + q.tail) 1048575)
    let generation := num2 s.table.generation.toNat
    (s.admits p .tableStatus [] →
      Answers .tableStatus p [] s u
        ([0x00] ++ num2 s.table.records.length ++ [if s.table.confirmed = true then 1 else 0] ++ generation ++
          num1 (s.table.records.countP isPinned))) ∧
      (s.cueInv → s.table.records.length ≤ 512 ∧ s.table.records.countP isPinned ≤ 8) ∧
      (∀ n : Nat, n ≤ 65535 → s.admits p .readCue (num2 n) →
        (n = 0 → Answers .readCue p (num2 n) s u [0x06]) ∧
          (n ≠ 0 → s.record n = none → Answers .readCue p (num2 n) s u [0x07]) ∧
          ∀ c : CueRecord, n ≠ 0 → s.record n = some c → Answers .readCue p (num2 n) s u ([0x00] ++ cue c)) ∧
      (∀ n : Nat, n ≤ 65535 → s.admits p .nextCue (num2 n) →
        let shows (rest : List CueRecord) : Prop :=
          (rest = [] → Answers .nextCue p (num2 n) s u ([0x00] ++ generation ++ [0x00])) ∧
            ∀ (c : CueRecord) (more : List CueRecord), rest = c :: more →
              Answers .nextCue p (num2 n) s u ([0x00] ++ generation ++ [0x01] ++ cue c)
        (n = 0 → shows s.table.records) ∧
          (∀ (first rest : List CueRecord) (d : CueRecord), n ≠ 0 → s.table.records = first ++ d :: rest → d.number = n →
            (∀ c ∈ first, c.number ≠ n) → shows rest) ∧
          (n ≠ 0 → (∀ c ∈ s.table.records, c.number ≠ n) → Answers .nextCue p (num2 n) s u [0x07])) ∧
      (∀ q : ProfileId, s.admits p .readProfile [BitVec.ofNat 8 q.val] →
        let x := s.profile q
        let users := s.table.records.countP fun c => isPinned c && c.profile == q
        Answers .readProfile p [BitVec.ofNat 8 q.val] s u
            ([0x00] ++ num1 x.wipe ++ num1 x.pips ++ num1 x.spacing ++ num1 x.pipLength ++ num1 x.flash ++ num1 x.recordLead ++
              num1 x.tail ++ num1 users) ∧
          (s.cueInv → users ≤ 8)) ∧
      (∀ b : Byte, 7 < b.toNat → s.admits p .readProfile [b] → Answers .readProfile p [b] s u [0x06])

/-- INSERT CUE and AMEND CUE over every record in range, given by its own bytes: the tests in their order, and the record in its
place in table order with the holder's change flag ON; a body that spells no such record is answered RANGE. A record that takes its
place stands among the others, which keep theirs: behind those of a lower reel, in frame or cue number, before the rest. -/
def Obligations.InsertAndAmendCue : Prop :=
  (∀ (c : CueRecord) (rs : List CueRecord),
    let earlier (x y : CueRecord) : Prop :=
      x.reel < y.reel ∨ (x.reel = y.reel ∧ (x.inFrame < y.inFrame ∨ (x.inFrame = y.inFrame ∧ x.number < y.number)))
    ∃ before after : List CueRecord, rs = before ++ after ∧ placeCue c rs = before ++ c :: after ∧
      (rs.Pairwise earlier → (∀ y ∈ rs, y.number ≠ c.number) →
        (∀ y ∈ before, earlier y c) ∧ ∀ y ∈ after, earlier c y)) ∧
  ∀ (p : PortId) (body : List Byte) (s : State),
    let u := s.dropItem p
    let inRange (c : CueRecord) : Prop :=
      1 ≤ c.number ∧ c.number ≤ 65535 ∧ 1 ≤ c.reel ∧ c.reel ≤ 99 ∧ c.inFrame ≤ 1048575 ∧ c.inFrame < c.outFrame ∧
        c.outFrame ≤ c.inFrame + 14400 ∧ c.outFrame ≤ 1048575 ∧ c.character ≤ 255 ∧ 1 ≤ c.takeLimit ∧ c.takeLimit ≤ 99 ∧
        c.slate.length ≤ 24 ∧ ∀ b ∈ c.slate, 0x20 ≤ b.toNat ∧ b.toNat ≤ 0x7E
    let spells (c : CueRecord) : Prop := inRange c ∧ body = c.supplied
    let overlap (c : CueRecord) : Prop :=
      ∃ r ∈ s.table.records, r.number ≠ c.number ∧ r.lane = c.lane ∧ r.reel = c.reel ∧ c.inFrame ≤ r.outFrame ∧
        r.inFrame ≤ c.outFrame
    let written (rs : List CueRecord) : State :=
      { u with table := { s.table with records := rs }, grant := { s.grant with changed := true } }
    (s.admits p .insertCue body →
      ((∀ c : CueRecord, ¬spells c) → Answers .insertCue p body s u [0x06]) ∧
        ∀ c : CueRecord, spells c →
          (s.record c.number ≠ none → Answers .insertCue p body s u [0x08]) ∧
            (s.record c.number = none → 512 ≤ s.table.records.length → Answers .insertCue p body s u [0x09]) ∧
            (s.record c.number = none → s.table.records.length < 512 → overlap c → Answers .insertCue p body s u [0x0A]) ∧
            (s.record c.number = none → s.table.records.length < 512 → ¬overlap c →
              Answers .insertCue p body s
                (written (placeCue { c with takeCount := 0, circled := none } s.table.records))
                ([0x00] ++ num2 (s.table.records.length + 1)))) ∧
      (s.admits p .amendCue body →
        ((∀ c : CueRecord, ¬spells c) → Answers .amendCue p body s u [0x06]) ∧
          ∀ c : CueRecord, spells c →
            (s.record c.number = none → Answers .amendCue p body s u [0x07]) ∧
              ∀ r : CueRecord, s.record c.number = some r →
                let pinned : Prop := ∃ l : LaneId, (s.lane l).pinned = some c.number
                (pinned → Answers .amendCue p body s u [0x0B]) ∧
                  (¬pinned → c.takeLimit < r.takeCount → Answers .amendCue p body s u [0x06]) ∧
                  (¬pinned → r.takeCount ≤ c.takeLimit → overlap c → Answers .amendCue p body s u [0x0A]) ∧
                  (¬pinned → r.takeCount ≤ c.takeLimit → ¬overlap c →
                    Answers .amendCue p body s
                      (written (placeCue { c with takeCount := r.takeCount, circled := r.circled }
                        (s.table.records.filter fun y => y.number != c.number)))
                      [0x00]))

/-- DELETE CUE, HOLD CUE, CLEAR TABLE and SET PROFILE: the tests in their order, the new records or profile, and the change flag,
which the edits of records set and SET PROFILE does not. -/
def Obligations.OtherTableEdits : Prop :=
  ∀ (p : PortId) (s : State),
    let u := s.dropItem p
    let pinned (n : Nat) : Prop := ∃ l : LaneId, (s.lane l).pinned = some n
    let written (rs : List CueRecord) : State :=
      { u with table := { s.table with records := rs }, grant := { s.grant with changed := true } }
    (∀ n : Nat, n ≤ 65535 → s.admits p .deleteCue (num2 n) →
      (n = 0 → Answers .deleteCue p (num2 n) s u [0x06]) ∧
        (n ≠ 0 → s.record n = none → Answers .deleteCue p (num2 n) s u [0x07]) ∧
        (n ≠ 0 → s.record n ≠ none → pinned n → Answers .deleteCue p (num2 n) s u [0x0B]) ∧
        (n ≠ 0 → s.record n ≠ none → ¬pinned n →
          Answers .deleteCue p (num2 n) s (written (s.table.records.filter fun c => c.number != n)) [0x00])) ∧
      (∀ (n : Nat) (b : Byte), n ≤ 65535 → s.admits p .holdCue (num2 n ++ [b]) →
        (n = 0 ∨ 1 < b.toNat → Answers .holdCue p (num2 n ++ [b]) s u [0x06]) ∧
          (n ≠ 0 → b.toNat ≤ 1 → s.record n = none → Answers .holdCue p (num2 n ++ [b]) s u [0x07]) ∧
          ∀ c : CueRecord, n ≠ 0 → b.toNat ≤ 1 → s.record n = some c →
            Answers .holdCue p (num2 n ++ [b]) s
              (written (s.table.records.map fun y => if y.number = n then { y with hold := decide (b = 1) } else y))
              [0x00, if b = 1 then 1 else if c.takeCount = c.takeLimit then 2 else 0]) ∧
      (s.admits p .clearTable [] →
        ((∃ c ∈ s.table.records, pinned c.number) → Answers .clearTable p [] s u [0x0B]) ∧
          ((∀ c ∈ s.table.records, ¬pinned c.number) →
            Answers .clearTable p [] s (written []) ([0x00] ++ num2 s.table.records.length))) ∧
      (∀ b : List Byte, s.admits p .setProfile b →
        let inRange : Prop :=
          byteAt b 1 ≤ 240 ∧ byteAt b 2 ≤ 4 ∧ 1 ≤ byteAt b 3 ∧ byteAt b 3 ≤ 60 ∧ 1 ≤ byteAt b 4 ∧ byteAt b 4 ≤ 8 ∧
            byteAt b 4 ≤ byteAt b 3 ∧ byteAt b 5 ≤ 8 ∧ byteAt b 6 ≤ 120 ∧ byteAt b 7 ≤ 240
        (7 < byteAt b 0 ∨ ¬inRange → Answers .setProfile p b s u [0x06]) ∧
          ∀ q : ProfileId, byteAt b 0 = q.val → inRange →
            ((∃ c ∈ s.table.records, pinned c.number ∧ c.profile = q) → Answers .setProfile p b s u [0x0C]) ∧
              ((∀ c ∈ s.table.records, pinned c.number → c.profile ≠ q) →
                Answers .setProfile p b s
                  { u with
                    table :=
                      { s.table with
                        profiles := s.table.profiles.set q
                          { wipe := byteAt b 1, pips := byteAt b 2, spacing := byteAt b 3, pipLength := byteAt b 4
                            flash := byteAt b 5, recordLead := byteAt b 6, tail := byteAt b 7 } } }
                  [0x00]))

/-! ### The lanes' requests -/

/-- SET LANE: a field out of range is answered RANGE, a lane in service BUSY; else the routing record takes the values, and a new
record port clears the lane's recorder-ready flag. -/
def Obligations.SetLaneWritesTheRouting : Prop :=
  ∀ (p : PortId) (b : List Byte) (s : State), s.admits p .setLane b →
    let u := s.dropItem p
    let indexByte {n : Nat} (x : Option (Fin n)) : Nat :=
      match x with
      | none => 0xFF
      | some i => i.val
    (7 < byteAt b 0 ∨ (3 < byteAt b 1 ∧ byteAt b 1 ≠ 0xFF) ∨ (7 < byteAt b 2 ∧ byteAt b 2 ≠ 0xFF) ∨ 7 < byteAt b 3 ∨
        15 < byteAt b 4 ∨ 15 < byteAt b 5 ∨ 1 < byteAt b 6 → Answers .setLane p b s u [0x06]) ∧
      ∀ (l : LaneId) (q : Option PortId) (t : Option ToneId), byteAt b 0 = l.val → byteAt b 1 = indexByte q →
        byteAt b 2 = indexByte t → byteAt b 3 ≤ 7 → byteAt b 4 ≤ 15 → byteAt b 5 ≤ 15 → byteAt b 6 ≤ 1 →
        ((s.lane l).mode ≠ .off → Answers .setLane p b s u [0x0C]) ∧
          ((s.lane l).mode = .off →
            let x : Routing :=
              { recordPort := q, tone := t, colour := byteAt b 3, priority := byteAt b 4, advance := byteAt b 5
                requireReady := decide (byteAt b 6 = 1) }
            let v := u.setLane l { s.lane l with routing := x }
            (q = (s.lane l).routing.recordPort → Answers .setLane p b s v [0x00]) ∧
              (q ≠ (s.lane l).routing.recordPort →
                Answers .setLane p b s (v.setPunch l { s.punchOf l with ready := false }) [0x00]))

/-- ENABLE LANE, DISABLE LANE and CANCEL LANE by lane state, for lanes whose take has not begun in the case of CANCEL LANE (the
cancel of a begun take is an end of a take, stated above; the absent take number is carried as 0, log 9). -/
def Obligations.EnableDisableCancelLane : Prop :=
  ∀ (p : PortId) (l : LaneId) (s : State), s.notDraining →
    let b : List Byte := [BitVec.ofNat 8 l.val]
    let x := s.lane l
    let u := s.dropItem p
    let code (m : LaneMode) : Byte :=
      match m with
      | .off => 0
      | .standby => 1
      | .armed => 2
      | .leadin => 3
      | .take => 4
      | .tail => 5
    let flag (c : Bool) : Byte := if c = true then 1 else 0
    let runs : Prop := x.mode = .leadin ∨ x.mode = .take ∨ x.mode = .tail
    let gone (m : LaneMode) : Lane := { x with mode := m, pinned := none, cycle := none, closing := false }
    (s.admits p .enableLane b →
      (x.mode = .off → Answers .enableLane p b s (u.setLane l { x with mode := .standby }) [0x00, 0x01, flag x.closing]) ∧
        (runs → Answers .enableLane p b s (u.setLane l { x with closing := false }) [0x00, code x.mode, 0x00]) ∧
        (x.mode = .standby ∨ x.mode = .armed → Answers .enableLane p b s u [0x00, code x.mode, flag x.closing])) ∧
      (s.admits p .disableLane b →
        (x.mode = .off → Answers .disableLane p b s u [0x00, 0x00, flag x.closing]) ∧
          (x.mode = .standby →
            Answers .disableLane p b s (u.setLane l { x with mode := .off }) [0x00, 0x00, flag x.closing]) ∧
          (x.mode = .armed → Answers .disableLane p b s (u.setLane l (gone .off)) [0x00, 0x00, 0x00]) ∧
          (runs → Answers .disableLane p b s (u.setLane l { x with closing := true }) [0x00, code x.mode, 0x01])) ∧
      (s.admits p .cancelLane b →
        (x.mode = .off ∨ x.mode = .standby → Answers .cancelLane p b s u [0x00, code x.mode, 0x00]) ∧
          (x.mode = .armed → Answers .cancelLane p b s (u.setLane l (gone .standby)) [0x00, 0x01, 0x00]) ∧
          (∀ c : CycleRecord, x.mode = .leadin → x.cycle = some c → c.begun = false →
            let m : LaneMode := if x.closing = true then .off else .standby
            Answers .cancelLane p b s
              ((u.handOff (.stop l false)).setLane l { gone m with falseStarts := satInc x.falseStarts }) [0x00, code m, 0x00])) ∧
      ∀ n : Byte, 7 < n.toNat →
        (s.admits p .enableLane [n] → Answers .enableLane p [n] s u [0x06]) ∧
          (s.admits p .disableLane [n] → Answers .disableLane p [n] s u [0x06]) ∧
          (s.admits p .cancelLane [n] → Answers .cancelLane p [n] s u [0x06])

/-- CLEAR STAGE in a state that meets the invariants: no group is active, no lane pins a cue or runs a cycle, every latch and every
recorder-ready flag is CLEAR, no lane has marks, every channel is BLANK with no holder, no take is punched and every link is
NORMAL; routing records stay, and the answer counts the lanes whose cycle it ended. On the way the active group is stopped with
HALT TRANSPORT and LOOP STATE, and the lanes are cancelled one after another from L0 to L7, each whole, with its PUNCH OUT CANCEL
or pair cancel, its journal entry, its take count and CYCLE ENDED; what follows touches none of these. That hand-offs still waiting
are dropped, and the order of the parts, is log 16. -/
def Obligations.ClearStageClears : Prop :=
  ∀ (p : PortId) (s : State), s.admits p .clearStage [] → s.cueInv → s.punchInv → s.loopInv →
    ∃ t : State,
      Answers .clearStage p [] s t ([0x00] ++ num1 (allLanes.countP fun l => (s.lane l).pinned.isSome)) ∧
        t.activeGroup = none ∧
        (∀ l : LaneId, (t.lane l).pinned = none ∧ (t.lane l).cycle = none ∧ (t.lane l).closing = false ∧
          (t.lane l).readyLatch = false ∧ (t.lane l).routing = (s.lane l).routing ∧
          (t.lane l).mode =
            (if (s.lane l).mode = .off ∨ (s.lane l).closing = true then .off else .standby) ∧
          (t.lane l).falseStarts =
            (if (s.lane l).mode = .leadin ∧ s.takeBegun l = false then satInc (s.lane l).falseStarts
             else (s.lane l).falseStarts) ∧
          (t.markLane l).setup = none ∧ (t.markLane l).pip = none ∧ (t.markLane l).bid = .idle ∧
          (t.punchOf l).ready = false ∧ (t.punchOf l).tallied = false ∧ (t.punchOf l).mode = .idle) ∧
        (∀ c : ChannelId, (t.channel c).holder = none ∧ (t.channel c).drawing = .blank ∧
          (t.channel c).lastSent = (s.channel c).lastSent) ∧
        (∀ q : PortId, t.link q = .normal) ∧ t.handoffs = [] ∧ t.marks.collisions = s.marks.collisions ∧
        (∀ g : GroupId, s.activeGroup = some g → t.group g = { s.group g with mode := .idle, cause := .clear }) ∧
        (∀ g : GroupId, s.activeGroup ≠ some g → t.group g = s.group g) ∧
        TouchesOnly [.table, .lanes, .handoffs, .marks, .punch, .links, .loop, .journal, .ports] (s.dropItem p) t ∧
        ∃ u : Fin 9 → State,
          (let v : State := { s.dropItem p with handoffs := [] }
           (s.activeGroup = none → u 0 = v) ∧
            ∀ (g : GroupId) (q : PortId), s.activeGroup = some g → (s.group g).port = some q →
              u 0 =
                post .loop (.loopState g .idle (s.group g).passes .clear none)
                  { postTransport q (.halt g .clear) v with
                    loop :=
                      { groups := s.loop.groups.set g { s.group g with mode := .idle, cause := .clear }
                        locateTimer := .stopped, locateSent := false } }) ∧
          (∀ l : LaneId, CancelledLane l (u l.castSucc) (u l.succ)) ∧
          TouchesOnly [.lanes, .handoffs, .marks, .punch, .links] (u 8) t

/-! ### The Punch Unit's requests -/

/-- READY sets or clears the recorder-ready flag from the lane's record port and is WRONG_PORT from any other; TALLY from the punch
port of a RECORDING lane sets tallied and answers the next check point and the consecutive misses, and is NOT_RECORDING otherwise;
RECONFIRM sets the port's link to NORMAL and answers the state before it; a lane or value out of range is answered RANGE. -/
def Obligations.ReadyTallyReconfirm : Prop :=
  ∀ (p : PortId) (s : State),
    let u := s.dropItem p
    (∀ b c : Byte, s.admits p .ready [b, c] → 7 < b.toNat ∨ 1 < c.toNat → Answers .ready p [b, c] s u [0x06]) ∧
      (∀ (l : LaneId) (c : Byte), c.toNat ≤ 1 → s.admits p .ready [BitVec.ofNat 8 l.val, c] →
        ((s.lane l).routing.recordPort = some p → (s.port p).roles.record = true →
          Answers .ready p [BitVec.ofNat 8 l.val, c] s (u.setPunch l { s.punchOf l with ready := decide (c = 1) }) [0x00, c]) ∧
          ((s.lane l).routing.recordPort ≠ some p ∨ (s.port p).roles.record = false →
            Answers .ready p [BitVec.ofNat 8 l.val, c] s u [0x10])) ∧
      (∀ b : Byte, s.admits p .tally [b] → 7 < b.toNat → Answers .tally p [b] s u [0x06]) ∧
      (∀ l : LaneId, s.admits p .tally [BitVec.ofNat 8 l.val] →
        (∀ n : Nat, (s.punchOf l).mode = .recording p n →
          Answers .tally p [BitVec.ofNat 8 l.val] s (u.setPunch l { s.punchOf l with tallied := true })
            ([0x00] ++ num3 n ++ num1 (s.punchOf l).consecutive)) ∧
          ((∀ n : Nat, (s.punchOf l).mode ≠ .recording p n) → Answers .tally p [BitVec.ofNat 8 l.val] s u [0x0F])) ∧
      (s.admits p .reconfirm [] →
        Answers .reconfirm p [] s (u.setLink p .normal) [0x00, if s.link p = .reconfirm then 1 else 0])

/-! ### The Loop Controller's requests -/

/-- START LOOP: its tests in their order and the start of the group; STOP LOOP: the active group goes IDLE and its transport is
halted, any other group stays as it is. -/
def Obligations.StartAndStopLoop : Prop :=
  ∀ (p : PortId) (s : State),
    let u := s.dropItem p
    let code (m : LoopMode) : Byte :=
      match m with
      | .idle => 0
      | .locating => 1
      | .running => 2
      | .draining => 3
      | .done => 4
      | .failed => 5
    let transport (q : PortId) : Prop := (s.port q).attached = true ∧ (s.port q).roles.transport = true
    (∀ b : List Byte, s.admits p .startLoop b →
      let answer (t : State) (fields : List Byte) : Prop := Answers .startLoop p b s t fields
      (byteAt b 0 = 0 ∨ 16 < byteAt b 0 ∨ 99 < byteAt b 1 ∨ 480 < wordAt b 2 → answer u [0x06]) ∧
        ∀ g : GroupId, byteAt b 0 = g.val + 1 → byteAt b 1 ≤ 99 → wordAt b 2 ≤ 480 →
          let members := s.table.records.filter fun c =>
            c.group == some g && !c.hold && decide (c.takeCount < c.takeLimit) && (s.lane c.lane).mode != .off &&
              !(s.lane c.lane).closing
          (s.activeGroup ≠ none → answer u [0x0C]) ∧
            (s.activeGroup = none → (∀ q : PortId, ¬transport q) → answer u [0x0D]) ∧
            ∀ q : PortId, s.activeGroup = none → transport q → (∀ r : PortId, r < q → ¬transport r) →
              (members = [] → answer u [0x07]) ∧
                ((∃ c ∈ members, ∃ d ∈ members, c.reel ≠ d.reel) → answer u [0x06]) ∧
                ∀ (c : CueRecord) (rest : List CueRecord), members = c :: rest → (∀ d ∈ rest, d.reel = c.reel) →
                  ∃ first last : Nat,
                    (∀ d ∈ members, first ≤ (s.frames d).leadIn ∧ (s.frames d).cycleEnd ≤ last) ∧
                    (∃ d ∈ members, (s.frames d).leadIn = first) ∧ (∃ d ∈ members, (s.frames d).cycleEnd = last) ∧
                    let f := first - wordAt b 2
                    answer (post .loop (.loopState g .locating 0 .start (some { reel := c.reel, frame := f }))
                      { postTransport q (.locate g c.reel f 1) u with
                        loop :=
                          { groups := s.loop.groups.set g
                              { mode := .locating, cause := .start, passes := 0, limit := byteAt b 1, preroll := wordAt b 2
                                reel := some c.reel, spanStart := some first, spanEnd := some last, port := some q }
                            locateTimer := .running (1000 * s.params.locateTimeout), locateSent := false } })
                      ([0x00] ++ num1 c.reel ++ num3 first ++ num3 last ++ num3 f ++ num1 q.val)) ∧
      (∀ b : Byte, s.admits p .stopLoop [b] → (b.toNat = 0 ∨ 16 < b.toNat → Answers .stopLoop p [b] s u [0x06]) ∧
        ∀ g : GroupId, b.toNat = g.val + 1 →
          (s.activeGroup ≠ some g → Answers .stopLoop p [b] s u [0x00, code (s.group g).mode]) ∧
            ∀ q : PortId, s.activeGroup = some g → (s.group g).port = some q →
              Answers .stopLoop p [b] s
                (post .loop (.loopState g .idle (s.group g).passes .stopRequest none)
                  { postTransport q (.halt g .stopRequest) u with
                    loop :=
                      { groups := s.loop.groups.set g { s.group g with mode := .idle, cause := .stopRequest }
                        locateTimer := .stopped, locateSent := false } })
                [0x00, 0x00])

/-! ### The take journal's requests -/

/-- CIRCLE TAKE, UNCIRCLE TAKE and TRIM JOURNAL: the tests in their order, the mark on the newest entry of the cue and take, the
cue's circled take, CIRCLED, and the entries that a trim leaves. -/
def Obligations.CircleUncircleTrim : Prop :=
  ∀ (p : PortId) (s : State),
    let u := s.dropItem p
    (∀ (cue : Nat) (b : Byte), cue ≤ 65535 →
      let body : List Byte := num2 cue ++ [b]
      let marked (e : JournalEntry) (k : Bool) : Journal :=
        { s.journal with entries := s.journal.entries.map fun y => if y.sequence = e.sequence then { y with circled := k } else y }
      let outOfRange : Prop := cue = 0 ∨ b.toNat = 0 ∨ 99 < b.toNat
      let found (older newer : List JournalEntry) (e : JournalEntry) : Prop :=
        s.journal.entries = older ++ e :: newer ∧ e.cue = cue ∧ e.take = b.toNat ∧ ∀ y ∈ newer, ¬(y.cue = cue ∧ y.take = b.toNat)
      let absent : Prop := ∀ y ∈ s.journal.entries, ¬(y.cue = cue ∧ y.take = b.toNat)
      (s.admits p .circleTake body →
        (outOfRange → Answers .circleTake p body s u [0x06]) ∧
          (¬outOfRange → absent → Answers .circleTake p body s u [0x0E]) ∧
          ∀ (older newer : List JournalEntry) (e : JournalEntry), ¬outOfRange → found older newer e →
            let field : CueField := if s.record cue = none then .noRecord else .field (some e.take)
            Answers .circleTake p body s
              (post .journal (.circled e.sequence cue e.take e.lane true (.port p) field)
                { u with
                  journal := marked e true
                  table :=
                    { s.table with
                      records := s.table.records.map fun c => if c.number = cue then { c with circled := some e.take } else c } })
              ([0x00] ++ num3 e.sequence ++ [if s.record cue = none then 0xFE else b])) ∧
        (s.admits p .uncircleTake body →
          (outOfRange → Answers .uncircleTake p body s u [0x06]) ∧
            (¬outOfRange → absent → Answers .uncircleTake p body s u [0x0E]) ∧
            ∀ (older newer : List JournalEntry) (e : JournalEntry), ¬outOfRange → found older newer e →
              let left (c : CueRecord) : Option Nat := if c.circled = some e.take then none else c.circled
              let field : CueField :=
                match s.record cue with
                | none => .noRecord
                | some c => .field (left c)
              let code : List Byte :=
                match s.record cue with
                | none => [0xFE]
                | some c => num1 ((left c).getD 0)
              Answers .uncircleTake p body s
                (post .journal (.circled e.sequence cue e.take e.lane false (.port p) field)
                  { u with
                    journal := marked e false
                    table :=
                      { s.table with
                        records := s.table.records.map fun c => if c.number = cue then { c with circled := left c } else c } })
                ([0x00] ++ num3 e.sequence ++ code))) ∧
      (∀ b : Byte, s.admits p .trimJournal [b] →
        (1 < b.toNat → Answers .trimJournal p [b] s u [0x06]) ∧
          (b = 0 →
            Answers .trimJournal p [b] s
              { u with journal := { s.journal with entries := s.journal.entries.filter fun e => e.circled } }
              ([0x00] ++ num2 (s.journal.entries.countP fun e => !e.circled))) ∧
          (b = 1 →
            Answers .trimJournal p [b] s
              { u with
                journal := { entries := [], next := some 1, isSealed := false }
                table := { s.table with records := s.table.records.map fun c => { c with circled := none } } }
              ([0x00] ++ num2 s.journal.entries.length)))

/-! ### SET LINE -/

/-- SET LINE: a field out of range is answered RANGE (a trigger byte other than 0 for an output line among them, log 21); else the
line takes its settings, an input line keeps its level, the hold toggle goes OFF when no EDGE DIRECTOR_HOLD line remains, and the
answer carries the line's settings and state (their order is log 12). An output line is active while the condition of its function
holds, and is driven to its polarity's level then and to the other level else; a lane's record tally is ON from QUEUED until its
PUNCH OUT has been sent; a tone line sounds while a lane on it has an active pip. -/
def Obligations.SetLineWritesTheSettings : Prop :=
  (∀ (s : State) (l : LaneId) (o : LineId) (x : ToneId),
    let tally (k : LaneId) : Prop :=
      (∃ q : PortId, (s.punchOf k).mode = .queued q) ∨ (∃ (q : PortId) (n : Nat), (s.punchOf k).mode = .recording q n) ∨
        ∃ (q : PortId) (cue take : Nat) (r : PunchReason) (frame : Nat),
          .punchOut k cue take r frame ∈ (s.port q).priority ∨
            ∃ t : Transmission, (s.port q).transmitting = some t ∧ t.message = .notice (.punchOut k cue take r frame)
    let active : Prop :=
      match (s.output o).function with
      | .none => False
      | .cueLight k => (s.lane k).mode = .leadin ∨ ((s.output o).span = .toOut ∧ (s.lane k).mode = .take)
      | .recordTally k => tally k
      | .rolling => s.tracker.mode = .locked ∨ s.tracker.mode = .freewheel
      | .loopActive =>
        ∃ g : GroupId, (s.group g).mode = .locating ∨ (s.group g).mode = .running ∨ (s.group g).mode = .draining
      | .grantHeld => s.grant.holder ≠ none
      | .manualOn => True
      | .manualOff => False
    (s.recordTally l = true ↔ tally l) ∧ (s.outputActive o = true ↔ active) ∧
      (active → s.outputLevel o = (s.output o).polarity) ∧ (¬active → s.outputLevel o ≠ (s.output o).polarity) ∧
      (s.resetHeld = false → s.outputPin o = some (s.outputLevel o)) ∧
      (s.toneSounding x = true ↔
        ∃ (k : LaneId) (m : MarkSetup), (s.markLane k).setup = some m ∧ m.tone = some x ∧ (s.markLane k).pip ≠ none)) ∧
  ∀ (p : PortId) (b : List Byte) (s : State), s.admits p .setLine b →
    let u := s.dropItem p
    let answer (t : State) (fields : List Byte) : Prop := Answers .setLine p b s t fields
    let level (n : Nat) : Level := if n = 0 then .low else .high
    let levelByte (v : Level) : Byte :=
      match v with
      | .low => 0
      | .high => 1
    let flag (c : Bool) : Byte := if c = true then 1 else 0
    let edgeHold (t : State) : Prop := ∃ j : LineId, (t.input j).function = .directorHold ∧ (t.input j).trigger = .edge
    let released (t w : State) : Prop :=
      (edgeHold t → w = t) ∧ (¬edgeHold t → w = { t with lines := { t.lines with holdToggle := false } })
    ((7 < byteAt b 0 ∧ byteAt b 0 < 16) ∨ 23 < byteAt b 0 → answer u [0x06]) ∧
      (∀ i : LineId, byteAt b 0 = i.val →
        (1 < byteAt b 2 ∨ 1 < byteAt b 3 ∨ byteAt b 4 = 0 ∨ 15 < byteAt b 4 ∨ (∀ f : InputFunction, f.code ≠ byteAt b 1) →
          answer u [0x06]) ∧
          ∀ f : InputFunction, f.code = byteAt b 1 → byteAt b 2 ≤ 1 → byteAt b 3 ≤ 1 → 1 ≤ byteAt b 4 → byteAt b 4 ≤ 15 →
            let x : InputLine :=
              { function := f, trigger := if byteAt b 2 = 0 then .edge else .level, polarity := level (byteAt b 3)
                debounce := byteAt b 4, level := (s.input i).level, differing := 0 }
            ∃ w : State, released (u.setInput i x) w ∧
              answer w
                ([0x00] ++ num1 (byteAt b 1) ++ num1 (byteAt b 2) ++ num1 (byteAt b 3) ++ num1 (byteAt b 4) ++
                  [levelByte x.level, flag (x.level == x.polarity)])) ∧
      ∀ o : LineId, byteAt b 0 = 16 + o.val →
        (byteAt b 2 ≠ 0 ∨ 1 < byteAt b 3 ∨ 1 < byteAt b 4 ∨ (∀ f : OutputFunction, f.code ≠ byteAt b 1) → answer u [0x06]) ∧
          ∀ f : OutputFunction, f.code = byteAt b 1 → byteAt b 2 = 0 → byteAt b 3 ≤ 1 → byteAt b 4 ≤ 1 →
            ∃ w : State,
              released (u.setOutput o
                { function := f, polarity := level (byteAt b 3), span := if byteAt b 4 = 0 then .toIn else .toOut }) w ∧
              answer w
                ([0x00] ++ num1 (byteAt b 1) ++ num1 (byteAt b 3) ++ num1 (byteAt b 4) ++
                  [flag (w.outputActive o), levelByte (w.outputLevel o)])

/-! ### The ports' settings and the state reads -/

/-- SET PARAMETERS writes the eight values when all are in range and none disturbs what runs, and answers RANGE or BUSY otherwise;
CONFIGURE PORT writes the four settings of a port under the same two answers, the requester's own rate waiting for its answer, and
clears the ready flags of the lanes that name a port that loses RECORD; FETCH NOTICES takes the oldest notices, at most four, as
many as the answer has room for. That a rate set by another port replaces the one waiting for the end of the same message, and cancels
the one waiting with the port's own answer in the slot, is the model's choice (log 11). -/
def Obligations.SettingsAndNotices : Prop :=
  ∀ (p : PortId) (b : List Byte) (s : State),
    let u := s.dropItem p
    (s.admits p .setParameters b →
      let inRange : Prop :=
        (byteAt b 0 = 24 ∨ byteAt b 0 = 25 ∨ byteAt b 0 = 30 ∨ byteAt b 0 = 48) ∧ 2 ≤ byteAt b 1 ∧ byteAt b 1 ≤ 15 ∧
          byteAt b 2 ≤ 15 ∧ 16 ≤ byteAt b 3 ∧ byteAt b 3 ≤ 128 ∧ byteAt b 4 ≤ 2 ∧ 1 ≤ byteAt b 5 ∧ byteAt b 5 ≤ 60 ∧
          1 ≤ byteAt b 6 ∧ byteAt b 6 ≤ 30
      let busy : Prop :=
        (s.tracker.mode = .freewheel ∧ byteAt b 2 < s.tracker.freewheel) ∨
          (byteAt b 0 ≠ s.params.frameRate ∧ ∃ l : LaneId, (s.lane l).mode ≠ .off ∧ (s.lane l).mode ≠ .standby)
      (¬inRange → Answers .setParameters p b s u [0x06]) ∧ (inRange → busy → Answers .setParameters p b s u [0x0C]) ∧
        (inRange → ¬busy →
          Answers .setParameters p b s
            { u with
              params :=
                { frameRate := byteAt b 0, lockCount := byteAt b 1, freewheelLimit := byteAt b 2, tallyInterval := byteAt b 3
                  missAllowance := byteAt b 4, grantTimeout := byteAt b 5, locateTimeout := byteAt b 6
                  bidThreshold := byteAt b 7 } }
            (0x00 :: b))) ∧
      (s.admits p .configurePort b →
        (3 < byteAt b 0 ∨ 7 < byteAt b 1 ∨ 127 < byteAt b 2 ∨ 4 < byteAt b 3 ∨ byteAt b 4 = 0 ∨ 32 < byteAt b 4 →
          Answers .configurePort p b s u [0x06]) ∧
          ∀ (q : PortId) (r : Roles) (x : Subscription) (rate : Rate), byteAt b 0 = q.val → r.code = byteAt b 1 →
            x.code = byteAt b 2 → rate.code = byteAt b 3 → 1 ≤ byteAt b 4 → byteAt b 4 ≤ 32 →
            let old := s.port q
            let busy : Prop :=
              (old.roles.edit = true ∧ r.edit = false ∧ (s.grant.holder = some q ∨ q ∈ s.grant.waiting)) ∨
                (old.roles.record = true ∧ r.record = false ∧
                  ∃ l : LaneId, (s.punchOf l).mode = .queued q ∨ (∃ n : Nat, (s.punchOf l).mode = .recording q n) ∨
                    (s.punchOf l).mode = .broken q) ∨
                (old.roles.transport = true ∧ r.transport = false ∧
                  ∃ g : GroupId, s.activeGroup = some g ∧ (s.group g).port = some q)
            (busy → Answers .configurePort p b s u [0x0C]) ∧
              (¬busy →
                ∃ t : State,
                  exec (.configurePort p b) s =
                      .next (restartIdle p (t.placeAnswer p
                        { kind := 0x83, body := 0x00 :: b.tail, newRate := if p = q then some rate else none })) ∧
                    TouchesOnly [.punch, .ports] u t ∧ (∀ k : PortId, k ≠ q → t.port k = u.port k) ∧
                    t.port q =
                      (let y : Port :=
                        { u.port q with roles := r, subscription := x, rate := rate, threshold := byteAt b 4 }
                       if p = q then y
                       else
                        { y with
                          slot := y.slot.map fun n => { n with newRate := none }
                          lineRate := if y.transmitting = none then rate else y.lineRate
                          transmitting := y.transmitting.map fun m => { m with newRate := some rate } }) ∧
                    ∀ l : LaneId,
                      t.punchOf l =
                        if old.roles.record = true ∧ r.record = false ∧ (s.lane l).routing.recordPort = some q then
                          { s.punchOf l with ready := false }
                        else s.punchOf l)) ∧
      (s.admits p .fetchNotices [] →
        let x := u.port p
        let entry (n : Notice) : List Byte := num1 (1 + n.body.length) ++ [n.kind] ++ n.body
        let bytes (ns : List Notice) : List Byte := (ns.map entry).flatten
        ∃ out left : List Notice, x.ordinary = out ++ left ∧ out.length ≤ 4 ∧ (bytes out).length ≤ 58 ∧
          (out.length = 4 ∨ left = [] ∨ ∀ (n : Notice) (more : List Notice), left = n :: more →
            58 < (bytes out).length + (entry n).length) ∧
          Answers .fetchNotices p [] s (u.setPort p { x with ordinary := left, lostSinceFetch := 0 })
            ([0x00] ++ num1 left.length ++ num2 x.lostSinceFetch ++ num1 out.length ++ bytes out))

/-- IDENTIFY, PORT STATUS, READ PARAMETERS, TRACKER STATUS, READ LANE, READ LOOP, READ JOURNAL and READ LINES: the bytes each
answers, with nothing else changed but the request taken. Absent values and the layouts that the spec leaves open are the model's
choice (log 8, log 9, log 11, log 12). -/
def Obligations.StateReadsAnswer : Prop :=
  ∀ (p : PortId) (s : State),
    let u := s.dropItem p
    let flag (c : Bool) : List Byte := [if c = true then 1 else 0]
    let index {n : Nat} (x : Option (Fin n)) : Byte :=
      match x with
      | none => 0xFF
      | some i => BitVec.ofNat 8 i.val
    let frame (x : Option Nat) : List Byte := num3 (x.getD 0xFFFFFF)
    let small (x : Option Nat) : List Byte := num1 (x.getD 0)
    let pass (x : Option LoopPass) : List Byte :=
      match x with
      | none => [0, 0]
      | some y => num1 (y.group.val + 1) ++ num1 y.pass
    let group (x : Group) : List Byte :=
      num1 x.mode.code ++ num1 x.cause.code ++ num1 x.passes ++ num1 x.limit ++ num2 x.preroll ++ small x.reel ++
        frame x.spanStart ++ frame x.spanEnd ++ [index x.port]
    let cycle (y : Option CycleRecord) : List Byte :=
      num2 ((y.map fun c => c.cue).getD 0) ++ small (y.map fun c => c.reel) ++ frame (y.map fun c => c.leadIn) ++
        frame (y.map fun c => c.punchIn) ++ frame (y.map fun c => c.markRef) ++ frame (y.map fun c => c.cycleEnd) ++
        flag (y.any fun c => c.begun) ++ small (y.bind fun c => c.take) ++ frame (y.bind fun c => c.begin) ++
        frame (y.map fun c => c.last) ++ flag (y.any fun c => c.broken) ++ pass (y.bind fun c => c.loop) ++
        num2 ((y.map fun c => c.flags.mask false).getD 0)
    let entry (e : JournalEntry) : List Byte :=
      num3 e.sequence ++ num2 e.cue ++ num1 e.lane.val ++ num1 e.reel ++ num1 e.take ++ num1 e.outcome.code ++
        flag e.recorded ++ num2 (e.flags.mask e.circled) ++ num3 e.begin ++ num3 e.last ++ [index e.recordPort] ++
        num1 e.misses ++ pass e.loop
    let level (v : Level) : List Byte := flag (v == .high)
    let input (i : LineId) : List Byte :=
      let x := s.input i
      num1 x.function.code ++ num1 x.trigger.code ++ level x.polarity ++ num1 x.debounce ++ level x.level ++
        flag (x.level == x.polarity)
    let output (o : LineId) : List Byte :=
      let x := s.output o
      num1 x.function.code ++ level x.polarity ++ num1 x.span.code ++ flag (s.outputActive o) ++ level (s.outputLevel o)
    (s.admits p .identify [] →
      Answers .identify p [] s u [0x00, 0x0F, 0x5A, 0x04, 0x08, 0x01, 0x08, 0x04, 0x04]) ∧
      (∀ b : Byte, 3 < b.toNat → s.admits p .portStatus [b] → Answers .portStatus p [b] s u [0x06]) ∧
      (∀ q : PortId, s.admits p .portStatus [BitVec.ofNat 8 q.val] →
        let x := u.port q
        Answers .portStatus p [BitVec.ofNat 8 q.val] s u
          ([0x00] ++ flag x.attached ++ num1 x.roles.code ++ num1 x.subscription.code ++ num1 x.rate.code ++
            num1 x.threshold ++ num1 x.receiveQueue.length ++ flag (p == q || x.slot.isSome) ++ num1 x.priority.length ++
            num1 x.ordinary.length ++ flag (x.attached && decide (x.threshold ≤ x.ordinary.length)) ++
            flag (s.link q == .reconfirm) ++ num2 x.lostSinceFetch ++ num2 x.frameErrors ++ num2 x.overruns ++
            num2 x.noticesLost)) ∧
      (s.admits p .readParameters [] →
        let x := s.params
        Answers .readParameters p [] s u
          ([0x00] ++ num1 x.frameRate ++ num1 x.lockCount ++ num1 x.freewheelLimit ++ [15] ++ num1 x.tallyInterval ++
            num1 x.missAllowance ++ num1 x.grantTimeout ++ num1 x.locateTimeout ++ num1 x.bidThreshold)) ∧
      (s.admits p .trackerStatus [] →
        let t := s.tracker
        Answers .trackerStatus p [] s u
          ([0x00] ++ num1 t.mode.code ++ small (t.position.map fun q => q.reel) ++ frame (t.position.map fun q => q.frame) ++
            num1 ((t.motion.map fun m => m.code).getD 0xFF) ++ num1 t.run ++ num1 t.freewheel ++ num2 t.words ++
            num2 t.badWords ++ num2 t.jumps ++ num2 t.losses)) ∧
      (∀ b : Byte, 7 < b.toNat → s.admits p .readLane [b] → Answers .readLane p [b] s u [0x06]) ∧
      (∀ l : LaneId, s.admits p .readLane [BitVec.ofNat 8 l.val] →
        let x := s.lane l
        let y := s.punchOf l
        Answers .readLane p [BitVec.ofNat 8 l.val] s u
          ([0x00] ++ num1 x.mode.code ++ flag x.closing ++ [index x.routing.recordPort, index x.routing.tone] ++
            num1 x.routing.colour ++ num1 x.routing.priority ++ num1 x.routing.advance ++ flag x.routing.requireReady ++
            flag x.readyLatch ++ flag (x.readyLatch || s.readyLevel l) ++ num2 x.falseStarts ++ num2 (x.pinned.getD 0) ++
            cycle x.cycle ++ flag y.ready ++ num1 y.mode.code ++ [index y.mode.port] ++ num1 (encDry y.mode.dryReason) ++
            frame y.mode.nextCheck ++ num1 y.consecutive ++ num2 y.total ++ [index (s.markLane l).channel])) ∧
      (∀ b : Byte, b.toNat = 0 ∨ 16 < b.toNat → s.admits p .readLoop [b] → Answers .readLoop p [b] s u [0x06]) ∧
      (∀ g : GroupId, s.admits p .readLoop [BitVec.ofNat 8 (g.val + 1)] →
        let locating := (s.group g).mode == .locating
        Answers .readLoop p [BitVec.ofNat 8 (g.val + 1)] s u
          ([0x00] ++ group (s.group g) ++ flag (s.activeGroup == some g) ++ flag (locating && s.loop.locateSent) ++
            num2 (if locating = true then s.loop.locateTimer.left else 0) ++
            num1 (allLanes.countP fun l => s.lanePinsMember g l))) ∧
      (∀ n : Nat, n ≤ 16777215 → s.admits p .readJournal (num3 n) →
        let j := s.journal
        let found := j.entries.filter fun e => decide (n ≤ e.sequence)
        Answers .readJournal p (num3 n) s u
          ([0x00] ++ num2 j.entries.length ++ num2 (j.entries.countP fun e => e.circled) ++ num3 (j.next.getD 0) ++
            flag j.isSealed ++ num1 (min 2 found.length) ++ flag (decide (found.length ≤ 2)) ++
            ((found.take 2).map entry).flatten)) ∧
      (s.admits p .readLines [] →
        Answers .readLines p [] s u
          ([0x00] ++ (allLines.map input).flatten ++ flag s.lines.holdToggle ++ flag s.directorHold ++
            (allLines.map output).flatten ++ num1 s.straps.frameRate ++ level s.straps.o2 ++
            (allTones.map fun t => flag (s.toneSounding t) ++ num2 s.marks.collisions[t]).flatten))

/-! ### What every step keeps -/

/-- The parameters and the tracker keep to their ranges, and the tracker's items to its state, at every step (R43, R54, R60, R185). -/
def Obligations.StepKeepsTheTracker : Prop := ∀ s t : State, s.trackerInv → step s = .next t → t.trackerInv

/-- The grant, its wait list, flag and timer agree at every step, and holder and waiters are attached with EDIT (R26 to R29, R37). -/
def Obligations.StepKeepsTheGrant : Prop := ∀ s t : State, s.grantInv → step s = .next t → t.grantInv

/-- The journal keeps at most 1,024 entries with strictly increasing sequence numbers below the next one at every step, and is
sealed exactly when there is no next one (R149, R151). -/
def Obligations.StepKeepsTheJournal : Prop := ∀ s t : State, s.journalInv → step s = .next t → t.journalInv

/-- The ports keep to the places of their receive and ordinary queues and the range of their counters at every step, and a detached
port holds nothing (R173, R175, R177, R181). A priority queue that meets its own invariant, which every step keeps as well, holds at
most 9 notices of its 16 places (R180). -/
def Obligations.StepKeepsThePorts : Prop :=
  (∀ s t : State, s.portsInv → step s = .next t → t.portsInv) ∧
    ∀ (s : State) (p : PortId), s.punchInv → (s.port p).priority.length ≤ 9

/-- At most one group is active after every step, and the locate timer runs exactly while a group is LOCATING (R133). -/
def Obligations.StepKeepsTheLoop : Prop := ∀ s t : State, s.loopInv → step s = .next t → t.loopInv

/-- The table keeps its order, its windows and its counts at every step, and every lane's pin, cycle record and closing flag agree
with its state (R2, R6, R20, R22, R67). -/
def Obligations.StepKeepsTheCues : Prop := ∀ s t : State, s.cueInv → step s = .next t → t.cueInv

/-- The priority queues hold at most one punch notice of a lane and one transport notice at every step, a PUNCH IN only for a
QUEUED lane (R123, R180). -/
def Obligations.StepKeepsThePunches : Prop := ∀ s t : State, s.punchInv → step s = .next t → t.punchInv

/-- A channel is BLANK exactly when it has no holder, and no channel is held by two lanes, after every step (R95, R101). -/
def Obligations.StepKeepsTheOverlay : Prop := ∀ s t : State, s.overlayInv → step s = .next t → t.overlayInv

end
end

