-- ==== Sys2Proof/Laws/State.lean ====
section
/-! SUPPORT. Laws/State.lean: what each named update leaves in each field, and reading back what was written. -/

namespace Sys2Proof.Machine

/-! ### setLane -/

@[simp] theorem State.setLane_resetHeld (s : State) (l : LaneId) (x : Lane) : (s.setLane l x).resetHeld = s.resetHeld := rfl
@[simp] theorem State.setLane_straps (s : State) (l : LaneId) (x : Lane) : (s.setLane l x).straps = s.straps := rfl
@[simp] theorem State.setLane_params (s : State) (l : LaneId) (x : Lane) : (s.setLane l x).params = s.params := rfl
@[simp] theorem State.setLane_table (s : State) (l : LaneId) (x : Lane) : (s.setLane l x).table = s.table := rfl
@[simp] theorem State.setLane_grant (s : State) (l : LaneId) (x : Lane) : (s.setLane l x).grant = s.grant := rfl
@[simp] theorem State.setLane_tracker (s : State) (l : LaneId) (x : Lane) : (s.setLane l x).tracker = s.tracker := rfl
@[simp] theorem State.setLane_offered (s : State) (l : LaneId) (x : Lane) : (s.setLane l x).offered = s.offered := rfl
@[simp] theorem State.setLane_handoffs (s : State) (l : LaneId) (x : Lane) : (s.setLane l x).handoffs = s.handoffs := rfl
@[simp] theorem State.setLane_marks (s : State) (l : LaneId) (x : Lane) : (s.setLane l x).marks = s.marks := rfl
@[simp] theorem State.setLane_punch (s : State) (l : LaneId) (x : Lane) : (s.setLane l x).punch = s.punch := rfl
@[simp] theorem State.setLane_links (s : State) (l : LaneId) (x : Lane) : (s.setLane l x).links = s.links := rfl
@[simp] theorem State.setLane_loop (s : State) (l : LaneId) (x : Lane) : (s.setLane l x).loop = s.loop := rfl
@[simp] theorem State.setLane_journal (s : State) (l : LaneId) (x : Lane) : (s.setLane l x).journal = s.journal := rfl
@[simp] theorem State.setLane_lines (s : State) (l : LaneId) (x : Lane) : (s.setLane l x).lines = s.lines := rfl
@[simp] theorem State.setLane_ports (s : State) (l : LaneId) (x : Lane) : (s.setLane l x).ports = s.ports := rfl
@[simp] theorem State.setLane_pending (s : State) (l : LaneId) (x : Lane) : (s.setLane l x).pending = s.pending := rfl

/-! ### setPunch -/

@[simp] theorem State.setPunch_resetHeld (s : State) (l : LaneId) (x : PunchLane) : (s.setPunch l x).resetHeld = s.resetHeld := rfl
@[simp] theorem State.setPunch_straps (s : State) (l : LaneId) (x : PunchLane) : (s.setPunch l x).straps = s.straps := rfl
@[simp] theorem State.setPunch_params (s : State) (l : LaneId) (x : PunchLane) : (s.setPunch l x).params = s.params := rfl
@[simp] theorem State.setPunch_table (s : State) (l : LaneId) (x : PunchLane) : (s.setPunch l x).table = s.table := rfl
@[simp] theorem State.setPunch_grant (s : State) (l : LaneId) (x : PunchLane) : (s.setPunch l x).grant = s.grant := rfl
@[simp] theorem State.setPunch_tracker (s : State) (l : LaneId) (x : PunchLane) : (s.setPunch l x).tracker = s.tracker := rfl
@[simp] theorem State.setPunch_offered (s : State) (l : LaneId) (x : PunchLane) : (s.setPunch l x).offered = s.offered := rfl
@[simp] theorem State.setPunch_lanes (s : State) (l : LaneId) (x : PunchLane) : (s.setPunch l x).lanes = s.lanes := rfl
@[simp] theorem State.setPunch_handoffs (s : State) (l : LaneId) (x : PunchLane) : (s.setPunch l x).handoffs = s.handoffs := rfl
@[simp] theorem State.setPunch_marks (s : State) (l : LaneId) (x : PunchLane) : (s.setPunch l x).marks = s.marks := rfl
@[simp] theorem State.setPunch_links (s : State) (l : LaneId) (x : PunchLane) : (s.setPunch l x).links = s.links := rfl
@[simp] theorem State.setPunch_loop (s : State) (l : LaneId) (x : PunchLane) : (s.setPunch l x).loop = s.loop := rfl
@[simp] theorem State.setPunch_journal (s : State) (l : LaneId) (x : PunchLane) : (s.setPunch l x).journal = s.journal := rfl
@[simp] theorem State.setPunch_lines (s : State) (l : LaneId) (x : PunchLane) : (s.setPunch l x).lines = s.lines := rfl
@[simp] theorem State.setPunch_ports (s : State) (l : LaneId) (x : PunchLane) : (s.setPunch l x).ports = s.ports := rfl
@[simp] theorem State.setPunch_pending (s : State) (l : LaneId) (x : PunchLane) : (s.setPunch l x).pending = s.pending := rfl

/-! ### setPort -/

@[simp] theorem State.setPort_resetHeld (s : State) (p : PortId) (x : Port) : (s.setPort p x).resetHeld = s.resetHeld := rfl
@[simp] theorem State.setPort_straps (s : State) (p : PortId) (x : Port) : (s.setPort p x).straps = s.straps := rfl
@[simp] theorem State.setPort_params (s : State) (p : PortId) (x : Port) : (s.setPort p x).params = s.params := rfl
@[simp] theorem State.setPort_table (s : State) (p : PortId) (x : Port) : (s.setPort p x).table = s.table := rfl
@[simp] theorem State.setPort_grant (s : State) (p : PortId) (x : Port) : (s.setPort p x).grant = s.grant := rfl
@[simp] theorem State.setPort_tracker (s : State) (p : PortId) (x : Port) : (s.setPort p x).tracker = s.tracker := rfl
@[simp] theorem State.setPort_offered (s : State) (p : PortId) (x : Port) : (s.setPort p x).offered = s.offered := rfl
@[simp] theorem State.setPort_lanes (s : State) (p : PortId) (x : Port) : (s.setPort p x).lanes = s.lanes := rfl
@[simp] theorem State.setPort_handoffs (s : State) (p : PortId) (x : Port) : (s.setPort p x).handoffs = s.handoffs := rfl
@[simp] theorem State.setPort_marks (s : State) (p : PortId) (x : Port) : (s.setPort p x).marks = s.marks := rfl
@[simp] theorem State.setPort_punch (s : State) (p : PortId) (x : Port) : (s.setPort p x).punch = s.punch := rfl
@[simp] theorem State.setPort_links (s : State) (p : PortId) (x : Port) : (s.setPort p x).links = s.links := rfl
@[simp] theorem State.setPort_loop (s : State) (p : PortId) (x : Port) : (s.setPort p x).loop = s.loop := rfl
@[simp] theorem State.setPort_journal (s : State) (p : PortId) (x : Port) : (s.setPort p x).journal = s.journal := rfl
@[simp] theorem State.setPort_lines (s : State) (p : PortId) (x : Port) : (s.setPort p x).lines = s.lines := rfl
@[simp] theorem State.setPort_pending (s : State) (p : PortId) (x : Port) : (s.setPort p x).pending = s.pending := rfl

/-! ### setLink -/

@[simp] theorem State.setLink_resetHeld (s : State) (p : PortId) (x : LinkState) : (s.setLink p x).resetHeld = s.resetHeld := rfl
@[simp] theorem State.setLink_straps (s : State) (p : PortId) (x : LinkState) : (s.setLink p x).straps = s.straps := rfl
@[simp] theorem State.setLink_params (s : State) (p : PortId) (x : LinkState) : (s.setLink p x).params = s.params := rfl
@[simp] theorem State.setLink_table (s : State) (p : PortId) (x : LinkState) : (s.setLink p x).table = s.table := rfl
@[simp] theorem State.setLink_grant (s : State) (p : PortId) (x : LinkState) : (s.setLink p x).grant = s.grant := rfl
@[simp] theorem State.setLink_tracker (s : State) (p : PortId) (x : LinkState) : (s.setLink p x).tracker = s.tracker := rfl
@[simp] theorem State.setLink_offered (s : State) (p : PortId) (x : LinkState) : (s.setLink p x).offered = s.offered := rfl
@[simp] theorem State.setLink_lanes (s : State) (p : PortId) (x : LinkState) : (s.setLink p x).lanes = s.lanes := rfl
@[simp] theorem State.setLink_handoffs (s : State) (p : PortId) (x : LinkState) : (s.setLink p x).handoffs = s.handoffs := rfl
@[simp] theorem State.setLink_marks (s : State) (p : PortId) (x : LinkState) : (s.setLink p x).marks = s.marks := rfl
@[simp] theorem State.setLink_punch (s : State) (p : PortId) (x : LinkState) : (s.setLink p x).punch = s.punch := rfl
@[simp] theorem State.setLink_loop (s : State) (p : PortId) (x : LinkState) : (s.setLink p x).loop = s.loop := rfl
@[simp] theorem State.setLink_journal (s : State) (p : PortId) (x : LinkState) : (s.setLink p x).journal = s.journal := rfl
@[simp] theorem State.setLink_lines (s : State) (p : PortId) (x : LinkState) : (s.setLink p x).lines = s.lines := rfl
@[simp] theorem State.setLink_ports (s : State) (p : PortId) (x : LinkState) : (s.setLink p x).ports = s.ports := rfl
@[simp] theorem State.setLink_pending (s : State) (p : PortId) (x : LinkState) : (s.setLink p x).pending = s.pending := rfl

/-! ### setGroup -/

@[simp] theorem State.setGroup_resetHeld (s : State) (g : GroupId) (x : Group) : (s.setGroup g x).resetHeld = s.resetHeld := rfl
@[simp] theorem State.setGroup_straps (s : State) (g : GroupId) (x : Group) : (s.setGroup g x).straps = s.straps := rfl
@[simp] theorem State.setGroup_params (s : State) (g : GroupId) (x : Group) : (s.setGroup g x).params = s.params := rfl
@[simp] theorem State.setGroup_table (s : State) (g : GroupId) (x : Group) : (s.setGroup g x).table = s.table := rfl
@[simp] theorem State.setGroup_grant (s : State) (g : GroupId) (x : Group) : (s.setGroup g x).grant = s.grant := rfl
@[simp] theorem State.setGroup_tracker (s : State) (g : GroupId) (x : Group) : (s.setGroup g x).tracker = s.tracker := rfl
@[simp] theorem State.setGroup_offered (s : State) (g : GroupId) (x : Group) : (s.setGroup g x).offered = s.offered := rfl
@[simp] theorem State.setGroup_lanes (s : State) (g : GroupId) (x : Group) : (s.setGroup g x).lanes = s.lanes := rfl
@[simp] theorem State.setGroup_handoffs (s : State) (g : GroupId) (x : Group) : (s.setGroup g x).handoffs = s.handoffs := rfl
@[simp] theorem State.setGroup_marks (s : State) (g : GroupId) (x : Group) : (s.setGroup g x).marks = s.marks := rfl
@[simp] theorem State.setGroup_punch (s : State) (g : GroupId) (x : Group) : (s.setGroup g x).punch = s.punch := rfl
@[simp] theorem State.setGroup_links (s : State) (g : GroupId) (x : Group) : (s.setGroup g x).links = s.links := rfl
@[simp] theorem State.setGroup_journal (s : State) (g : GroupId) (x : Group) : (s.setGroup g x).journal = s.journal := rfl
@[simp] theorem State.setGroup_lines (s : State) (g : GroupId) (x : Group) : (s.setGroup g x).lines = s.lines := rfl
@[simp] theorem State.setGroup_ports (s : State) (g : GroupId) (x : Group) : (s.setGroup g x).ports = s.ports := rfl
@[simp] theorem State.setGroup_pending (s : State) (g : GroupId) (x : Group) : (s.setGroup g x).pending = s.pending := rfl

/-! ### setMarkLane -/

@[simp] theorem State.setMarkLane_resetHeld (s : State) (l : LaneId) (x : MarkLane) : (s.setMarkLane l x).resetHeld = s.resetHeld := rfl
@[simp] theorem State.setMarkLane_straps (s : State) (l : LaneId) (x : MarkLane) : (s.setMarkLane l x).straps = s.straps := rfl
@[simp] theorem State.setMarkLane_params (s : State) (l : LaneId) (x : MarkLane) : (s.setMarkLane l x).params = s.params := rfl
@[simp] theorem State.setMarkLane_table (s : State) (l : LaneId) (x : MarkLane) : (s.setMarkLane l x).table = s.table := rfl
@[simp] theorem State.setMarkLane_grant (s : State) (l : LaneId) (x : MarkLane) : (s.setMarkLane l x).grant = s.grant := rfl
@[simp] theorem State.setMarkLane_tracker (s : State) (l : LaneId) (x : MarkLane) : (s.setMarkLane l x).tracker = s.tracker := rfl
@[simp] theorem State.setMarkLane_offered (s : State) (l : LaneId) (x : MarkLane) : (s.setMarkLane l x).offered = s.offered := rfl
@[simp] theorem State.setMarkLane_lanes (s : State) (l : LaneId) (x : MarkLane) : (s.setMarkLane l x).lanes = s.lanes := rfl
@[simp] theorem State.setMarkLane_handoffs (s : State) (l : LaneId) (x : MarkLane) : (s.setMarkLane l x).handoffs = s.handoffs := rfl
@[simp] theorem State.setMarkLane_punch (s : State) (l : LaneId) (x : MarkLane) : (s.setMarkLane l x).punch = s.punch := rfl
@[simp] theorem State.setMarkLane_links (s : State) (l : LaneId) (x : MarkLane) : (s.setMarkLane l x).links = s.links := rfl
@[simp] theorem State.setMarkLane_loop (s : State) (l : LaneId) (x : MarkLane) : (s.setMarkLane l x).loop = s.loop := rfl
@[simp] theorem State.setMarkLane_journal (s : State) (l : LaneId) (x : MarkLane) : (s.setMarkLane l x).journal = s.journal := rfl
@[simp] theorem State.setMarkLane_lines (s : State) (l : LaneId) (x : MarkLane) : (s.setMarkLane l x).lines = s.lines := rfl
@[simp] theorem State.setMarkLane_ports (s : State) (l : LaneId) (x : MarkLane) : (s.setMarkLane l x).ports = s.ports := rfl
@[simp] theorem State.setMarkLane_pending (s : State) (l : LaneId) (x : MarkLane) : (s.setMarkLane l x).pending = s.pending := rfl

/-! ### setChannel -/

@[simp] theorem State.setChannel_resetHeld (s : State) (c : ChannelId) (x : Channel) : (s.setChannel c x).resetHeld = s.resetHeld := rfl
@[simp] theorem State.setChannel_straps (s : State) (c : ChannelId) (x : Channel) : (s.setChannel c x).straps = s.straps := rfl
@[simp] theorem State.setChannel_params (s : State) (c : ChannelId) (x : Channel) : (s.setChannel c x).params = s.params := rfl
@[simp] theorem State.setChannel_table (s : State) (c : ChannelId) (x : Channel) : (s.setChannel c x).table = s.table := rfl
@[simp] theorem State.setChannel_grant (s : State) (c : ChannelId) (x : Channel) : (s.setChannel c x).grant = s.grant := rfl
@[simp] theorem State.setChannel_tracker (s : State) (c : ChannelId) (x : Channel) : (s.setChannel c x).tracker = s.tracker := rfl
@[simp] theorem State.setChannel_offered (s : State) (c : ChannelId) (x : Channel) : (s.setChannel c x).offered = s.offered := rfl
@[simp] theorem State.setChannel_lanes (s : State) (c : ChannelId) (x : Channel) : (s.setChannel c x).lanes = s.lanes := rfl
@[simp] theorem State.setChannel_handoffs (s : State) (c : ChannelId) (x : Channel) : (s.setChannel c x).handoffs = s.handoffs := rfl
@[simp] theorem State.setChannel_punch (s : State) (c : ChannelId) (x : Channel) : (s.setChannel c x).punch = s.punch := rfl
@[simp] theorem State.setChannel_links (s : State) (c : ChannelId) (x : Channel) : (s.setChannel c x).links = s.links := rfl
@[simp] theorem State.setChannel_loop (s : State) (c : ChannelId) (x : Channel) : (s.setChannel c x).loop = s.loop := rfl
@[simp] theorem State.setChannel_journal (s : State) (c : ChannelId) (x : Channel) : (s.setChannel c x).journal = s.journal := rfl
@[simp] theorem State.setChannel_lines (s : State) (c : ChannelId) (x : Channel) : (s.setChannel c x).lines = s.lines := rfl
@[simp] theorem State.setChannel_ports (s : State) (c : ChannelId) (x : Channel) : (s.setChannel c x).ports = s.ports := rfl
@[simp] theorem State.setChannel_pending (s : State) (c : ChannelId) (x : Channel) : (s.setChannel c x).pending = s.pending := rfl

/-! ### setInput -/

@[simp] theorem State.setInput_resetHeld (s : State) (i : LineId) (x : InputLine) : (s.setInput i x).resetHeld = s.resetHeld := rfl
@[simp] theorem State.setInput_straps (s : State) (i : LineId) (x : InputLine) : (s.setInput i x).straps = s.straps := rfl
@[simp] theorem State.setInput_params (s : State) (i : LineId) (x : InputLine) : (s.setInput i x).params = s.params := rfl
@[simp] theorem State.setInput_table (s : State) (i : LineId) (x : InputLine) : (s.setInput i x).table = s.table := rfl
@[simp] theorem State.setInput_grant (s : State) (i : LineId) (x : InputLine) : (s.setInput i x).grant = s.grant := rfl
@[simp] theorem State.setInput_tracker (s : State) (i : LineId) (x : InputLine) : (s.setInput i x).tracker = s.tracker := rfl
@[simp] theorem State.setInput_offered (s : State) (i : LineId) (x : InputLine) : (s.setInput i x).offered = s.offered := rfl
@[simp] theorem State.setInput_lanes (s : State) (i : LineId) (x : InputLine) : (s.setInput i x).lanes = s.lanes := rfl
@[simp] theorem State.setInput_handoffs (s : State) (i : LineId) (x : InputLine) : (s.setInput i x).handoffs = s.handoffs := rfl
@[simp] theorem State.setInput_marks (s : State) (i : LineId) (x : InputLine) : (s.setInput i x).marks = s.marks := rfl
@[simp] theorem State.setInput_punch (s : State) (i : LineId) (x : InputLine) : (s.setInput i x).punch = s.punch := rfl
@[simp] theorem State.setInput_links (s : State) (i : LineId) (x : InputLine) : (s.setInput i x).links = s.links := rfl
@[simp] theorem State.setInput_loop (s : State) (i : LineId) (x : InputLine) : (s.setInput i x).loop = s.loop := rfl
@[simp] theorem State.setInput_journal (s : State) (i : LineId) (x : InputLine) : (s.setInput i x).journal = s.journal := rfl
@[simp] theorem State.setInput_ports (s : State) (i : LineId) (x : InputLine) : (s.setInput i x).ports = s.ports := rfl
@[simp] theorem State.setInput_pending (s : State) (i : LineId) (x : InputLine) : (s.setInput i x).pending = s.pending := rfl

/-! ### setOutput -/

@[simp] theorem State.setOutput_resetHeld (s : State) (o : LineId) (x : OutputLine) : (s.setOutput o x).resetHeld = s.resetHeld := rfl
@[simp] theorem State.setOutput_straps (s : State) (o : LineId) (x : OutputLine) : (s.setOutput o x).straps = s.straps := rfl
@[simp] theorem State.setOutput_params (s : State) (o : LineId) (x : OutputLine) : (s.setOutput o x).params = s.params := rfl
@[simp] theorem State.setOutput_table (s : State) (o : LineId) (x : OutputLine) : (s.setOutput o x).table = s.table := rfl
@[simp] theorem State.setOutput_grant (s : State) (o : LineId) (x : OutputLine) : (s.setOutput o x).grant = s.grant := rfl
@[simp] theorem State.setOutput_tracker (s : State) (o : LineId) (x : OutputLine) : (s.setOutput o x).tracker = s.tracker := rfl
@[simp] theorem State.setOutput_offered (s : State) (o : LineId) (x : OutputLine) : (s.setOutput o x).offered = s.offered := rfl
@[simp] theorem State.setOutput_lanes (s : State) (o : LineId) (x : OutputLine) : (s.setOutput o x).lanes = s.lanes := rfl
@[simp] theorem State.setOutput_handoffs (s : State) (o : LineId) (x : OutputLine) : (s.setOutput o x).handoffs = s.handoffs := rfl
@[simp] theorem State.setOutput_marks (s : State) (o : LineId) (x : OutputLine) : (s.setOutput o x).marks = s.marks := rfl
@[simp] theorem State.setOutput_punch (s : State) (o : LineId) (x : OutputLine) : (s.setOutput o x).punch = s.punch := rfl
@[simp] theorem State.setOutput_links (s : State) (o : LineId) (x : OutputLine) : (s.setOutput o x).links = s.links := rfl
@[simp] theorem State.setOutput_loop (s : State) (o : LineId) (x : OutputLine) : (s.setOutput o x).loop = s.loop := rfl
@[simp] theorem State.setOutput_journal (s : State) (o : LineId) (x : OutputLine) : (s.setOutput o x).journal = s.journal := rfl
@[simp] theorem State.setOutput_ports (s : State) (o : LineId) (x : OutputLine) : (s.setOutput o x).ports = s.ports := rfl
@[simp] theorem State.setOutput_pending (s : State) (o : LineId) (x : OutputLine) : (s.setOutput o x).pending = s.pending := rfl

/-! ### setRecords -/

@[simp] theorem State.setRecords_resetHeld (s : State) (rs : List CueRecord) : (s.setRecords rs).resetHeld = s.resetHeld := rfl
@[simp] theorem State.setRecords_straps (s : State) (rs : List CueRecord) : (s.setRecords rs).straps = s.straps := rfl
@[simp] theorem State.setRecords_params (s : State) (rs : List CueRecord) : (s.setRecords rs).params = s.params := rfl
@[simp] theorem State.setRecords_grant (s : State) (rs : List CueRecord) : (s.setRecords rs).grant = s.grant := rfl
@[simp] theorem State.setRecords_tracker (s : State) (rs : List CueRecord) : (s.setRecords rs).tracker = s.tracker := rfl
@[simp] theorem State.setRecords_offered (s : State) (rs : List CueRecord) : (s.setRecords rs).offered = s.offered := rfl
@[simp] theorem State.setRecords_lanes (s : State) (rs : List CueRecord) : (s.setRecords rs).lanes = s.lanes := rfl
@[simp] theorem State.setRecords_handoffs (s : State) (rs : List CueRecord) : (s.setRecords rs).handoffs = s.handoffs := rfl
@[simp] theorem State.setRecords_marks (s : State) (rs : List CueRecord) : (s.setRecords rs).marks = s.marks := rfl
@[simp] theorem State.setRecords_punch (s : State) (rs : List CueRecord) : (s.setRecords rs).punch = s.punch := rfl
@[simp] theorem State.setRecords_links (s : State) (rs : List CueRecord) : (s.setRecords rs).links = s.links := rfl
@[simp] theorem State.setRecords_loop (s : State) (rs : List CueRecord) : (s.setRecords rs).loop = s.loop := rfl
@[simp] theorem State.setRecords_journal (s : State) (rs : List CueRecord) : (s.setRecords rs).journal = s.journal := rfl
@[simp] theorem State.setRecords_lines (s : State) (rs : List CueRecord) : (s.setRecords rs).lines = s.lines := rfl
@[simp] theorem State.setRecords_ports (s : State) (rs : List CueRecord) : (s.setRecords rs).ports = s.ports := rfl
@[simp] theorem State.setRecords_pending (s : State) (rs : List CueRecord) : (s.setRecords rs).pending = s.pending := rfl

/-! ### setEntries -/

@[simp] theorem State.setEntries_resetHeld (s : State) (es : List JournalEntry) : (s.setEntries es).resetHeld = s.resetHeld := rfl
@[simp] theorem State.setEntries_straps (s : State) (es : List JournalEntry) : (s.setEntries es).straps = s.straps := rfl
@[simp] theorem State.setEntries_params (s : State) (es : List JournalEntry) : (s.setEntries es).params = s.params := rfl
@[simp] theorem State.setEntries_table (s : State) (es : List JournalEntry) : (s.setEntries es).table = s.table := rfl
@[simp] theorem State.setEntries_grant (s : State) (es : List JournalEntry) : (s.setEntries es).grant = s.grant := rfl
@[simp] theorem State.setEntries_tracker (s : State) (es : List JournalEntry) : (s.setEntries es).tracker = s.tracker := rfl
@[simp] theorem State.setEntries_offered (s : State) (es : List JournalEntry) : (s.setEntries es).offered = s.offered := rfl
@[simp] theorem State.setEntries_lanes (s : State) (es : List JournalEntry) : (s.setEntries es).lanes = s.lanes := rfl
@[simp] theorem State.setEntries_handoffs (s : State) (es : List JournalEntry) : (s.setEntries es).handoffs = s.handoffs := rfl
@[simp] theorem State.setEntries_marks (s : State) (es : List JournalEntry) : (s.setEntries es).marks = s.marks := rfl
@[simp] theorem State.setEntries_punch (s : State) (es : List JournalEntry) : (s.setEntries es).punch = s.punch := rfl
@[simp] theorem State.setEntries_links (s : State) (es : List JournalEntry) : (s.setEntries es).links = s.links := rfl
@[simp] theorem State.setEntries_loop (s : State) (es : List JournalEntry) : (s.setEntries es).loop = s.loop := rfl
@[simp] theorem State.setEntries_lines (s : State) (es : List JournalEntry) : (s.setEntries es).lines = s.lines := rfl
@[simp] theorem State.setEntries_ports (s : State) (es : List JournalEntry) : (s.setEntries es).ports = s.ports := rfl
@[simp] theorem State.setEntries_pending (s : State) (es : List JournalEntry) : (s.setEntries es).pending = s.pending := rfl

/-! ### setReceiver -/

@[simp] theorem State.setReceiver_resetHeld (s : State) (r : Option (List Byte)) : (s.setReceiver r).resetHeld = s.resetHeld := rfl
@[simp] theorem State.setReceiver_straps (s : State) (r : Option (List Byte)) : (s.setReceiver r).straps = s.straps := rfl
@[simp] theorem State.setReceiver_params (s : State) (r : Option (List Byte)) : (s.setReceiver r).params = s.params := rfl
@[simp] theorem State.setReceiver_table (s : State) (r : Option (List Byte)) : (s.setReceiver r).table = s.table := rfl
@[simp] theorem State.setReceiver_grant (s : State) (r : Option (List Byte)) : (s.setReceiver r).grant = s.grant := rfl
@[simp] theorem State.setReceiver_offered (s : State) (r : Option (List Byte)) : (s.setReceiver r).offered = s.offered := rfl
@[simp] theorem State.setReceiver_lanes (s : State) (r : Option (List Byte)) : (s.setReceiver r).lanes = s.lanes := rfl
@[simp] theorem State.setReceiver_handoffs (s : State) (r : Option (List Byte)) : (s.setReceiver r).handoffs = s.handoffs := rfl
@[simp] theorem State.setReceiver_marks (s : State) (r : Option (List Byte)) : (s.setReceiver r).marks = s.marks := rfl
@[simp] theorem State.setReceiver_punch (s : State) (r : Option (List Byte)) : (s.setReceiver r).punch = s.punch := rfl
@[simp] theorem State.setReceiver_links (s : State) (r : Option (List Byte)) : (s.setReceiver r).links = s.links := rfl
@[simp] theorem State.setReceiver_loop (s : State) (r : Option (List Byte)) : (s.setReceiver r).loop = s.loop := rfl
@[simp] theorem State.setReceiver_journal (s : State) (r : Option (List Byte)) : (s.setReceiver r).journal = s.journal := rfl
@[simp] theorem State.setReceiver_lines (s : State) (r : Option (List Byte)) : (s.setReceiver r).lines = s.lines := rfl
@[simp] theorem State.setReceiver_ports (s : State) (r : Option (List Byte)) : (s.setReceiver r).ports = s.ports := rfl
@[simp] theorem State.setReceiver_pending (s : State) (r : Option (List Byte)) : (s.setReceiver r).pending = s.pending := rfl

/-! ### mapPorts -/

@[simp] theorem State.mapPorts_resetHeld (s : State) (f : PortId → Port → Port) : (s.mapPorts f).resetHeld = s.resetHeld := rfl
@[simp] theorem State.mapPorts_straps (s : State) (f : PortId → Port → Port) : (s.mapPorts f).straps = s.straps := rfl
@[simp] theorem State.mapPorts_params (s : State) (f : PortId → Port → Port) : (s.mapPorts f).params = s.params := rfl
@[simp] theorem State.mapPorts_table (s : State) (f : PortId → Port → Port) : (s.mapPorts f).table = s.table := rfl
@[simp] theorem State.mapPorts_grant (s : State) (f : PortId → Port → Port) : (s.mapPorts f).grant = s.grant := rfl
@[simp] theorem State.mapPorts_tracker (s : State) (f : PortId → Port → Port) : (s.mapPorts f).tracker = s.tracker := rfl
@[simp] theorem State.mapPorts_offered (s : State) (f : PortId → Port → Port) : (s.mapPorts f).offered = s.offered := rfl
@[simp] theorem State.mapPorts_lanes (s : State) (f : PortId → Port → Port) : (s.mapPorts f).lanes = s.lanes := rfl
@[simp] theorem State.mapPorts_handoffs (s : State) (f : PortId → Port → Port) : (s.mapPorts f).handoffs = s.handoffs := rfl
@[simp] theorem State.mapPorts_marks (s : State) (f : PortId → Port → Port) : (s.mapPorts f).marks = s.marks := rfl
@[simp] theorem State.mapPorts_punch (s : State) (f : PortId → Port → Port) : (s.mapPorts f).punch = s.punch := rfl
@[simp] theorem State.mapPorts_links (s : State) (f : PortId → Port → Port) : (s.mapPorts f).links = s.links := rfl
@[simp] theorem State.mapPorts_loop (s : State) (f : PortId → Port → Port) : (s.mapPorts f).loop = s.loop := rfl
@[simp] theorem State.mapPorts_journal (s : State) (f : PortId → Port → Port) : (s.mapPorts f).journal = s.journal := rfl
@[simp] theorem State.mapPorts_lines (s : State) (f : PortId → Port → Port) : (s.mapPorts f).lines = s.lines := rfl
@[simp] theorem State.mapPorts_pending (s : State) (f : PortId → Port → Port) : (s.mapPorts f).pending = s.pending := rfl

/-! ### handOff -/

@[simp] theorem State.handOff_resetHeld (s : State) (h : Handoff) : (s.handOff h).resetHeld = s.resetHeld := rfl
@[simp] theorem State.handOff_straps (s : State) (h : Handoff) : (s.handOff h).straps = s.straps := rfl
@[simp] theorem State.handOff_params (s : State) (h : Handoff) : (s.handOff h).params = s.params := rfl
@[simp] theorem State.handOff_table (s : State) (h : Handoff) : (s.handOff h).table = s.table := rfl
@[simp] theorem State.handOff_grant (s : State) (h : Handoff) : (s.handOff h).grant = s.grant := rfl
@[simp] theorem State.handOff_tracker (s : State) (h : Handoff) : (s.handOff h).tracker = s.tracker := rfl
@[simp] theorem State.handOff_offered (s : State) (h : Handoff) : (s.handOff h).offered = s.offered := rfl
@[simp] theorem State.handOff_lanes (s : State) (h : Handoff) : (s.handOff h).lanes = s.lanes := rfl
@[simp] theorem State.handOff_marks (s : State) (h : Handoff) : (s.handOff h).marks = s.marks := rfl
@[simp] theorem State.handOff_punch (s : State) (h : Handoff) : (s.handOff h).punch = s.punch := rfl
@[simp] theorem State.handOff_links (s : State) (h : Handoff) : (s.handOff h).links = s.links := rfl
@[simp] theorem State.handOff_loop (s : State) (h : Handoff) : (s.handOff h).loop = s.loop := rfl
@[simp] theorem State.handOff_journal (s : State) (h : Handoff) : (s.handOff h).journal = s.journal := rfl
@[simp] theorem State.handOff_lines (s : State) (h : Handoff) : (s.handOff h).lines = s.lines := rfl
@[simp] theorem State.handOff_ports (s : State) (h : Handoff) : (s.handOff h).ports = s.ports := rfl
@[simp] theorem State.handOff_pending (s : State) (h : Handoff) : (s.handOff h).pending = s.pending := rfl

/-! ### Reading back -/

@[simp] theorem State.lane_setLane_same (s : State) (i : LaneId) (x : Lane) : (s.setLane i x).lane i = x := by
  simp [State.lane, State.setLane]
theorem State.lane_setLane_ne (s : State) (i j : LaneId) (x : Lane) (h : i ≠ j) : (s.setLane i x).lane j = s.lane j := by
  have h' : (i : Nat) ≠ j := fun e => h (Fin.ext e)
  simp [State.lane, State.setLane, h']
theorem State.lane_setLane (s : State) (i j : LaneId) (x : Lane) :
    (s.setLane i x).lane j = if i = j then x else s.lane j := by
  by_cases h : i = j
  · subst h; simp
  · simp [State.lane_setLane_ne _ _ _ _ h, h]
@[simp] theorem State.setLane_twice (s : State) (i : LaneId) (x y : Lane) : (s.setLane i x).setLane i y = s.setLane i y := by
  simp [State.setLane]
@[simp] theorem State.punchOf_setPunch_same (s : State) (i : LaneId) (x : PunchLane) : (s.setPunch i x).punchOf i = x := by
  simp [State.punchOf, State.setPunch]
theorem State.punchOf_setPunch_ne (s : State) (i j : LaneId) (x : PunchLane) (h : i ≠ j) : (s.setPunch i x).punchOf j = s.punchOf j := by
  have h' : (i : Nat) ≠ j := fun e => h (Fin.ext e)
  simp [State.punchOf, State.setPunch, h']
theorem State.punchOf_setPunch (s : State) (i j : LaneId) (x : PunchLane) :
    (s.setPunch i x).punchOf j = if i = j then x else s.punchOf j := by
  by_cases h : i = j
  · subst h; simp
  · simp [State.punchOf_setPunch_ne _ _ _ _ h, h]
@[simp] theorem State.setPunch_twice (s : State) (i : LaneId) (x y : PunchLane) : (s.setPunch i x).setPunch i y = s.setPunch i y := by
  simp [State.setPunch]
@[simp] theorem State.port_setPort_same (s : State) (i : PortId) (x : Port) : (s.setPort i x).port i = x := by
  simp [State.port, State.setPort]
theorem State.port_setPort_ne (s : State) (i j : PortId) (x : Port) (h : i ≠ j) : (s.setPort i x).port j = s.port j := by
  have h' : (i : Nat) ≠ j := fun e => h (Fin.ext e)
  simp [State.port, State.setPort, h']
theorem State.port_setPort (s : State) (i j : PortId) (x : Port) :
    (s.setPort i x).port j = if i = j then x else s.port j := by
  by_cases h : i = j
  · subst h; simp
  · simp [State.port_setPort_ne _ _ _ _ h, h]
@[simp] theorem State.setPort_twice (s : State) (i : PortId) (x y : Port) : (s.setPort i x).setPort i y = s.setPort i y := by
  simp [State.setPort]
@[simp] theorem State.link_setLink_same (s : State) (i : PortId) (x : LinkState) : (s.setLink i x).link i = x := by
  simp [State.link, State.setLink]
theorem State.link_setLink_ne (s : State) (i j : PortId) (x : LinkState) (h : i ≠ j) : (s.setLink i x).link j = s.link j := by
  have h' : (i : Nat) ≠ j := fun e => h (Fin.ext e)
  simp [State.link, State.setLink, h']
theorem State.link_setLink (s : State) (i j : PortId) (x : LinkState) :
    (s.setLink i x).link j = if i = j then x else s.link j := by
  by_cases h : i = j
  · subst h; simp
  · simp [State.link_setLink_ne _ _ _ _ h, h]
@[simp] theorem State.setLink_twice (s : State) (i : PortId) (x y : LinkState) : (s.setLink i x).setLink i y = s.setLink i y := by
  simp [State.setLink]
@[simp] theorem State.group_setGroup_same (s : State) (i : GroupId) (x : Group) : (s.setGroup i x).group i = x := by
  simp [State.group, State.setGroup]
theorem State.group_setGroup_ne (s : State) (i j : GroupId) (x : Group) (h : i ≠ j) : (s.setGroup i x).group j = s.group j := by
  have h' : (i : Nat) ≠ j := fun e => h (Fin.ext e)
  simp [State.group, State.setGroup, h']
theorem State.group_setGroup (s : State) (i j : GroupId) (x : Group) :
    (s.setGroup i x).group j = if i = j then x else s.group j := by
  by_cases h : i = j
  · subst h; simp
  · simp [State.group_setGroup_ne _ _ _ _ h, h]
@[simp] theorem State.setGroup_twice (s : State) (i : GroupId) (x y : Group) : (s.setGroup i x).setGroup i y = s.setGroup i y := by
  simp [State.setGroup]
@[simp] theorem State.markLane_setMarkLane_same (s : State) (i : LaneId) (x : MarkLane) : (s.setMarkLane i x).markLane i = x := by
  simp [State.markLane, State.setMarkLane]
theorem State.markLane_setMarkLane_ne (s : State) (i j : LaneId) (x : MarkLane) (h : i ≠ j) : (s.setMarkLane i x).markLane j = s.markLane j := by
  have h' : (i : Nat) ≠ j := fun e => h (Fin.ext e)
  simp [State.markLane, State.setMarkLane, h']
theorem State.markLane_setMarkLane (s : State) (i j : LaneId) (x : MarkLane) :
    (s.setMarkLane i x).markLane j = if i = j then x else s.markLane j := by
  by_cases h : i = j
  · subst h; simp
  · simp [State.markLane_setMarkLane_ne _ _ _ _ h, h]
@[simp] theorem State.setMarkLane_twice (s : State) (i : LaneId) (x y : MarkLane) : (s.setMarkLane i x).setMarkLane i y = s.setMarkLane i y := by
  simp [State.setMarkLane]
@[simp] theorem State.channel_setChannel_same (s : State) (i : ChannelId) (x : Channel) : (s.setChannel i x).channel i = x := by
  simp [State.channel, State.setChannel]
theorem State.channel_setChannel_ne (s : State) (i j : ChannelId) (x : Channel) (h : i ≠ j) : (s.setChannel i x).channel j = s.channel j := by
  have h' : (i : Nat) ≠ j := fun e => h (Fin.ext e)
  simp [State.channel, State.setChannel, h']
theorem State.channel_setChannel (s : State) (i j : ChannelId) (x : Channel) :
    (s.setChannel i x).channel j = if i = j then x else s.channel j := by
  by_cases h : i = j
  · subst h; simp
  · simp [State.channel_setChannel_ne _ _ _ _ h, h]
@[simp] theorem State.setChannel_twice (s : State) (i : ChannelId) (x y : Channel) : (s.setChannel i x).setChannel i y = s.setChannel i y := by
  simp [State.setChannel]
@[simp] theorem State.input_setInput_same (s : State) (i : LineId) (x : InputLine) : (s.setInput i x).input i = x := by
  simp [State.input, State.setInput]
theorem State.input_setInput_ne (s : State) (i j : LineId) (x : InputLine) (h : i ≠ j) : (s.setInput i x).input j = s.input j := by
  have h' : (i : Nat) ≠ j := fun e => h (Fin.ext e)
  simp [State.input, State.setInput, h']
theorem State.input_setInput (s : State) (i j : LineId) (x : InputLine) :
    (s.setInput i x).input j = if i = j then x else s.input j := by
  by_cases h : i = j
  · subst h; simp
  · simp [State.input_setInput_ne _ _ _ _ h, h]
@[simp] theorem State.setInput_twice (s : State) (i : LineId) (x y : InputLine) : (s.setInput i x).setInput i y = s.setInput i y := by
  simp [State.setInput]
@[simp] theorem State.output_setOutput_same (s : State) (i : LineId) (x : OutputLine) : (s.setOutput i x).output i = x := by
  simp [State.output, State.setOutput]
theorem State.output_setOutput_ne (s : State) (i j : LineId) (x : OutputLine) (h : i ≠ j) : (s.setOutput i x).output j = s.output j := by
  have h' : (i : Nat) ≠ j := fun e => h (Fin.ext e)
  simp [State.output, State.setOutput, h']
theorem State.output_setOutput (s : State) (i j : LineId) (x : OutputLine) :
    (s.setOutput i x).output j = if i = j then x else s.output j := by
  by_cases h : i = j
  · subst h; simp
  · simp [State.output_setOutput_ne _ _ _ _ h, h]
@[simp] theorem State.setOutput_twice (s : State) (i : LineId) (x y : OutputLine) : (s.setOutput i x).setOutput i y = s.setOutput i y := by
  simp [State.setOutput]

/-! ### Reading one part past an update of another -/

@[simp] theorem State.punchOf_setLane_other (s : State) (l : LaneId) (x : Lane) (k : LaneId) : (s.setLane l x).punchOf k = s.punchOf k := rfl
@[simp] theorem State.port_setLane_other (s : State) (l : LaneId) (x : Lane) (k : PortId) : (s.setLane l x).port k = s.port k := rfl
@[simp] theorem State.link_setLane_other (s : State) (l : LaneId) (x : Lane) (k : PortId) : (s.setLane l x).link k = s.link k := rfl
@[simp] theorem State.group_setLane_other (s : State) (l : LaneId) (x : Lane) (k : GroupId) : (s.setLane l x).group k = s.group k := rfl
@[simp] theorem State.markLane_setLane_other (s : State) (l : LaneId) (x : Lane) (k : LaneId) : (s.setLane l x).markLane k = s.markLane k := rfl
@[simp] theorem State.channel_setLane_other (s : State) (l : LaneId) (x : Lane) (k : ChannelId) : (s.setLane l x).channel k = s.channel k := rfl
@[simp] theorem State.input_setLane_other (s : State) (l : LaneId) (x : Lane) (k : LineId) : (s.setLane l x).input k = s.input k := rfl
@[simp] theorem State.output_setLane_other (s : State) (l : LaneId) (x : Lane) (k : LineId) : (s.setLane l x).output k = s.output k := rfl
@[simp] theorem State.lane_setPunch_other (s : State) (l : LaneId) (x : PunchLane) (k : LaneId) : (s.setPunch l x).lane k = s.lane k := rfl
@[simp] theorem State.port_setPunch_other (s : State) (l : LaneId) (x : PunchLane) (k : PortId) : (s.setPunch l x).port k = s.port k := rfl
@[simp] theorem State.link_setPunch_other (s : State) (l : LaneId) (x : PunchLane) (k : PortId) : (s.setPunch l x).link k = s.link k := rfl
@[simp] theorem State.group_setPunch_other (s : State) (l : LaneId) (x : PunchLane) (k : GroupId) : (s.setPunch l x).group k = s.group k := rfl
@[simp] theorem State.markLane_setPunch_other (s : State) (l : LaneId) (x : PunchLane) (k : LaneId) : (s.setPunch l x).markLane k = s.markLane k := rfl
@[simp] theorem State.channel_setPunch_other (s : State) (l : LaneId) (x : PunchLane) (k : ChannelId) : (s.setPunch l x).channel k = s.channel k := rfl
@[simp] theorem State.input_setPunch_other (s : State) (l : LaneId) (x : PunchLane) (k : LineId) : (s.setPunch l x).input k = s.input k := rfl
@[simp] theorem State.output_setPunch_other (s : State) (l : LaneId) (x : PunchLane) (k : LineId) : (s.setPunch l x).output k = s.output k := rfl
@[simp] theorem State.lane_setPort_other (s : State) (p : PortId) (x : Port) (k : LaneId) : (s.setPort p x).lane k = s.lane k := rfl
@[simp] theorem State.punchOf_setPort_other (s : State) (p : PortId) (x : Port) (k : LaneId) : (s.setPort p x).punchOf k = s.punchOf k := rfl
@[simp] theorem State.link_setPort_other (s : State) (p : PortId) (x : Port) (k : PortId) : (s.setPort p x).link k = s.link k := rfl
@[simp] theorem State.group_setPort_other (s : State) (p : PortId) (x : Port) (k : GroupId) : (s.setPort p x).group k = s.group k := rfl
@[simp] theorem State.markLane_setPort_other (s : State) (p : PortId) (x : Port) (k : LaneId) : (s.setPort p x).markLane k = s.markLane k := rfl
@[simp] theorem State.channel_setPort_other (s : State) (p : PortId) (x : Port) (k : ChannelId) : (s.setPort p x).channel k = s.channel k := rfl
@[simp] theorem State.input_setPort_other (s : State) (p : PortId) (x : Port) (k : LineId) : (s.setPort p x).input k = s.input k := rfl
@[simp] theorem State.output_setPort_other (s : State) (p : PortId) (x : Port) (k : LineId) : (s.setPort p x).output k = s.output k := rfl
@[simp] theorem State.lane_setLink_other (s : State) (p : PortId) (x : LinkState) (k : LaneId) : (s.setLink p x).lane k = s.lane k := rfl
@[simp] theorem State.punchOf_setLink_other (s : State) (p : PortId) (x : LinkState) (k : LaneId) : (s.setLink p x).punchOf k = s.punchOf k := rfl
@[simp] theorem State.port_setLink_other (s : State) (p : PortId) (x : LinkState) (k : PortId) : (s.setLink p x).port k = s.port k := rfl
@[simp] theorem State.group_setLink_other (s : State) (p : PortId) (x : LinkState) (k : GroupId) : (s.setLink p x).group k = s.group k := rfl
@[simp] theorem State.markLane_setLink_other (s : State) (p : PortId) (x : LinkState) (k : LaneId) : (s.setLink p x).markLane k = s.markLane k := rfl
@[simp] theorem State.channel_setLink_other (s : State) (p : PortId) (x : LinkState) (k : ChannelId) : (s.setLink p x).channel k = s.channel k := rfl
@[simp] theorem State.input_setLink_other (s : State) (p : PortId) (x : LinkState) (k : LineId) : (s.setLink p x).input k = s.input k := rfl
@[simp] theorem State.output_setLink_other (s : State) (p : PortId) (x : LinkState) (k : LineId) : (s.setLink p x).output k = s.output k := rfl
@[simp] theorem State.lane_setGroup_other (s : State) (g : GroupId) (x : Group) (k : LaneId) : (s.setGroup g x).lane k = s.lane k := rfl
@[simp] theorem State.punchOf_setGroup_other (s : State) (g : GroupId) (x : Group) (k : LaneId) : (s.setGroup g x).punchOf k = s.punchOf k := rfl
@[simp] theorem State.port_setGroup_other (s : State) (g : GroupId) (x : Group) (k : PortId) : (s.setGroup g x).port k = s.port k := rfl
@[simp] theorem State.link_setGroup_other (s : State) (g : GroupId) (x : Group) (k : PortId) : (s.setGroup g x).link k = s.link k := rfl
@[simp] theorem State.markLane_setGroup_other (s : State) (g : GroupId) (x : Group) (k : LaneId) : (s.setGroup g x).markLane k = s.markLane k := rfl
@[simp] theorem State.channel_setGroup_other (s : State) (g : GroupId) (x : Group) (k : ChannelId) : (s.setGroup g x).channel k = s.channel k := rfl
@[simp] theorem State.input_setGroup_other (s : State) (g : GroupId) (x : Group) (k : LineId) : (s.setGroup g x).input k = s.input k := rfl
@[simp] theorem State.output_setGroup_other (s : State) (g : GroupId) (x : Group) (k : LineId) : (s.setGroup g x).output k = s.output k := rfl
@[simp] theorem State.lane_setMarkLane_other (s : State) (l : LaneId) (x : MarkLane) (k : LaneId) : (s.setMarkLane l x).lane k = s.lane k := rfl
@[simp] theorem State.punchOf_setMarkLane_other (s : State) (l : LaneId) (x : MarkLane) (k : LaneId) : (s.setMarkLane l x).punchOf k = s.punchOf k := rfl
@[simp] theorem State.port_setMarkLane_other (s : State) (l : LaneId) (x : MarkLane) (k : PortId) : (s.setMarkLane l x).port k = s.port k := rfl
@[simp] theorem State.link_setMarkLane_other (s : State) (l : LaneId) (x : MarkLane) (k : PortId) : (s.setMarkLane l x).link k = s.link k := rfl
@[simp] theorem State.group_setMarkLane_other (s : State) (l : LaneId) (x : MarkLane) (k : GroupId) : (s.setMarkLane l x).group k = s.group k := rfl
@[simp] theorem State.channel_setMarkLane_other (s : State) (l : LaneId) (x : MarkLane) (k : ChannelId) : (s.setMarkLane l x).channel k = s.channel k := rfl
@[simp] theorem State.input_setMarkLane_other (s : State) (l : LaneId) (x : MarkLane) (k : LineId) : (s.setMarkLane l x).input k = s.input k := rfl
@[simp] theorem State.output_setMarkLane_other (s : State) (l : LaneId) (x : MarkLane) (k : LineId) : (s.setMarkLane l x).output k = s.output k := rfl
@[simp] theorem State.lane_setChannel_other (s : State) (c : ChannelId) (x : Channel) (k : LaneId) : (s.setChannel c x).lane k = s.lane k := rfl
@[simp] theorem State.punchOf_setChannel_other (s : State) (c : ChannelId) (x : Channel) (k : LaneId) : (s.setChannel c x).punchOf k = s.punchOf k := rfl
@[simp] theorem State.port_setChannel_other (s : State) (c : ChannelId) (x : Channel) (k : PortId) : (s.setChannel c x).port k = s.port k := rfl
@[simp] theorem State.link_setChannel_other (s : State) (c : ChannelId) (x : Channel) (k : PortId) : (s.setChannel c x).link k = s.link k := rfl
@[simp] theorem State.group_setChannel_other (s : State) (c : ChannelId) (x : Channel) (k : GroupId) : (s.setChannel c x).group k = s.group k := rfl
@[simp] theorem State.markLane_setChannel_other (s : State) (c : ChannelId) (x : Channel) (k : LaneId) : (s.setChannel c x).markLane k = s.markLane k := rfl
@[simp] theorem State.input_setChannel_other (s : State) (c : ChannelId) (x : Channel) (k : LineId) : (s.setChannel c x).input k = s.input k := rfl
@[simp] theorem State.output_setChannel_other (s : State) (c : ChannelId) (x : Channel) (k : LineId) : (s.setChannel c x).output k = s.output k := rfl
@[simp] theorem State.lane_setInput_other (s : State) (i : LineId) (x : InputLine) (k : LaneId) : (s.setInput i x).lane k = s.lane k := rfl
@[simp] theorem State.punchOf_setInput_other (s : State) (i : LineId) (x : InputLine) (k : LaneId) : (s.setInput i x).punchOf k = s.punchOf k := rfl
@[simp] theorem State.port_setInput_other (s : State) (i : LineId) (x : InputLine) (k : PortId) : (s.setInput i x).port k = s.port k := rfl
@[simp] theorem State.link_setInput_other (s : State) (i : LineId) (x : InputLine) (k : PortId) : (s.setInput i x).link k = s.link k := rfl
@[simp] theorem State.group_setInput_other (s : State) (i : LineId) (x : InputLine) (k : GroupId) : (s.setInput i x).group k = s.group k := rfl
@[simp] theorem State.markLane_setInput_other (s : State) (i : LineId) (x : InputLine) (k : LaneId) : (s.setInput i x).markLane k = s.markLane k := rfl
@[simp] theorem State.channel_setInput_other (s : State) (i : LineId) (x : InputLine) (k : ChannelId) : (s.setInput i x).channel k = s.channel k := rfl
@[simp] theorem State.output_setInput_other (s : State) (i : LineId) (x : InputLine) (k : LineId) : (s.setInput i x).output k = s.output k := rfl
@[simp] theorem State.lane_setOutput_other (s : State) (o : LineId) (x : OutputLine) (k : LaneId) : (s.setOutput o x).lane k = s.lane k := rfl
@[simp] theorem State.punchOf_setOutput_other (s : State) (o : LineId) (x : OutputLine) (k : LaneId) : (s.setOutput o x).punchOf k = s.punchOf k := rfl
@[simp] theorem State.port_setOutput_other (s : State) (o : LineId) (x : OutputLine) (k : PortId) : (s.setOutput o x).port k = s.port k := rfl
@[simp] theorem State.link_setOutput_other (s : State) (o : LineId) (x : OutputLine) (k : PortId) : (s.setOutput o x).link k = s.link k := rfl
@[simp] theorem State.group_setOutput_other (s : State) (o : LineId) (x : OutputLine) (k : GroupId) : (s.setOutput o x).group k = s.group k := rfl
@[simp] theorem State.markLane_setOutput_other (s : State) (o : LineId) (x : OutputLine) (k : LaneId) : (s.setOutput o x).markLane k = s.markLane k := rfl
@[simp] theorem State.channel_setOutput_other (s : State) (o : LineId) (x : OutputLine) (k : ChannelId) : (s.setOutput o x).channel k = s.channel k := rfl
@[simp] theorem State.input_setOutput_other (s : State) (o : LineId) (x : OutputLine) (k : LineId) : (s.setOutput o x).input k = s.input k := rfl
@[simp] theorem State.lane_setRecords_other (s : State) (rs : List CueRecord) (k : LaneId) : (s.setRecords rs).lane k = s.lane k := rfl
@[simp] theorem State.punchOf_setRecords_other (s : State) (rs : List CueRecord) (k : LaneId) : (s.setRecords rs).punchOf k = s.punchOf k := rfl
@[simp] theorem State.port_setRecords_other (s : State) (rs : List CueRecord) (k : PortId) : (s.setRecords rs).port k = s.port k := rfl
@[simp] theorem State.link_setRecords_other (s : State) (rs : List CueRecord) (k : PortId) : (s.setRecords rs).link k = s.link k := rfl
@[simp] theorem State.group_setRecords_other (s : State) (rs : List CueRecord) (k : GroupId) : (s.setRecords rs).group k = s.group k := rfl
@[simp] theorem State.markLane_setRecords_other (s : State) (rs : List CueRecord) (k : LaneId) : (s.setRecords rs).markLane k = s.markLane k := rfl
@[simp] theorem State.channel_setRecords_other (s : State) (rs : List CueRecord) (k : ChannelId) : (s.setRecords rs).channel k = s.channel k := rfl
@[simp] theorem State.input_setRecords_other (s : State) (rs : List CueRecord) (k : LineId) : (s.setRecords rs).input k = s.input k := rfl
@[simp] theorem State.output_setRecords_other (s : State) (rs : List CueRecord) (k : LineId) : (s.setRecords rs).output k = s.output k := rfl
@[simp] theorem State.lane_setEntries_other (s : State) (es : List JournalEntry) (k : LaneId) : (s.setEntries es).lane k = s.lane k := rfl
@[simp] theorem State.punchOf_setEntries_other (s : State) (es : List JournalEntry) (k : LaneId) : (s.setEntries es).punchOf k = s.punchOf k := rfl
@[simp] theorem State.port_setEntries_other (s : State) (es : List JournalEntry) (k : PortId) : (s.setEntries es).port k = s.port k := rfl
@[simp] theorem State.link_setEntries_other (s : State) (es : List JournalEntry) (k : PortId) : (s.setEntries es).link k = s.link k := rfl
@[simp] theorem State.group_setEntries_other (s : State) (es : List JournalEntry) (k : GroupId) : (s.setEntries es).group k = s.group k := rfl
@[simp] theorem State.markLane_setEntries_other (s : State) (es : List JournalEntry) (k : LaneId) : (s.setEntries es).markLane k = s.markLane k := rfl
@[simp] theorem State.channel_setEntries_other (s : State) (es : List JournalEntry) (k : ChannelId) : (s.setEntries es).channel k = s.channel k := rfl
@[simp] theorem State.input_setEntries_other (s : State) (es : List JournalEntry) (k : LineId) : (s.setEntries es).input k = s.input k := rfl
@[simp] theorem State.output_setEntries_other (s : State) (es : List JournalEntry) (k : LineId) : (s.setEntries es).output k = s.output k := rfl
@[simp] theorem State.lane_setReceiver_other (s : State) (r : Option (List Byte)) (k : LaneId) : (s.setReceiver r).lane k = s.lane k := rfl
@[simp] theorem State.punchOf_setReceiver_other (s : State) (r : Option (List Byte)) (k : LaneId) : (s.setReceiver r).punchOf k = s.punchOf k := rfl
@[simp] theorem State.port_setReceiver_other (s : State) (r : Option (List Byte)) (k : PortId) : (s.setReceiver r).port k = s.port k := rfl
@[simp] theorem State.link_setReceiver_other (s : State) (r : Option (List Byte)) (k : PortId) : (s.setReceiver r).link k = s.link k := rfl
@[simp] theorem State.group_setReceiver_other (s : State) (r : Option (List Byte)) (k : GroupId) : (s.setReceiver r).group k = s.group k := rfl
@[simp] theorem State.markLane_setReceiver_other (s : State) (r : Option (List Byte)) (k : LaneId) : (s.setReceiver r).markLane k = s.markLane k := rfl
@[simp] theorem State.channel_setReceiver_other (s : State) (r : Option (List Byte)) (k : ChannelId) : (s.setReceiver r).channel k = s.channel k := rfl
@[simp] theorem State.input_setReceiver_other (s : State) (r : Option (List Byte)) (k : LineId) : (s.setReceiver r).input k = s.input k := rfl
@[simp] theorem State.output_setReceiver_other (s : State) (r : Option (List Byte)) (k : LineId) : (s.setReceiver r).output k = s.output k := rfl
@[simp] theorem State.lane_mapPorts_other (s : State) (f : PortId → Port → Port) (k : LaneId) : (s.mapPorts f).lane k = s.lane k := rfl
@[simp] theorem State.punchOf_mapPorts_other (s : State) (f : PortId → Port → Port) (k : LaneId) : (s.mapPorts f).punchOf k = s.punchOf k := rfl
@[simp] theorem State.link_mapPorts_other (s : State) (f : PortId → Port → Port) (k : PortId) : (s.mapPorts f).link k = s.link k := rfl
@[simp] theorem State.group_mapPorts_other (s : State) (f : PortId → Port → Port) (k : GroupId) : (s.mapPorts f).group k = s.group k := rfl
@[simp] theorem State.markLane_mapPorts_other (s : State) (f : PortId → Port → Port) (k : LaneId) : (s.mapPorts f).markLane k = s.markLane k := rfl
@[simp] theorem State.channel_mapPorts_other (s : State) (f : PortId → Port → Port) (k : ChannelId) : (s.mapPorts f).channel k = s.channel k := rfl
@[simp] theorem State.input_mapPorts_other (s : State) (f : PortId → Port → Port) (k : LineId) : (s.mapPorts f).input k = s.input k := rfl
@[simp] theorem State.output_mapPorts_other (s : State) (f : PortId → Port → Port) (k : LineId) : (s.mapPorts f).output k = s.output k := rfl
@[simp] theorem State.lane_handOff_other (s : State) (h : Handoff) (k : LaneId) : (s.handOff h).lane k = s.lane k := rfl
@[simp] theorem State.punchOf_handOff_other (s : State) (h : Handoff) (k : LaneId) : (s.handOff h).punchOf k = s.punchOf k := rfl
@[simp] theorem State.port_handOff_other (s : State) (h : Handoff) (k : PortId) : (s.handOff h).port k = s.port k := rfl
@[simp] theorem State.link_handOff_other (s : State) (h : Handoff) (k : PortId) : (s.handOff h).link k = s.link k := rfl
@[simp] theorem State.group_handOff_other (s : State) (h : Handoff) (k : GroupId) : (s.handOff h).group k = s.group k := rfl
@[simp] theorem State.markLane_handOff_other (s : State) (h : Handoff) (k : LaneId) : (s.handOff h).markLane k = s.markLane k := rfl
@[simp] theorem State.channel_handOff_other (s : State) (h : Handoff) (k : ChannelId) : (s.handOff h).channel k = s.channel k := rfl
@[simp] theorem State.input_handOff_other (s : State) (h : Handoff) (k : LineId) : (s.handOff h).input k = s.input k := rfl
@[simp] theorem State.output_handOff_other (s : State) (h : Handoff) (k : LineId) : (s.handOff h).output k = s.output k := rfl

@[simp] theorem State.port_mapPorts (s : State) (f : PortId → Port → Port) (p : PortId) :
    (s.mapPorts f).port p = f p (s.port p) := by
  fin_cases p <;> rfl

end Sys2Proof.Machine
end

