-- ==== Sys2Proof/Laws/Events.lean ====
section
/-! SUPPORT. Laws/Events.lean: one lemma for each way an event reaches its block: a live event, the bytes of a position word, a
lane taking what is offered to it, and settling when nothing is outstanding. -/

namespace Sys2Proof.Machine

/-- An event while RESET is released has its effect. -/
theorem live_of_released {f : State → State} {s : State} (h : s.resetHeld = false) : live f s = .next (f s) := by
  simp [live, h]

/-- An event while RESET is held has none. -/
theorem live_of_held {f : State → State} {s : State} (h : s.resetHeld = true) : live f s = .next s := by
  simp [live, h]

/-! ### POSIN -/

/-- While the receiver hunts, bytes other than the sync byte change nothing. -/
theorem foldl_posinByte_hunting {s : State} (hr : s.tracker.receiver = none) :
    ∀ {b : List Byte}, 0xC5 ∉ b → b.foldl posinByte s = s
  | [], _ => rfl
  | x :: b, h => by
    simp only [List.mem_cons, not_or] at h
    have hx : posinByte s x = s := by
      simp only [posinByte, hr, Config.positionSync]
      exact if_neg fun e => h.1 e.symm
    rw [List.foldl_cons, hx]
    exact foldl_posinByte_hunting hr h.2

/-- A sync byte and fewer than six bytes leave a word in progress. -/
theorem foldl_posinByte_part {b : List Byte} {s : State} (hl : b.length ≤ 5) (hr : s.tracker.receiver = none) :
    (0xC5 :: b).foldl posinByte s = s.setReceiver (some b) := by
  rcases b with _ | ⟨a0, _ | ⟨a1, _ | ⟨a2, _ | ⟨a3, _ | ⟨a4, _ | ⟨a5, b⟩⟩⟩⟩⟩⟩ <;> simp at hl <;>
    first
      | omega
      | simp [posinByte, State.setReceiver, hr, Config.positionSync]

/-- A sync byte and six bytes are a whole word. -/
theorem foldl_posinByte_whole {b : List Byte} {s : State} (hl : b.length = 6) (hr : s.tracker.receiver = none) :
    (0xC5 :: b).foldl posinByte s = takeWord b s := by
  rcases b with _ | ⟨a0, _ | ⟨a1, _ | ⟨a2, _ | ⟨a3, _ | ⟨a4, _ | ⟨a5, _ | ⟨a6, b⟩⟩⟩⟩⟩⟩⟩ <;> simp at hl
  have h : posinByte s 0xC5 = s.setReceiver (some []) := by simp [posinByte, hr, Config.positionSync]
  simp only [List.foldl_cons, List.foldl_nil, h]
  simp [posinByte, State.setReceiver]
  congr 1
  cases s with
  | mk a b c d e t => cases t; simp at hr; simp [hr]

/-- A valid word on POSIN reaches the tracker. -/
theorem exec_positionWord {b : List Byte} {w : PositionWord} {s : State} (h : s.hears b w) :
    exec (.positionWord (0xC5 :: b)) s = .next (trackerApply (s.tracker.onWord s.params w) s) := by
  obtain ⟨h1, h2, h3, h4⟩ := h
  show Host.Outcome.next (if s.resetHeld = true then s else _) = _
  dsimp only
  rw [foldl_posinByte_whole h3 h2]
  simp [takeWord, h1, h4]

/-! ### Taking what is offered -/

theorem offeredAdvance_of_event {s : State} {a : Advance} (h : s.offered.event = some (.advance a)) :
    s.offeredAdvance = some a := by
  simp [State.offeredAdvance, h]

/-- A lane takes the advance offered to it. -/
theorem exec_lanePositionAdvance {l : LaneId} {a : Advance} {s : State} (h : s.offersLane l a) :
    exec (.lanePositionAdvance l) s = .next (laneAdvance l a (s.laneTook l)) := by
  obtain ⟨h1, h2, h3⟩ := h
  show live _ _ = _
  rw [live_of_released h1]
  simp only [laneTakesAdvance, offeredAdvance_of_event h2]
  rw [if_pos (show s.laneDue l = true from h3)]

/-- A lane takes the roll lost offered to it. -/
theorem exec_laneRollLost {l : LaneId} {s : State} (h : s.offersLaneLost l) :
    exec (.laneRollLost l) s = .next (laneLost l (s.laneTook l)) := by
  obtain ⟨h1, ⟨r, h2⟩, h3⟩ := h
  show live _ _ = _
  rw [live_of_released h1]
  simp only [laneTakesLost, State.offeredLost, h2, State.laneDue]
  simp [h3]

/-- With nothing outstanding there is nothing to settle. -/
theorem settle_of_quiet {s : State} (h : s.quiet) : settle s = s := by
  obtain ⟨h1, h2, h3, h4, h5⟩ := h
  have hl : ∀ l, laneTakes s l = s := by
    intro l
    have hd : s.laneDue l = false := by simp [State.laneDue, h1]
    simp only [laneTakes, laneTakesAdvance, laneTakesLost, hd]
    cases s.offeredAdvance <;> simp [hd]
  have h0 : allLanes.foldl laneTakes s = s := by simp [allLanes, hl]
  have h6 : runHandoffs s = s := by
    unfold runHandoffs
    rw [h5]
    cases s
    simp at h5
    simp [h5]
  have h7 : marksTakeAdvance s = s := by unfold marksTakeAdvance; cases s.offeredAdvance <;> simp [h2]
  have h8 : punchTakesAdvance s = s := by unfold punchTakesAdvance; cases s.offeredAdvance <;> simp [h3]
  have h9 : loopTakesAdvance s = s := by unfold loopTakesAdvance; cases s.offeredAdvance <;> simp [h4]
  have h10 : loopTakesRelock s = s := by unfold loopTakesRelock; split <;> simp [h4]
  have h11 : loopTakesLost s = s := by simp [loopTakesLost, h4]
  simp only [settle, h0, h6, h7, h8, h9, h10, h11]

/-- With no group draining, the release of a pin concerns no group. -/
theorem afterRelease_of_notDraining {cue : Nat} {s : State} (h : s.notDraining) : afterRelease cue s = s := by
  unfold afterRelease
  cases hg : s.activeGroup with
  | none => rfl
  | some g => simp [h g hg]

/-! ### The table's queries -/

/-- A cue is not pinned exactly when no lane pins it. -/
theorem isPinned_eq_false_iff (s : State) (n : Nat) : s.isPinned n = false ↔ ∀ l : LaneId, (s.lane l).pinned ≠ some n := by
  unfold State.isPinned State.pinnedBy
  simp [allLanes, List.find?_eq_none, Fin.forall_fin_succ]

/-- A cue is pinned exactly when some lane pins it. -/
theorem isPinned_eq_true_iff (s : State) (n : Nat) : s.isPinned n = true ↔ ∃ l : LaneId, (s.lane l).pinned = some n := by
  rw [← Bool.not_eq_false, isPinned_eq_false_iff]
  simp

/-- The conditions of an arming claim, as the lane tests them. -/
theorem mayArm_iff (s : State) (l : LaneId) : s.mayArm l = true ↔ s.armingAllowed l := by
  simp [State.mayArm, State.armingAllowed, State.laneReady, and_assoc]

end Sys2Proof.Machine
end

