-- ==== Sys2Proof/Laws/Touches.lean ====
section
/-! SUPPORT. Laws/Touches.lean: for each operation, once, the parts of the state it may change. -/

namespace Sys2Proof.Machine

set_option Elab.async false

theorem TouchesOnly.refl (xs : List Part) (s : State) : TouchesOnly xs s s := by
  intro x _; cases x <;> rfl

theorem TouchesOnly.mono {xs ys : List Part} {s t : State} (h : TouchesOnly xs s t) (hs : ∀ x ∈ xs, x ∈ ys) :
    TouchesOnly ys s t := fun x hx => h x fun hm => hx (hs x hm)

theorem Part.same_trans {x : Part} {s t u : State} (h₁ : x.same s t) (h₂ : x.same t u) : x.same s u := by
  cases x <;> exact Eq.trans h₂ h₁

theorem TouchesOnly.trans {xs : List Part} {s t u : State} (h₁ : TouchesOnly xs s t) (h₂ : TouchesOnly xs t u) :
    TouchesOnly xs s u := fun x hx => Part.same_trans (h₁ x hx) (h₂ x hx)

/-- One operation after another, each with its own parts. -/
theorem TouchesOnly.andThen {xs ys zs : List Part} {s t u : State} (h₁ : TouchesOnly xs s t) (h₂ : TouchesOnly ys t u)
    (hx : ∀ x ∈ xs, x ∈ zs := by decide) (hy : ∀ y ∈ ys, y ∈ zs := by decide) : TouchesOnly zs s u :=
  (h₁.mono hx).trans (h₂.mono hy)

/-- A fold of an operation. -/
theorem TouchesOnly.foldl {α : Type} {xs : List Part} {f : State → α → State} (h : ∀ s a, TouchesOnly xs s (f s a)) :
    ∀ (as : List α) (s : State), TouchesOnly xs s (as.foldl f s)
  | [], s => TouchesOnly.refl xs s
  | a :: as, s => (h s a).trans (TouchesOnly.foldl h as (f s a))

/-- A choice between two results. -/
theorem TouchesOnly.ite {xs : List Part} {s a b : State} (c : Prop) [Decidable c] (ha : TouchesOnly xs s a)
    (hb : TouchesOnly xs s b) : TouchesOnly xs s (if c then a else b) := by
  by_cases h : c
  · rw [if_pos h]; exact ha
  · rw [if_neg h]; exact hb

/-! ### Single updates -/

theorem touches_setLane (s : State) (l : LaneId) (x : Lane) : TouchesOnly [.lanes] s (s.setLane l x) := by
  intro y hy; cases y <;> first | rfl | simp at hy
theorem touches_setPunch (s : State) (l : LaneId) (x : PunchLane) : TouchesOnly [.punch] s (s.setPunch l x) := by
  intro y hy; cases y <;> first | rfl | simp at hy
theorem touches_setPort (s : State) (p : PortId) (x : Port) : TouchesOnly [.ports] s (s.setPort p x) := by
  intro y hy; cases y <;> first | rfl | simp at hy
theorem touches_setLink (s : State) (p : PortId) (x : LinkState) : TouchesOnly [.links] s (s.setLink p x) := by
  intro y hy; cases y <;> first | rfl | simp at hy
theorem touches_setGroup (s : State) (g : GroupId) (x : Group) : TouchesOnly [.loop] s (s.setGroup g x) := by
  intro y hy; cases y <;> first | rfl | simp at hy
theorem touches_setMarkLane (s : State) (l : LaneId) (x : MarkLane) : TouchesOnly [.marks] s (s.setMarkLane l x) := by
  intro y hy; cases y <;> first | rfl | simp at hy
theorem touches_setChannel (s : State) (c : ChannelId) (x : Channel) : TouchesOnly [.marks] s (s.setChannel c x) := by
  intro y hy; cases y <;> first | rfl | simp at hy
theorem touches_setInput (s : State) (i : LineId) (x : InputLine) : TouchesOnly [.lines] s (s.setInput i x) := by
  intro y hy; cases y <;> first | rfl | simp at hy
theorem touches_setOutput (s : State) (i : LineId) (x : OutputLine) : TouchesOnly [.lines] s (s.setOutput i x) := by
  intro y hy; cases y <;> first | rfl | simp at hy
theorem touches_setRecords (s : State) (rs : List CueRecord) : TouchesOnly [.table] s (s.setRecords rs) := by
  intro y hy; cases y <;> first | rfl | simp at hy
theorem touches_setEntries (s : State) (es : List JournalEntry) : TouchesOnly [.journal] s (s.setEntries es) := by
  intro y hy; cases y <;> first | rfl | simp at hy
theorem touches_mapPorts (s : State) (f : PortId → Port → Port) : TouchesOnly [.ports] s (s.mapPorts f) := by
  intro y hy; cases y <;> first | rfl | simp at hy
theorem touches_handOff (s : State) (h : Handoff) : TouchesOnly [.handoffs] s (s.handOff h) := by
  intro y hy; cases y <;> first | rfl | simp at hy
theorem touches_modCycle (l : LaneId) (f : CycleRecord → CycleRecord) (s : State) : TouchesOnly [.lanes] s (modCycle l f s) :=
  touches_setLane s l _

/-! ### Posting -/

theorem touches_post (c : NoticeClass) (n : Notice) (s : State) : TouchesOnly [.ports] s (post c n s) := touches_mapPorts s _
theorem touches_postGrantTo (q : PortId) (n : Notice) (s : State) : TouchesOnly [.ports] s (postGrantTo q n s) :=
  touches_mapPorts s _
theorem touches_postGrantExcept (q : PortId) (n : Notice) (s : State) : TouchesOnly [.ports] s (postGrantExcept q n s) :=
  touches_mapPorts s _
theorem touches_postPunch (p : PortId) (n : PriorityNotice) (s : State) : TouchesOnly [.ports] s (postPunch p n s) :=
  .ite _ (touches_setPort s p _) (.refl _ s)
theorem touches_postTransport (p : PortId) (n : PriorityNotice) (s : State) : TouchesOnly [.ports] s (postTransport p n s) :=
  .ite _ (touches_setPort s p _) (.refl _ s)

/-! ### The grant -/

theorem touches_grant (s : State) (g : Grant) : TouchesOnly [.grant] s { s with grant := g } := by
  intro y hy; cases y <;> first | rfl | simp at hy
theorem touches_table (s : State) (t : CueTable) : TouchesOnly [.table] s { s with table := t } := by
  intro y hy; cases y <;> first | rfl | simp at hy

theorem touches_giveAtOnce (p : PortId) (s : State) : TouchesOnly [.grant, .ports] s (giveAtOnce p s) :=
  (touches_grant s _).andThen (touches_postGrantExcept p _ _)

theorem touches_passGrant (s : State) : TouchesOnly [.grant, .ports] s (passGrant s) := by
  unfold passGrant
  split
  · exact .refl _ s
  · exact ((touches_grant s _).trans (touches_grant _ _)).andThen (touches_postGrantTo _ _ _)

theorem touches_revoke (p : PortId) (c : RevokeCause) (s : State) :
    TouchesOnly [.table, .grant, .ports] s (revoke p c s) := by
  have hp : TouchesOnly [.table, .grant, .ports] s (postGrantTo p (.revoked p c s.grant.changed) s) :=
    (touches_postGrantTo p _ s).mono (by decide)
  unfold revoke
  refine (hp.trans ?_).andThen ((touches_grant _ _).andThen (touches_passGrant _) (zs := [.grant, .ports]))
  refine .ite _ ?_ (.refl _ _)
  exact (touches_table _ _).andThen (touches_post _ _ _)

theorem touches_releaseByHolder (p : PortId) (s : State) :
    TouchesOnly [.table, .grant, .ports] s (releaseByHolder p s) := by
  unfold releaseByHolder
  have ht := touches_table s (s.table.afterRelease s.grant.changed)
  refine (ht.andThen (ys := [.ports]) (zs := [.table, .ports]) ?_).andThen
    ((touches_grant _ _).andThen (touches_passGrant _) (zs := [.grant, .ports]))
  exact .ite _ (touches_post _ _ _) (.refl _ _)

theorem touches_grantDetach (p : PortId) (s : State) : TouchesOnly [.table, .grant, .ports] s (grantDetach p s) :=
  .ite _ (touches_revoke p _ s) ((touches_grant s _).mono (by decide))
theorem touches_restartIdle (p : PortId) (s : State) : TouchesOnly [.grant] s (restartIdle p s) :=
  .ite _ (touches_grant s _) (.refl _ s)
theorem touches_setChanged (s : State) : TouchesOnly [.grant] s (setChanged s) := touches_grant s _

/-! ### The take journal -/

theorem touches_journal (s : State) (j : Journal) : TouchesOnly [.journal] s { s with journal := j } := by
  intro y hy; cases y <;> first | rfl | simp at hy

theorem touches_evictCircled (e : JournalEntry) (rest : List JournalEntry) (s : State) :
    TouchesOnly [.table, .journal, .ports] s (evictCircled e rest s) := by
  unfold evictCircled
  refine TouchesOnly.andThen (xs := [.table, .journal]) (ys := [.ports]) ?_ (touches_post _ _ _)
  exact (touches_setEntries s rest).andThen (ys := [.table]) (.ite _ (touches_setRecords _ _) (.refl _ _))

theorem touches_makeRoom (s : State) : TouchesOnly [.table, .journal, .ports] s (makeRoom s) := by
  unfold makeRoom
  refine .ite _ (.refl _ s) (.ite _ ((touches_setEntries s _).mono (by decide)) ?_)
  split
  · exact .refl _ s
  · exact touches_evictCircled _ _ s

theorem touches_appendEntry (n : Nat) (e : JournalEntry) (s : State) :
    TouchesOnly [.journal, .ports] s (appendEntry n e s) :=
  .ite _ ((touches_journal s _).andThen (touches_post _ _ _)) ((touches_journal s _).mono (by decide))

theorem touches_journalWrite (e : JournalEntry) (s : State) :
    TouchesOnly [.table, .journal, .ports] s (journalWrite e s).1 := by
  unfold journalWrite
  split
  · exact .refl _ s
  · split
    · exact .refl _ s
    · exact (touches_makeRoom s).andThen (touches_appendEntry _ _ _)

theorem touches_circle (e : JournalEntry) (c : CircleSource) (s : State) :
    TouchesOnly [.table, .journal, .ports] s (circle e c s) :=
  ((touches_setEntries s _).andThen (touches_setRecords _ _) (zs := [.table, .journal])).andThen (touches_post _ _ _)
theorem touches_uncircle (e : JournalEntry) (c : CircleSource) (s : State) :
    TouchesOnly [.table, .journal, .ports] s (uncircle e c s) :=
  ((touches_setEntries s _).andThen (touches_setRecords _ _) (zs := [.table, .journal])).andThen (touches_post _ _ _)
theorem touches_circleLast (l : LaneId) (i : LineId) (s : State) :
    TouchesOnly [.table, .journal, .ports] s (circleLast l i s) := by
  unfold circleLast
  split
  · exact .refl _ s
  · exact touches_circle _ _ s

/-! ### The Loop Controller -/

theorem touches_loop (s : State) (x : Loop) : TouchesOnly [.loop] s { s with loop := x } := by
  intro y hy; cases y <;> first | rfl | simp at hy

theorem touches_loopChange (g : GroupId) (m : LoopMode) (c : LoopCause) (s : State) :
    TouchesOnly [.loop, .ports] s (loopChange g m c s) :=
  ((touches_setGroup s g _).trans (touches_loop _ _)).andThen (touches_post _ _ _)

theorem touches_postToTransport (g : GroupId) (n : PriorityNotice) (s : State) :
    TouchesOnly [.ports] s (postToTransport g n s) := by
  unfold postToTransport
  split
  · exact .refl _ s
  · exact touches_postTransport _ n s

theorem touches_loopHalt (g : GroupId) (m : LoopMode) (c : LoopCause) (s : State) :
    TouchesOnly [.loop, .ports] s (loopHalt g m c s) :=
  (touches_postToTransport g _ s).andThen (touches_loopChange g m c _)

theorem touches_loopLocate (g : GroupId) (c : LoopCause) (sp : LoopSpan) (s : State) :
    TouchesOnly [.loop, .ports] s (loopLocate g c sp s) :=
  (((touches_setGroup s g _).andThen (touches_postToTransport g _ _) (zs := [.loop, .ports])).andThen (touches_loop _ _)
    (zs := [.loop, .ports])).andThen (touches_post _ _ _)

theorem touches_passEnd (g : GroupId) (s : State) : TouchesOnly [.loop, .ports] s (passEnd g s) := by
  unfold passEnd
  dsimp only
  generalize ht : s.setGroup g _ = t
  refine TouchesOnly.trans (xs := [.loop, .ports]) (ht ▸ (touches_setGroup s g _).mono (by decide)) (.ite _ (touches_loopHalt g _ _ _) ?_)
  split
  · exact touches_loopHalt g _ _ _
  · exact .ite _ (touches_loopLocate g _ _ _) (touches_loopHalt g _ _ _)

theorem touches_afterRelease (n : Nat) (s : State) : TouchesOnly [.loop, .ports] s (afterRelease n s) := by
  unfold afterRelease
  split
  · exact .refl _ s
  · exact .ite _ (touches_passEnd _ s) (.refl _ s)

theorem touches_loopTakeLock (q : Position) (s : State) : TouchesOnly [.loop, .ports] s (loopTakeLock q s) := by
  unfold loopTakeLock
  split
  · exact .refl _ s
  · exact .ite _ (touches_loopChange _ _ _ s) (.refl _ s)

theorem touches_loopTakeFrame (p : Nat) (s : State) : TouchesOnly [.loop, .ports] s (loopTakeFrame p s) := by
  unfold loopTakeFrame
  split
  · exact .refl _ s
  · exact .ite _ (.ite _ (touches_loopChange _ _ _ s) (touches_passEnd _ s)) (.refl _ s)

theorem touches_loopTakeLost (s : State) : TouchesOnly [.loop, .ports] s (loopTakeLost s) := by
  unfold loopTakeLost
  split
  · exact .refl _ s
  · split
    · exact touches_loopHalt _ _ _ s
    · exact touches_passEnd _ s
    all_goals exact .refl _ s

theorem touches_loopTakeAdvance (a : Advance) (s : State) : TouchesOnly [.loop, .ports] s (loopTakeAdvance a s) := by
  unfold loopTakeAdvance
  refine TouchesOnly.trans ?_ (touches_loopTakeFrame a.frame _)
  split
  · exact .refl _ s
  · exact touches_loopTakeLock _ s

theorem touches_loopStopActive (c : LoopCause) (s : State) : TouchesOnly [.loop, .ports] s (loopStopActive c s) := by
  unfold loopStopActive
  split
  · exact .refl _ s
  · exact touches_loopHalt _ _ _ s

theorem touches_loopDetach (p : PortId) (s : State) : TouchesOnly [.loop, .ports] s (loopDetach p s) := by
  unfold loopDetach
  split
  · exact .refl _ s
  · exact .ite _ (touches_loopChange _ _ _ s) (.refl _ s)

theorem touches_loopLocateTaken (g : GroupId) (s : State) : TouchesOnly [.loop] s (loopLocateTaken g s) :=
  .ite _ (touches_loop s _) (.refl _ s)

/-! ### The Punch Unit -/

theorem touches_punchDecision (l : LaneId) (c : CycleRecord) (s : State) :
    TouchesOnly [.punch, .ports] s (punchDecision l c s) := by
  unfold punchDecision
  dsimp only
  generalize ht : s.setPunch l _ = t
  refine TouchesOnly.trans (xs := [.punch, .ports]) (ht ▸ (touches_setPunch s l _).mono (by decide)) ?_
  split
  · exact (touches_postPunch _ _ _).mono (by decide)
  all_goals exact .refl _ _

theorem touches_punchInTaken (l : LaneId) (s : State) : TouchesOnly [.punch] s (punchInTaken l s) := by
  unfold punchInTaken
  split
  · exact touches_setPunch s l _
  · exact .refl _ s

theorem touches_breakTake (l : LaneId) (p : PortId) (s : State) : TouchesOnly [.lanes, .punch] s (breakTake l p s) :=
  (touches_setPunch s l _).andThen (touches_modCycle l _ _)

theorem touches_tallyFailure (l : LaneId) (p : PortId) (s : State) :
    TouchesOnly [.lanes, .punch, .links, .ports] s (tallyFailure l p s) := by
  unfold tallyFailure
  refine TouchesOnly.andThen (xs := [.ports]) (ys := [.lanes, .punch, .links]) ?_
    ((touches_setLink _ p _).andThen (touches_breakTake l p _))
  split
  · exact .refl _ s
  · exact touches_postPunch _ _ s

theorem touches_tallyCheck (l : LaneId) (p : PortId) (n : Nat) (s : State) :
    TouchesOnly [.lanes, .punch, .links, .ports] s (tallyCheck l p n s) := by
  unfold tallyCheck
  dsimp only
  generalize ht : s.setPunch l _ = t
  refine TouchesOnly.trans (xs := [.lanes, .punch, .links, .ports]) (ht ▸ (touches_setPunch s l _).mono (by decide)) ?_
  exact .ite _ (touches_tallyFailure l p _) (.refl _ _)

theorem touches_punchLaneAdvance (n : Nat) (s : State) (l : LaneId) :
    TouchesOnly [.lanes, .punch, .links, .ports] s (punchLaneAdvance n s l) := by
  unfold punchLaneAdvance
  split
  · exact .ite _ (touches_tallyCheck l _ n s) (.refl _ s)
  all_goals exact .refl _ s

theorem touches_punchAdvance (n : Nat) (s : State) : TouchesOnly [.lanes, .punch, .links, .ports] s (punchAdvance n s) :=
  TouchesOnly.foldl (fun s l => touches_punchLaneAdvance n s l) _ s

theorem touches_punchEnd (l : LaneId) (c : CycleRecord) (r : PunchReason) (s : State) :
    TouchesOnly [.punch, .ports] s (punchEnd l c r s) := by
  unfold punchEnd
  refine TouchesOnly.andThen (xs := [.ports]) (ys := [.punch]) ?_ (touches_setPunch _ l _)
  split
  · exact .refl _ s
  · exact .refl _ s
  · exact touches_setPort s _ _
  · exact touches_postPunch _ _ s
  · exact .refl _ s

theorem touches_punchDetachLane (p : PortId) (s : State) (l : LaneId) :
    TouchesOnly [.lanes, .punch] s (punchDetachLane p s l) := by
  unfold punchDetachLane
  refine TouchesOnly.trans (t := match (s.punchOf l).mode with
    | .idle => s
    | .dry _ => s
    | .queued q => if q = p then s.setPunch l { s.punchOf l with mode := .dry .notSent } else s
    | .recording q _ => if q = p then breakTake l p s else s
    | .broken _ => s) ?_ (.ite _ ((touches_setPunch _ l _).mono (by decide)) (.refl _ _))
  split
  · exact .refl _ s
  · exact .refl _ s
  · exact .ite _ ((touches_setPunch s l _).mono (by decide)) (.refl _ s)
  · exact .ite _ (touches_breakTake l p s) (.refl _ s)
  · exact .refl _ s

theorem touches_punchDetach (p : PortId) (s : State) : TouchesOnly [.lanes, .punch] s (punchDetach p s) :=
  TouchesOnly.foldl (fun s l => touches_punchDetachLane p s l) _ s

theorem touches_clearReadyOf (p : PortId) (s : State) : TouchesOnly [.punch] s (clearReadyOf p s) :=
  TouchesOnly.foldl (fun s l => .ite _ (touches_setPunch s l _) (.refl _ s)) _ s

/-! ### The marks -/

theorem touches_marks (s : State) (m : Marks) : TouchesOnly [.marks] s { s with marks := m } := by
  intro y hy; cases y <;> first | rfl | simp at hy

theorem touches_addMarkFlag (l : LaneId) (n : Nat) (f : Flags → Flags) (s : State) :
    TouchesOnly [.lanes] s (addMarkFlag l n f s) :=
  .ite _ (touches_modCycle l _ s) (.refl _ s)

theorem touches_setBid (l : LaneId) (b : BidState) (s : State) : TouchesOnly [.marks] s (setBid l b s) :=
  touches_setMarkLane s l _
theorem touches_releaseChannel (c : ChannelId) (s : State) : TouchesOnly [.marks] s (releaseChannel c s) :=
  touches_setChannel s c _
theorem touches_dropWipe (l : LaneId) (n : Nat) (s : State) :
    TouchesOnly [.lanes, .marks] s (dropWipe l n s) :=
  (touches_setBid l _ s).andThen (touches_addMarkFlag l n _ _)

theorem touches_grantChannel (l : LaneId) (c : ChannelId) (p : Nat) (s : State) :
    TouchesOnly [.lanes, .marks] s (grantChannel l c p s) := by
  unfold grantChannel
  split
  · exact .refl _ s
  · have h := fun x => (touches_setChannel s c x).trans (touches_setBid l (.holding c) _)
    exact .ite _ ((h _).andThen (touches_addMarkFlag l _ _ _)) ((h _).mono (by decide))

theorem touches_decisionGrants (n p : Nat) (s : State) : TouchesOnly [.lanes, .marks] s (decisionGrants n p s) := by
  induction n generalizing s with
  | zero => exact .refl _ s
  | succ n ih =>
    unfold decisionGrants
    split
    · exact (touches_grantChannel _ _ p s).trans (ih _)
    · exact .refl _ s

theorem touches_decisionPass (p : Nat) (s : State) : TouchesOnly [.lanes, .marks] s (decisionPass p s) :=
  touches_decisionGrants 4 p s

theorem touches_evaluateBidding (l : LaneId) (m : MarkSetup) (p : Nat) (s : State) :
    TouchesOnly [.lanes, .marks] s (evaluateBidding l m p s) :=
  .ite _ (touches_dropWipe l _ s) ((touches_setBid l _ s).mono (by decide))

theorem touches_evaluateHolding (l : LaneId) (c : ChannelId) (m : MarkSetup) (p : Nat) (s : State) :
    TouchesOnly [.marks] s (evaluateHolding l c m p s) := by
  unfold evaluateHolding
  split
  · exact touches_setChannel s c _
  · exact touches_setChannel s c _
  · exact (touches_releaseChannel c s).trans (touches_setBid l _ _)
  · exact .refl _ s

theorem touches_evaluateBid (l : LaneId) (m : MarkSetup) (p : Nat) (s : State) :
    TouchesOnly [.lanes, .marks] s (evaluateBid l m p s) := by
  unfold evaluateBid
  split
  · exact .refl _ s
  · exact .ite _ (touches_evaluateBidding l m p s) (.refl _ s)
  · exact touches_evaluateBidding l m p s
  · exact (touches_evaluateHolding l _ m p s).mono (by decide)
  · exact .refl _ s

theorem touches_evaluateLane (p : Nat) (s : State) (l : LaneId) : TouchesOnly [.lanes, .marks] s (evaluateLane p s l) := by
  unfold evaluateLane
  dsimp only
  split
  · exact .refl _ s
  · exact .ite _ (.refl _ s) ((touches_setMarkLane s l _).andThen (touches_evaluateBid l _ p _))

theorem touches_evaluateLanes (ls : List LaneId) (p : Nat) (s : State) :
    TouchesOnly [.lanes, .marks] s (evaluateLanes ls p s) :=
  (TouchesOnly.foldl (fun s l => touches_evaluateLane p s l) ls s).andThen (touches_marks _ _)

theorem touches_marksAdvance (p : Nat) (s : State) : TouchesOnly [.lanes, .marks] s (marksAdvance p s) :=
  ((touches_evaluateLanes allLanes p s).andThen (touches_marks _ _) (zs := [.lanes, .marks])).trans (touches_decisionPass p _)

theorem touches_markStart (l : LaneId) (m : MarkSetup) (p : Nat) (s : State) :
    TouchesOnly [.lanes, .marks] s (markStart l m p s) := by
  unfold markStart
  dsimp only
  generalize ht : s.setMarkLane l _ = t
  refine TouchesOnly.trans (xs := [.lanes, .marks]) (ht ▸ (touches_setMarkLane s l _).mono (by decide)) (.ite _ (.refl _ _) ?_)
  exact (touches_evaluateLanes [l] p _).trans (.ite _ (touches_decisionPass p _) (.refl _ _))

theorem touches_dropAtExit (l : LaneId) (b : Bool) (s : State) :
    TouchesOnly [.lanes, .marks] s (dropAtExit l b s) := by
  unfold dropAtExit
  split
  · exact .refl _ s
  · exact .ite _ (touches_dropWipe l _ s) (.refl _ s)

theorem touches_markEnd (l : LaneId) (b : Bool) (s : State) :
    TouchesOnly [.lanes, .marks] s (markEnd l b s) := by
  unfold markEnd
  split
  · exact (touches_dropAtExit l b s).andThen (touches_setMarkLane _ l _)
  · exact ((touches_releaseChannel _ s).trans (touches_setMarkLane _ l _)).andThen (touches_decisionPass _ _)

theorem touches_handoffs (s : State) (hs : List Handoff) : TouchesOnly [.handoffs] s { s with handoffs := hs } := by
  intro y hy; cases y <;> first | rfl | simp at hy

theorem touches_runHandoff (s : State) (h : Handoff) : TouchesOnly [.lanes, .marks] s (runHandoff s h) := by
  unfold runHandoff
  split
  · exact touches_markStart _ _ _ s
  · exact touches_markEnd _ _ s

theorem touches_runHandoffs (s : State) : TouchesOnly [.lanes, .handoffs, .marks] s (runHandoffs s) :=
  TouchesOnly.foldl (fun s h => (touches_handoffs s _).andThen (touches_runHandoff _ h)) _ s

theorem touches_takeStartHandoff (l : LaneId) (s : State) :
    TouchesOnly [.lanes, .handoffs, .marks] s (takeStartHandoff l s) := by
  unfold takeStartHandoff
  split
  · exact .refl _ s
  · exact (touches_handoffs s _).andThen (touches_markStart _ _ _ _)
  · exact .refl _ s

theorem touches_takeEndHandoff (l : LaneId) (s : State) :
    TouchesOnly [.lanes, .handoffs, .marks] s (takeEndHandoff l s) := by
  unfold takeEndHandoff
  split
  · exact .refl _ s
  · exact (touches_handoffs s _).andThen (touches_markEnd _ _ _)
  · exact .refl _ s

theorem touches_sendOverlayWord (s : State) : TouchesOnly [.marks] s (sendOverlayWord s) := by
  unfold sendOverlayWord
  split
  · exact .refl _ s
  · exact (touches_setChannel s _ _).trans (touches_marks _ _)

theorem touches_clearMarks (s : State) : TouchesOnly [.handoffs, .marks] s (clearMarks s) := by
  have h : TouchesOnly [.marks] s (allChannels.foldl (fun t c => releaseChannel c t) s) :=
    TouchesOnly.foldl (fun s c => touches_releaseChannel c s) _ s
  unfold clearMarks
  exact h.andThen (ys := [.handoffs, .marks]) (by intro y hy; cases y <;> first | rfl | simp at hy)

/-! ### The lanes -/

theorem touches_releaseClaim (l : LaneId) (s : State) : TouchesOnly [.lanes, .loop, .ports] s (releaseClaim l s) := by
  unfold releaseClaim
  split
  · exact .refl _ s
  · exact (touches_setLane s l _).andThen (touches_afterRelease _ _)

theorem touches_takeEndClaim (l : LaneId) (s : State) :
    TouchesOnly [.table, .lanes, .loop, .ports] s (takeEndClaim l s) := by
  unfold takeEndClaim
  split
  · exact .refl _ s
  · exact ((touches_setRecords s _).andThen (touches_setLane _ l _) (zs := [.table, .lanes])).andThen
      (touches_afterRelease _ _)

theorem touches_armCue (l : LaneId) (c : CueRecord) (p : Nat) (s : State) : TouchesOnly [.lanes, .ports] s (armCue l c p s) :=
  (touches_setLane s l _).andThen (touches_post _ _ _)

theorem touches_armingAttempt (l : LaneId) (r p : Nat) (s : State) :
    TouchesOnly [.lanes, .ports] s (armingAttempt l r p s) := by
  unfold armingAttempt
  refine .ite _ ?_ (.refl _ s)
  split
  · exact .refl _ s
  · exact touches_armCue l _ p s

theorem touches_letGo (l : LaneId) (m : LaneMode) (s : State) : TouchesOnly [.lanes, .loop, .ports] s (letGo l m s) :=
  (touches_releaseClaim l s).andThen (touches_setLane _ l _)

theorem touches_switchCue (l : LaneId) (n : Nat) (c : CueRecord) (p : Nat) (s : State) :
    TouchesOnly [.lanes, .loop, .ports] s (switchCue l n c p s) :=
  (((touches_setLane s l _).andThen (touches_afterRelease n _) (zs := [.lanes, .loop, .ports])).andThen
    (touches_setLane _ l _) (zs := [.lanes, .loop, .ports])).andThen (touches_post _ _ _)

theorem touches_rearm (l : LaneId) (r p : Nat) (s : State) : TouchesOnly [.lanes, .loop, .ports] s (rearm l r p s) := by
  unfold rearm
  split
  · exact .refl _ s
  · split
    · exact touches_letGo l _ s
    · exact .ite _ (.refl _ s) (touches_switchCue l _ _ p s)

theorem touches_takeBegin (l : LaneId) (c : CycleRecord) (a : Advance) (s : State) :
    TouchesOnly [.lanes, .punch, .ports] s (takeBegin l c a s) := by
  unfold takeBegin
  dsimp only
  generalize ht : s.setLane l _ = t
  refine TouchesOnly.trans (xs := [.lanes, .punch, .ports]) (ht ▸ (touches_setLane s l _).mono (by decide)) ?_
  exact .ite _ ((touches_punchDecision l _ _).mono (by decide)) (.refl _ _)

theorem touches_takeBeginTest (l : LaneId) (a : Advance) (s : State) :
    TouchesOnly [.lanes, .punch, .ports] s (takeBeginTest l a s) := by
  unfold takeBeginTest
  split
  · exact .refl _ s
  · exact .ite _ (touches_takeBegin l _ a s) (.refl _ s)

theorem touches_enterLeadin (l : LaneId) (c : CycleRecord) (a : Advance) (s : State) :
    TouchesOnly [.lanes, .handoffs, .punch, .ports] s (enterLeadin l c a s) :=
  ((touches_setLane s l _).andThen (touches_handOff _ _) (zs := [.lanes, .handoffs])).andThen (touches_takeBeginTest l a _)

theorem touches_enterTake (l : LaneId) (c : CycleRecord) (a : Advance) (s : State) :
    TouchesOnly [.lanes, .punch, .ports] s (enterTake l c a s) := by
  unfold enterTake
  dsimp only
  generalize ht : s.setLane l _ = t
  refine TouchesOnly.trans (xs := [.lanes, .punch, .ports]) (ht ▸ (touches_setLane s l _).mono (by decide)) ?_
  exact .ite _ (.refl _ _) (touches_takeBegin l c a _)

/-- The parts a lane may change when it takes an event. -/
def laneParts : List Part := [.table, .lanes, .handoffs, .marks, .punch, .loop, .journal, .ports]

theorem touches_endMarks (l : LaneId) (told : Bool) (s : State) :
    TouchesOnly [.lanes, .handoffs, .marks] s (endMarks l told s) :=
  .ite _ (touches_takeEndHandoff l s) ((touches_handOff s _).mono (by decide))

theorem touches_finishCycle (l : LaneId) (e : CycleStop) (x : PunchEnd) (q : Option Position) (c : CycleRecord) (s : State) :
    TouchesOnly laneParts s (finishCycle l e x q c s) := by
  unfold finishCycle
  dsimp only
  have h4 := fun x => ((touches_journalWrite x s).mono (by decide) (ys := laneParts)).trans
    ((touches_takeEndClaim l _).mono (by decide))
  have h7 := fun x y n z => ((((h4 x).trans ((touches_setLane _ l y).mono (by decide))).trans
    ((touches_post .lane n _).mono (by decide))).trans ((touches_setLane _ l z).mono (by decide)))
  split
  · exact h7 _ _ _ _
  · exact (h7 _ _ _ _).trans (.ite _ ((touches_armingAttempt l _ _ _).mono (by decide)) (.refl _ _))

theorem touches_endCycle (l : LaneId) (e : CycleStop) (told : Bool) (q : Option Position) (s : State) :
    TouchesOnly laneParts s (endCycle l e told q s) := by
  unfold endCycle
  have h := fun c => ((touches_punchEnd l c e.reason s).mono (by decide) (ys := laneParts)).trans
    ((touches_endMarks l told _).mono (by decide))
  split
  · exact .refl _ s
  · dsimp only
    split
    · exact h _
    · exact (h _).trans (touches_finishCycle l e _ q _ _)

theorem touches_falseStart (l : LaneId) (s : State) : TouchesOnly laneParts s (falseStart l s) :=
  ((touches_handOff s _).andThen (touches_releaseClaim l _) (zs := laneParts)).andThen (touches_setLane _ l _)

theorem touches_tailYieldTest (l : LaneId) (a : Advance) (s : State) : TouchesOnly laneParts s (tailYieldTest l a s) := by
  unfold tailYieldTest
  refine .ite _ ?_ (.refl _ s)
  split
  · exact .refl _ s
  · exact .ite _ (touches_endCycle l _ _ _ s) (.refl _ s)

theorem touches_armedAdvance (l : LaneId) (a : Advance) (s : State) : TouchesOnly laneParts s (armedAdvance l a s) := by
  unfold armedAdvance
  dsimp only
  have h : TouchesOnly laneParts s (if s.table.confirmed then rearm l a.reel a.frame s else s) :=
    .ite _ ((touches_rearm l _ _ s).mono (by decide)) (.refl _ s)
  refine h.trans ?_
  generalize (if s.table.confirmed then rearm l a.reel a.frame s else s) = t
  split
  · exact .ite _ ((touches_enterLeadin l _ a _).mono (by decide)) (.refl _ _)
  · exact .refl _ _

theorem touches_leadinAdvance (l : LaneId) (a : Advance) (s : State) : TouchesOnly laneParts s (leadinAdvance l a s) := by
  unfold leadinAdvance
  dsimp only
  refine ((touches_takeBeginTest l a s).mono (by decide)).trans ?_
  generalize takeBeginTest l a s = t
  split
  · exact .refl _ _
  · exact .ite _ ((touches_enterTake l _ a _).mono (by decide)) (.refl _ _)

theorem touches_takeAdvance (l : LaneId) (a : Advance) (s : State) : TouchesOnly laneParts s (takeAdvance l a s) := by
  unfold takeAdvance
  split
  · exact .refl _ s
  · refine .ite _ ?_ (.refl _ s)
    dsimp only
    refine ((touches_handOff s (.stop l true)).mono (by decide)).trans ?_
    exact .ite _ (touches_endCycle l _ _ _ _)
      (((touches_setLane _ l _).mono (by decide)).trans (touches_tailYieldTest l a _))

theorem touches_tailAdvance (l : LaneId) (a : Advance) (s : State) : TouchesOnly laneParts s (tailAdvance l a s) := by
  unfold tailAdvance
  split
  · exact .refl _ s
  · exact .ite _ (touches_endCycle l _ _ _ s) (touches_tailYieldTest l a s)

theorem touches_laneAdvance (l : LaneId) (a : Advance) (s : State) : TouchesOnly laneParts s (laneAdvance l a s) := by
  have h : TouchesOnly laneParts s (modCycle l (fun c => c.touch a) s) := (touches_modCycle l _ s).mono (by decide)
  unfold laneAdvance
  split
  · exact .refl _ s
  · exact (touches_armingAttempt l _ _ s).mono (by decide)
  · exact h.trans (touches_armedAdvance l a _)
  · exact h.trans (touches_leadinAdvance l a _)
  · exact h.trans (touches_takeAdvance l a _)
  · exact h.trans (touches_tailAdvance l a _)

theorem touches_laneLost (l : LaneId) (s : State) : TouchesOnly laneParts s (laneLost l s) := by
  unfold laneLost
  split
  · exact .refl _ s
  · exact .refl _ s
  · exact (touches_letGo l _ s).mono (by decide)
  · exact .ite _ (touches_endCycle l _ _ _ s) (touches_falseStart l s)
  · exact touches_endCycle l _ _ _ s
  · exact touches_endCycle l _ _ _ s

theorem touches_laneCancel (l : LaneId) (s : State) : TouchesOnly laneParts s (laneCancel l s) := by
  unfold laneCancel
  split
  · exact .refl _ s
  · exact .refl _ s
  · exact (touches_letGo l _ s).mono (by decide)
  · exact .ite _ (touches_endCycle l _ _ _ s) (touches_falseStart l s)
  · exact touches_endCycle l _ _ _ s
  · exact touches_endCycle l _ _ _ s

theorem touches_laneEnable (l : LaneId) (s : State) : TouchesOnly [.lanes] s (laneEnable l s) := by
  unfold laneEnable
  split
  all_goals first | exact .refl _ s | exact touches_setLane s l _

theorem touches_laneDisable (l : LaneId) (s : State) : TouchesOnly [.lanes, .loop, .ports] s (laneDisable l s) := by
  unfold laneDisable
  split
  all_goals first | exact .refl _ s | exact touches_letGo l _ s | exact (touches_setLane s l _).mono (by decide)

/-! ### The tracker's events -/

theorem touches_offered (s : State) (o : Offered) : TouchesOnly [.offered] s { s with offered := o } := by
  intro y hy; cases y <;> first | rfl | simp at hy

/-- The parts the receivers of the tracker's events may change. -/
def eventParts : List Part := [.table, .offered, .lanes, .handoffs, .marks, .punch, .links, .loop, .journal, .ports]

theorem touches_laneTakesAdvance (l : LaneId) (s : State) : TouchesOnly eventParts s (laneTakesAdvance l s) := by
  unfold laneTakesAdvance
  split
  · exact .refl _ s
  · exact .ite _ ((touches_offered s _).andThen (touches_laneAdvance l _ _)) (.refl _ s)

theorem touches_laneTakesLost (l : LaneId) (s : State) : TouchesOnly eventParts s (laneTakesLost l s) :=
  .ite _ ((touches_offered s _).andThen (touches_laneLost l _)) (.refl _ s)

theorem touches_marksTakeAdvance (s : State) : TouchesOnly eventParts s (marksTakeAdvance s) := by
  unfold marksTakeAdvance
  split
  · exact .refl _ s
  · exact .ite _ ((touches_offered s _).andThen (touches_marksAdvance _ _)) (.refl _ s)

theorem touches_punchTakesAdvance (s : State) : TouchesOnly eventParts s (punchTakesAdvance s) := by
  unfold punchTakesAdvance
  split
  · exact .refl _ s
  · exact .ite _ ((touches_offered s _).andThen (touches_punchAdvance _ _)) (.refl _ s)

theorem touches_loopTakesAdvance (s : State) : TouchesOnly eventParts s (loopTakesAdvance s) := by
  unfold loopTakesAdvance
  split
  · exact .refl _ s
  · exact .ite _ ((touches_offered s _).andThen (touches_loopTakeAdvance _ _)) (.refl _ s)

theorem touches_loopTakesRelock (s : State) : TouchesOnly eventParts s (loopTakesRelock s) := by
  unfold loopTakesRelock
  split
  · exact .ite _ ((touches_offered s _).andThen (touches_loopTakeLock _ _)) (.refl _ s)
  all_goals exact .refl _ s

theorem touches_loopTakesLock (s : State) : TouchesOnly eventParts s (loopTakesLock s) :=
  .ite _ ((touches_loopTakesRelock s).trans (touches_loopTakesAdvance _)) (.refl _ s)

theorem touches_loopTakesLost (s : State) : TouchesOnly eventParts s (loopTakesLost s) :=
  .ite _ ((touches_offered s _).andThen (touches_loopTakeLost _)) (.refl _ s)

/-- What is left of an event touches neither the tracker, the parameters, the grant, the line settings nor the queue. -/
theorem touches_settle (s : State) : TouchesOnly eventParts s (settle s) := by
  have h1 : TouchesOnly eventParts s (allLanes.foldl laneTakes s) :=
    TouchesOnly.foldl (fun s l => (touches_laneTakesAdvance l s).trans (touches_laneTakesLost l _)) _ s
  have h2 := h1.trans ((touches_runHandoffs _).mono (by decide))
  exact ((((h2.trans (touches_marksTakeAdvance _)).trans (touches_punchTakesAdvance _)).trans
    (touches_loopTakesAdvance _)).trans (touches_loopTakesRelock _)).trans (touches_loopTakesLost _)

theorem touches_tracker (s : State) (t : Tracker) : TouchesOnly [.tracker] s { s with tracker := t } := by
  intro y hy; cases y <;> first | rfl | simp at hy

theorem touches_trackerChange (x : TrackerStep) (s : State) : TouchesOnly [.tracker, .ports] s (trackerChange x s) := by
  unfold trackerChange
  split
  · exact (touches_tracker s _).mono (by decide)
  · exact (touches_tracker s _).andThen (touches_post _ _ _)

/-- The parts a word or an expiry of the tracker may change. -/
def trackerParts : List Part :=
  [.table, .tracker, .offered, .lanes, .handoffs, .marks, .punch, .links, .loop, .journal, .ports]

theorem touches_trackerApply (x : TrackerStep) (s : State) : TouchesOnly trackerParts s (trackerApply x s) := by
  unfold trackerApply
  split
  · exact (touches_trackerChange x s).mono (by decide)
  · exact (((touches_settle s).andThen (touches_trackerChange x _) (zs := trackerParts))).andThen (touches_offered _ _)

theorem touches_countBadWord (s : State) : TouchesOnly [.tracker] s (countBadWord s) := touches_tracker s _
theorem touches_setReceiver (s : State) (r : Option (List Byte)) : TouchesOnly [.tracker] s (s.setReceiver r) :=
  touches_tracker s _

theorem touches_takeWord (b : List Byte) (s : State) : TouchesOnly trackerParts s (takeWord b s) := by
  unfold takeWord
  split
  · exact (touches_countBadWord s).mono (by decide)
  · exact touches_trackerApply _ s

theorem touches_posinByte (s : State) (b : Byte) : TouchesOnly trackerParts s (posinByte s b) := by
  unfold posinByte
  split
  · exact .ite _ ((touches_setReceiver s _).mono (by decide)) (.refl _ s)
  · exact .ite _ ((touches_setReceiver s _).mono (by decide))
      (((touches_setReceiver s _).mono (by decide)).trans (touches_takeWord _ _))

theorem touches_abandonWord (s : State) : TouchesOnly [.tracker] s (abandonWord s) := by
  unfold abandonWord
  split
  · exact .refl _ s
  · exact (touches_setReceiver s _).trans (touches_countBadWord _)

theorem touches_waitExpiry (s : State) : TouchesOnly trackerParts s (waitExpiry s) :=
  .ite _ (touches_trackerApply _ s) (.refl _ s)
theorem touches_stepExpiry (s : State) : TouchesOnly trackerParts s (stepExpiry s) :=
  .ite _ (touches_trackerApply _ s) (.refl _ s)

theorem touches_locateExpiry (s : State) : TouchesOnly [.loop, .ports] s (locateExpiry s) := by
  unfold locateExpiry
  split
  · exact .refl _ s
  · exact .ite _ (touches_loopHalt _ _ _ s) (.refl _ s)

theorem touches_idleExpiry (s : State) : TouchesOnly [.table, .grant, .ports] s (idleExpiry s) := by
  unfold idleExpiry
  split
  · exact .refl _ s
  · exact .ite _ (touches_revoke _ _ s) (.refl _ s)

/-! ### The Line Unit -/

/-- The parts an input line's function may change. -/
def lineParts : List Part := [.table, .lanes, .loop, .journal, .lines, .ports]

theorem touches_lines (s : State) (x : Lines) : TouchesOnly [.lines] s { s with lines := x } := by
  intro y hy; cases y <;> first | rfl | simp at hy

theorem touches_activate (i : LineId) (x : InputLine) (s : State) : TouchesOnly lineParts s (activate i x s) := by
  unfold activate
  split
  · exact .refl _ s
  · split
    · exact (touches_setLane s _ _).mono (by decide)
    · exact .refl _ s
  · split
    · exact (touches_lines s _).mono (by decide)
    · exact .refl _ s
  · exact (touches_circleLast _ i s).mono (by decide)
  · exact (touches_loopStopActive _ s).mono (by decide)

theorem touches_acceptChange (i : LineId) (s : State) : TouchesOnly lineParts s (acceptChange i s) := by
  unfold acceptChange
  refine TouchesOnly.trans ?_ ((touches_post _ _ _).mono (by decide))
  exact ((touches_setInput s i _).mono (by decide)).trans (.ite _ (touches_activate i _ _) (.refl _ _))

theorem touches_sampleInput (i : LineId) (v : Level) (s : State) : TouchesOnly lineParts s (sampleInput i v s) :=
  .ite _ ((touches_setInput s i _).mono (by decide))
    (.ite _ ((touches_setInput s i _).mono (by decide)) (touches_acceptChange i s))

theorem touches_releaseToggle (s : State) : TouchesOnly [.lines] s (releaseToggle s) :=
  .ite _ (.refl _ s) (touches_lines s _)
theorem touches_setInputLine (i : LineId) (f : InputFunction) (t : Trigger) (v : Level) (n : Nat) (s : State) :
    TouchesOnly [.lines] s (setInputLine i f t v n s) := (touches_setInput s i _).trans (touches_releaseToggle _)
theorem touches_setOutputLine (o : LineId) (f : OutputFunction) (v : Level) (x : Span) (s : State) :
    TouchesOnly [.lines] s (setOutputLine o f v x s) := (touches_setOutput s o _).trans (touches_releaseToggle _)

/-! ### Client ports -/

theorem touches_attachPort (p : PortId) (s : State) : TouchesOnly [.links, .ports] s (attachPort p s) :=
  .ite _ (.refl _ s) ((touches_setPort s p _).andThen (touches_setLink _ p _))

/-- The parts a detach may change. -/
def detachParts : List Part := [.table, .grant, .lanes, .punch, .links, .loop, .ports]

theorem touches_detachPort (p : PortId) (s : State) : TouchesOnly detachParts s (detachPort p s) :=
  .ite _
    ((((touches_setPort s p _).andThen (touches_grantDetach p _) (zs := detachParts)).andThen (touches_punchDetach p _)
      (zs := detachParts)).andThen (touches_loopDetach p _))
    (.refl _ s)

theorem touches_acceptPresent (p : PortId) (v : Level) (s : State) : TouchesOnly detachParts s (acceptPresent p v s) := by
  unfold acceptPresent
  dsimp only
  generalize ht : s.setPort p _ = t
  refine TouchesOnly.trans (xs := detachParts) (ht ▸ (touches_setPort s p _).mono (by decide)) ?_
  split
  · exact (touches_attachPort p _).mono (by decide)
  · exact touches_detachPort p _

theorem touches_samplePresent (p : PortId) (v : Level) (s : State) : TouchesOnly detachParts s (samplePresent p v s) :=
  .ite _ ((touches_setPort s p _).mono (by decide))
    (.ite _ ((touches_setPort s p _).mono (by decide)) (touches_acceptPresent p v s))

theorem touches_hearAll (p : PortId) (cs : List RxChar) (s : State) : TouchesOnly [.ports] s (hearAll p cs s) :=
  touches_setPort s p _

theorem touches_takeUnknown (p : PortId) (k : Byte) (b : List Byte) (s : State) :
    TouchesOnly [.grant, .ports] s (takeUnknown p k b s) :=
  .ite _ (((touches_setPort s p _).trans (touches_setPort _ p _)).andThen (touches_restartIdle p _)) (.refl _ s)

theorem touches_takeFrameError (p : PortId) (s : State) : TouchesOnly [.ports] s (takeFrameError p s) := by
  unfold takeFrameError
  split
  · exact .refl _ s
  · exact .ite _ ((touches_setPort s p _).trans (touches_setPort _ p _)) (.refl _ s)

theorem touches_noticeTaken (n : PriorityNotice) (s : State) : TouchesOnly [.punch, .loop] s (noticeTaken n s) := by
  unfold noticeTaken
  split
  · exact (touches_punchInTaken _ s).mono (by decide)
  · exact .refl _ s
  · exact (touches_loopLocateTaken _ s).mono (by decide)
  · exact .refl _ s

theorem touches_transmitNext (p : PortId) (s : State) : TouchesOnly [.punch, .loop, .ports] s (transmitNext p s) := by
  unfold transmitNext
  dsimp only
  refine .ite _ ?_ (.refl _ s)
  split
  · exact (touches_setPort s p _).andThen (touches_noticeTaken _ _)
  · exact (touches_setPort s p _).mono (by decide)
  · exact .refl _ s

theorem touches_transmitEnd (p : PortId) (s : State) : TouchesOnly [.ports] s (transmitEnd p s) := by
  unfold transmitEnd
  dsimp only
  split
  · exact .refl _ s
  · exact touches_setPort s p _

/-- A request touches its own block's parts, the grant's timer and the ports. -/
theorem touches_takeRequest {xs : List Part} (p : PortId) (k : Request) (body : List Byte) (block : State → State × Reply)
    (h : ∀ s, TouchesOnly xs s (block s).1) (hg : Part.grant ∈ xs) (hp : Part.ports ∈ xs) (s : State) :
    TouchesOnly xs s (takeRequest p k body block s) := by
  have hports : ∀ {a b : State}, TouchesOnly [.ports] a b → TouchesOnly xs a b := fun h' =>
    h'.mono (by intro x hx; simp at hx; exact hx ▸ hp)
  have hgrant : ∀ {a b : State}, TouchesOnly [.grant] a b → TouchesOnly xs a b := fun h' =>
    h'.mono (by intro x hx; simp at hx; exact hx ▸ hg)
  unfold takeRequest
  refine .ite _ ?_ (.refl _ s)
  dsimp only
  have hd : TouchesOnly xs s (s.dropItem p) := hports (touches_setPort s p _)
  refine hd.trans (TouchesOnly.trans ?_ (hgrant (touches_restartIdle p _)))
  have ha : ∀ (t : State) (b : Answer), TouchesOnly xs t (t.placeAnswer p b) := fun t b => hports (touches_setPort t p _)
  refine TouchesOnly.trans ?_ (ha _ _)
  unfold judge
  split
  · exact .refl _ _
  · split
    · exact .refl _ _
    · split
      · exact .refl _ _
      · exact h _

end Sys2Proof.Machine
end

