-- ==== Sys2Proof/Laws/MarkFlags.lean ====
section
/-! SUPPORT. Laws/MarkFlags.lean: what the Mark Generator and the Overlay Arbiter can do to the lanes: add flags to the cycle records
(R104, R106), nothing else. -/

namespace Sys2Proof.Machine

/-- Every lane is as before, but for the flags of its cycle record. -/
def FlagsOnly (s t : State) : Prop :=
  ∀ k : LaneId, ∃ f : Flags → Flags,
    t.lane k = { s.lane k with cycle := (s.lane k).cycle.map fun c => { c with flags := f c.flags } }

theorem FlagsOnly.of_lanes {s t : State} (h : t.lanes = s.lanes) : FlagsOnly s t := fun k => by
  refine ⟨id, ?_⟩
  have e : t.lane k = s.lane k := by simp only [State.lane, h]
  rw [e]
  cases hc : (s.lane k).cycle <;> simp [← hc]

theorem FlagsOnly.refl (s : State) : FlagsOnly s s := .of_lanes rfl

theorem FlagsOnly.trans {s t u : State} (h : FlagsOnly s t) (h' : FlagsOnly t u) : FlagsOnly s u := fun k => by
  obtain ⟨f, hf⟩ := h k
  obtain ⟨g, hg⟩ := h' k
  refine ⟨fun x => g (f x), ?_⟩
  rw [hg, hf]
  simp only [Option.map_map]
  rfl

theorem FlagsOnly.ite (p : Prop) [Decidable p] {s t u : State} (h : FlagsOnly s t) (h' : FlagsOnly s u) :
    FlagsOnly s (if p then t else u) := by
  split
  · exact h
  · exact h'

theorem FlagsOnly.foldl {α : Type} {f : State → α → State} (h : ∀ s x, FlagsOnly s (f s x)) :
    ∀ (xs : List α) (s : State), FlagsOnly s (xs.foldl f s)
  | [], s => .refl s
  | x :: xs, s => (h s x).trans (FlagsOnly.foldl h xs (f s x))

/-- What the lane holds after: its mode, pin and cue are as before. -/
theorem FlagsOnly.cycle {s t : State} (h : FlagsOnly s t) {k : LaneId} {c : CycleRecord} (hc : (s.lane k).cycle = some c) :
    ∃ flags : Flags, t.lane k = { s.lane k with cycle := some { c with flags := flags } } := by
  obtain ⟨f, hf⟩ := h k
  exact ⟨f c.flags, by rw [hf, hc]; rfl⟩

theorem flagsOnly_addMarkFlag (l : LaneId) (n : Nat) (f : Flags → Flags) (s : State) : FlagsOnly s (addMarkFlag l n f s) := by
  refine .ite _ (fun k => ?_) (.refl s)
  by_cases h : l = k
  · subst h
    exact ⟨f, by simp [modCycle]⟩
  · obtain ⟨g, hg⟩ := FlagsOnly.refl s k
    exact ⟨g, by rw [modCycle, State.lane_setLane_ne _ _ _ _ h]; exact hg⟩

theorem flagsOnly_dropWipe (l : LaneId) (n : Nat) (s : State) : FlagsOnly s (dropWipe l n s) :=
  (FlagsOnly.of_lanes rfl).trans (flagsOnly_addMarkFlag l n _ _)

theorem flagsOnly_grantChannel (l : LaneId) (c : ChannelId) (p : Nat) (s : State) : FlagsOnly s (grantChannel l c p s) := by
  unfold grantChannel
  split
  · exact .refl s
  · exact .ite _ ((FlagsOnly.of_lanes rfl).trans (flagsOnly_addMarkFlag l _ _ _)) (.of_lanes rfl)

theorem flagsOnly_decisionGrants (n p : Nat) (s : State) : FlagsOnly s (decisionGrants n p s) := by
  induction n generalizing s with
  | zero => exact .refl s
  | succ n ih =>
    unfold decisionGrants
    split
    · exact (flagsOnly_grantChannel _ _ p s).trans (ih _)
    · exact .refl s

theorem flagsOnly_decisionPass (p : Nat) (s : State) : FlagsOnly s (decisionPass p s) := flagsOnly_decisionGrants 4 p s

theorem flagsOnly_evaluateBidding (l : LaneId) (m : MarkSetup) (p : Nat) (s : State) : FlagsOnly s (evaluateBidding l m p s) :=
  .ite _ (flagsOnly_dropWipe l _ s) (.of_lanes rfl)

theorem flagsOnly_evaluateBid (l : LaneId) (m : MarkSetup) (p : Nat) (s : State) : FlagsOnly s (evaluateBid l m p s) := by
  unfold evaluateBid
  split
  · exact .refl s
  · exact .ite _ (flagsOnly_evaluateBidding l m p s) (.refl s)
  · exact flagsOnly_evaluateBidding l m p s
  · exact .of_lanes (touches_evaluateHolding l _ m p s .lanes (by decide))
  · exact .refl s

theorem flagsOnly_evaluateLane (p : Nat) (s : State) (l : LaneId) : FlagsOnly s (evaluateLane p s l) := by
  unfold evaluateLane
  dsimp only
  split
  · exact .refl s
  · exact .ite _ (.refl s) ((FlagsOnly.of_lanes rfl).trans (flagsOnly_evaluateBid l _ p _))

theorem flagsOnly_evaluateLanes (ls : List LaneId) (p : Nat) (s : State) : FlagsOnly s (evaluateLanes ls p s) :=
  (FlagsOnly.foldl (flagsOnly_evaluateLane p) ls s).trans (.of_lanes rfl)

theorem flagsOnly_marksAdvance (p : Nat) (s : State) : FlagsOnly s (marksAdvance p s) := by
  unfold marksAdvance
  refine (flagsOnly_evaluateLanes allLanes p s).trans ?_
  generalize evaluateLanes allLanes p s = u
  exact (FlagsOnly.of_lanes rfl).trans (flagsOnly_decisionPass p _)

theorem flagsOnly_markStart (l : LaneId) (m : MarkSetup) (p : Nat) (s : State) : FlagsOnly s (markStart l m p s) := by
  unfold markStart
  dsimp only
  have h : FlagsOnly s (s.setMarkLane l (startedMarkLane m)) := .of_lanes rfl
  refine h.trans ?_
  generalize s.setMarkLane l (startedMarkLane m) = t
  split
  · exact .refl t
  · refine (flagsOnly_evaluateLanes [l] p t).trans ?_
    generalize evaluateLanes [l] p t = u
    exact .ite _ (flagsOnly_decisionPass p u) (.refl u)

theorem flagsOnly_dropAtExit (l : LaneId) (b : Bool) (s : State) : FlagsOnly s (dropAtExit l b s) := by
  unfold dropAtExit
  split
  · exact .refl s
  · exact .ite _ (flagsOnly_dropWipe l _ s) (.refl s)

theorem flagsOnly_markEnd (l : LaneId) (b : Bool) (s : State) : FlagsOnly s (markEnd l b s) := by
  unfold markEnd
  split
  · exact (flagsOnly_dropAtExit l b s).trans (.of_lanes rfl)
  · exact (FlagsOnly.of_lanes rfl).trans (flagsOnly_decisionPass _ _)

theorem flagsOnly_takeStartHandoff (l : LaneId) (s : State) : FlagsOnly s (takeStartHandoff l s) := by
  unfold takeStartHandoff
  split
  · exact .refl s
  · exact (FlagsOnly.of_lanes rfl).trans (flagsOnly_markStart _ _ _ _)
  · exact .refl s

theorem flagsOnly_takeEndHandoff (l : LaneId) (s : State) : FlagsOnly s (takeEndHandoff l s) := by
  unfold takeEndHandoff
  split
  · exact .refl s
  · exact (FlagsOnly.of_lanes rfl).trans (flagsOnly_markEnd _ _ _)
  · exact .refl s

/-- The cycle whose end the Mark Generator is told of is the same one after, with the flags its marks left (R89, step 2). -/
theorem flagsOnly_endMarks (l : LaneId) (told : Bool) (s : State) : FlagsOnly s (endMarks l told s) :=
  .ite _ (flagsOnly_takeEndHandoff l s) (.of_lanes rfl)

end Sys2Proof.Machine
end

