-- ==== Sys2Proof/Laws/PerInstr.lean ====
section
/-! SUPPORT. Laws/PerInstr.lean: for each command, what its well-formedness says of its operands: the length of a word, of a frame
or of a body (R41, R176, 11.1). -/

namespace Sys2Proof.Laws.BodyRule

set_option Elab.async false

/-- The rule of each command's operands. -/
def rule (i : Instr) : Prop :=
  match i with
  | .resetAssert => True
  | .resetRelease _ _ _ => True
  | .positionWord bytes => bytes.length = 7
  | .wordGapTimeout bytes => bytes.length ≤ 6
  | .wordWaitExpiry => True
  | .freewheelStepExpiry => True
  | .lanePositionAdvance _ => True
  | .laneRollLost _ => True
  | .punchPositionAdvance => True
  | .markStartHandoff _ => True
  | .markEndHandoff _ => True
  | .markPositionAdvance => True
  | .overlayWord => True
  | .loopPositionAdvance => True
  | .loopLockEntry => True
  | .loopRollLost => True
  | .locateTimerExpiry => True
  | .grantIdleExpiry => True
  | .inputLineChange _ => True
  | .portAttach _ => True
  | .portDetach _ => True
  | .receiveFrame _ chars => 1 ≤ chars.length ∧ chars.length ≤ 67
  | .interByteTimeout _ bytes => bytes.length ≤ 66
  | .frameError _ => True
  | .unknownKind _ kind body => kind.toNat ∉ requestCodes ∧ body.length ≤ 63
  | .transmitTake _ => True
  | .transmitComplete _ => True
  | .identify _ body => body.length ≤ 63
  | .portStatus _ body => body.length ≤ 63
  | .configurePort _ body => body.length ≤ 63
  | .fetchNotices _ body => body.length ≤ 63
  | .setParameters _ body => body.length ≤ 63
  | .readParameters _ body => body.length ≤ 63
  | .requestGrant _ body => body.length ≤ 63
  | .releaseGrant _ body => body.length ≤ 63
  | .tableStatus _ body => body.length ≤ 63
  | .insertCue _ body => body.length ≤ 63
  | .amendCue _ body => body.length ≤ 63
  | .deleteCue _ body => body.length ≤ 63
  | .holdCue _ body => body.length ≤ 63
  | .clearTable _ body => body.length ≤ 63
  | .readCue _ body => body.length ≤ 63
  | .nextCue _ body => body.length ≤ 63
  | .setProfile _ body => body.length ≤ 63
  | .readProfile _ body => body.length ≤ 63
  | .setLane _ body => body.length ≤ 63
  | .readLane _ body => body.length ≤ 63
  | .enableLane _ body => body.length ≤ 63
  | .disableLane _ body => body.length ≤ 63
  | .cancelLane _ body => body.length ≤ 63
  | .clearStage _ body => body.length ≤ 63
  | .trackerStatus _ body => body.length ≤ 63
  | .ready _ body => body.length ≤ 63
  | .tally _ body => body.length ≤ 63
  | .reconfirm _ body => body.length ≤ 63
  | .startLoop _ body => body.length ≤ 63
  | .stopLoop _ body => body.length ≤ 63
  | .readLoop _ body => body.length ≤ 63
  | .readJournal _ body => body.length ≤ 63
  | .circleTake _ body => body.length ≤ 63
  | .uncircleTake _ body => body.length ≤ 63
  | .trimJournal _ body => body.length ≤ 63
  | .setLine _ body => body.length ≤ 63
  | .readLines _ body => body.length ≤ 63
  | .wordByteWithoutStopBit bytes => bytes.length ≤ 6
  | .inputSample _ _ => True
  | .presentSample _ _ => True

/-- A body fits a frame when it has at most 63 bytes. -/
theorem bodyFits_iff (body : List Byte) : bodyFits body = true ↔ body.length ≤ 63 := decide_eq_true_iff

/-- A command is well-formed exactly when its operands keep to their rule. -/
def Statement (i : Instr) : Prop := WellFormed i = true ↔ rule i

theorem resetAssert : Statement (.resetAssert) := by
  simp [Statement, rule, WellFormed]

theorem resetRelease (o2 o1 o0 : Level) : Statement (.resetRelease o2 o1 o0) := by
  simp [Statement, rule, WellFormed]

theorem positionWord (bytes : List Byte) : Statement (.positionWord bytes) := by
  simp [Statement, rule, WellFormed]

theorem wordGapTimeout (bytes : List Byte) : Statement (.wordGapTimeout bytes) := by
  simp [Statement, rule, WellFormed]

theorem wordWaitExpiry : Statement (.wordWaitExpiry) := by
  simp [Statement, rule, WellFormed]

theorem freewheelStepExpiry : Statement (.freewheelStepExpiry) := by
  simp [Statement, rule, WellFormed]

theorem lanePositionAdvance (l : LaneId) : Statement (.lanePositionAdvance l) := by
  simp [Statement, rule, WellFormed]

theorem laneRollLost (l : LaneId) : Statement (.laneRollLost l) := by
  simp [Statement, rule, WellFormed]

theorem punchPositionAdvance : Statement (.punchPositionAdvance) := by
  simp [Statement, rule, WellFormed]

theorem markStartHandoff (l : LaneId) : Statement (.markStartHandoff l) := by
  simp [Statement, rule, WellFormed]

theorem markEndHandoff (l : LaneId) : Statement (.markEndHandoff l) := by
  simp [Statement, rule, WellFormed]

theorem markPositionAdvance : Statement (.markPositionAdvance) := by
  simp [Statement, rule, WellFormed]

theorem overlayWord : Statement (.overlayWord) := by
  simp [Statement, rule, WellFormed]

theorem loopPositionAdvance : Statement (.loopPositionAdvance) := by
  simp [Statement, rule, WellFormed]

theorem loopLockEntry : Statement (.loopLockEntry) := by
  simp [Statement, rule, WellFormed]

theorem loopRollLost : Statement (.loopRollLost) := by
  simp [Statement, rule, WellFormed]

theorem locateTimerExpiry : Statement (.locateTimerExpiry) := by
  simp [Statement, rule, WellFormed]

theorem grantIdleExpiry : Statement (.grantIdleExpiry) := by
  simp [Statement, rule, WellFormed]

theorem inputLineChange (i : LineId) : Statement (.inputLineChange i) := by
  simp [Statement, rule, WellFormed]

theorem portAttach (p : PortId) : Statement (.portAttach p) := by
  simp [Statement, rule, WellFormed]

theorem portDetach (p : PortId) : Statement (.portDetach p) := by
  simp [Statement, rule, WellFormed]

theorem receiveFrame (p : PortId) (chars : List RxChar) : Statement (.receiveFrame p chars) := by
  simp [Statement, rule, WellFormed]

theorem interByteTimeout (p : PortId) (bytes : List Byte) : Statement (.interByteTimeout p bytes) := by
  simp [Statement, rule, WellFormed]

theorem frameError (p : PortId) : Statement (.frameError p) := by
  simp [Statement, rule, WellFormed]

theorem unknownKind (p : PortId) (kind : Byte) (body : List Byte) : Statement (.unknownKind p kind body) := by
  simp [Statement, rule, WellFormed, bodyFits_iff]

theorem transmitTake (p : PortId) : Statement (.transmitTake p) := by
  simp [Statement, rule, WellFormed]

theorem transmitComplete (p : PortId) : Statement (.transmitComplete p) := by
  simp [Statement, rule, WellFormed]

theorem identify (p : PortId) (body : List Byte) : Statement (.identify p body) := by
  simp [Statement, rule, WellFormed, bodyFits_iff]

theorem portStatus (p : PortId) (body : List Byte) : Statement (.portStatus p body) := by
  simp [Statement, rule, WellFormed, bodyFits_iff]

theorem configurePort (p : PortId) (body : List Byte) : Statement (.configurePort p body) := by
  simp [Statement, rule, WellFormed, bodyFits_iff]

theorem fetchNotices (p : PortId) (body : List Byte) : Statement (.fetchNotices p body) := by
  simp [Statement, rule, WellFormed, bodyFits_iff]

theorem setParameters (p : PortId) (body : List Byte) : Statement (.setParameters p body) := by
  simp [Statement, rule, WellFormed, bodyFits_iff]

theorem readParameters (p : PortId) (body : List Byte) : Statement (.readParameters p body) := by
  simp [Statement, rule, WellFormed, bodyFits_iff]

theorem requestGrant (p : PortId) (body : List Byte) : Statement (.requestGrant p body) := by
  simp [Statement, rule, WellFormed, bodyFits_iff]

theorem releaseGrant (p : PortId) (body : List Byte) : Statement (.releaseGrant p body) := by
  simp [Statement, rule, WellFormed, bodyFits_iff]

theorem tableStatus (p : PortId) (body : List Byte) : Statement (.tableStatus p body) := by
  simp [Statement, rule, WellFormed, bodyFits_iff]

theorem insertCue (p : PortId) (body : List Byte) : Statement (.insertCue p body) := by
  simp [Statement, rule, WellFormed, bodyFits_iff]

theorem amendCue (p : PortId) (body : List Byte) : Statement (.amendCue p body) := by
  simp [Statement, rule, WellFormed, bodyFits_iff]

theorem deleteCue (p : PortId) (body : List Byte) : Statement (.deleteCue p body) := by
  simp [Statement, rule, WellFormed, bodyFits_iff]

theorem holdCue (p : PortId) (body : List Byte) : Statement (.holdCue p body) := by
  simp [Statement, rule, WellFormed, bodyFits_iff]

theorem clearTable (p : PortId) (body : List Byte) : Statement (.clearTable p body) := by
  simp [Statement, rule, WellFormed, bodyFits_iff]

theorem readCue (p : PortId) (body : List Byte) : Statement (.readCue p body) := by
  simp [Statement, rule, WellFormed, bodyFits_iff]

theorem nextCue (p : PortId) (body : List Byte) : Statement (.nextCue p body) := by
  simp [Statement, rule, WellFormed, bodyFits_iff]

theorem setProfile (p : PortId) (body : List Byte) : Statement (.setProfile p body) := by
  simp [Statement, rule, WellFormed, bodyFits_iff]

theorem readProfile (p : PortId) (body : List Byte) : Statement (.readProfile p body) := by
  simp [Statement, rule, WellFormed, bodyFits_iff]

theorem setLane (p : PortId) (body : List Byte) : Statement (.setLane p body) := by
  simp [Statement, rule, WellFormed, bodyFits_iff]

theorem readLane (p : PortId) (body : List Byte) : Statement (.readLane p body) := by
  simp [Statement, rule, WellFormed, bodyFits_iff]

theorem enableLane (p : PortId) (body : List Byte) : Statement (.enableLane p body) := by
  simp [Statement, rule, WellFormed, bodyFits_iff]

theorem disableLane (p : PortId) (body : List Byte) : Statement (.disableLane p body) := by
  simp [Statement, rule, WellFormed, bodyFits_iff]

theorem cancelLane (p : PortId) (body : List Byte) : Statement (.cancelLane p body) := by
  simp [Statement, rule, WellFormed, bodyFits_iff]

theorem clearStage (p : PortId) (body : List Byte) : Statement (.clearStage p body) := by
  simp [Statement, rule, WellFormed, bodyFits_iff]

theorem trackerStatus (p : PortId) (body : List Byte) : Statement (.trackerStatus p body) := by
  simp [Statement, rule, WellFormed, bodyFits_iff]

theorem ready (p : PortId) (body : List Byte) : Statement (.ready p body) := by
  simp [Statement, rule, WellFormed, bodyFits_iff]

theorem tally (p : PortId) (body : List Byte) : Statement (.tally p body) := by
  simp [Statement, rule, WellFormed, bodyFits_iff]

theorem reconfirm (p : PortId) (body : List Byte) : Statement (.reconfirm p body) := by
  simp [Statement, rule, WellFormed, bodyFits_iff]

theorem startLoop (p : PortId) (body : List Byte) : Statement (.startLoop p body) := by
  simp [Statement, rule, WellFormed, bodyFits_iff]

theorem stopLoop (p : PortId) (body : List Byte) : Statement (.stopLoop p body) := by
  simp [Statement, rule, WellFormed, bodyFits_iff]

theorem readLoop (p : PortId) (body : List Byte) : Statement (.readLoop p body) := by
  simp [Statement, rule, WellFormed, bodyFits_iff]

theorem readJournal (p : PortId) (body : List Byte) : Statement (.readJournal p body) := by
  simp [Statement, rule, WellFormed, bodyFits_iff]

theorem circleTake (p : PortId) (body : List Byte) : Statement (.circleTake p body) := by
  simp [Statement, rule, WellFormed, bodyFits_iff]

theorem uncircleTake (p : PortId) (body : List Byte) : Statement (.uncircleTake p body) := by
  simp [Statement, rule, WellFormed, bodyFits_iff]

theorem trimJournal (p : PortId) (body : List Byte) : Statement (.trimJournal p body) := by
  simp [Statement, rule, WellFormed, bodyFits_iff]

theorem setLine (p : PortId) (body : List Byte) : Statement (.setLine p body) := by
  simp [Statement, rule, WellFormed, bodyFits_iff]

theorem readLines (p : PortId) (body : List Byte) : Statement (.readLines p body) := by
  simp [Statement, rule, WellFormed, bodyFits_iff]

theorem wordByteWithoutStopBit (bytes : List Byte) : Statement (.wordByteWithoutStopBit bytes) := by
  simp [Statement, rule, WellFormed]

theorem inputSample (i : LineId) (level : Level) : Statement (.inputSample i level) := by
  simp [Statement, rule, WellFormed]

theorem presentSample (p : PortId) (level : Level) : Statement (.presentSample p level) := by
  simp [Statement, rule, WellFormed]

end Sys2Proof.Laws.BodyRule
end

