-- ==== Sys2Proof/Laws/Requests.lean ====
section
/-! SUPPORT. Laws/Requests.lean: what a port does with a request, said once for all 37 kinds: the command is `takeRequest` with
the kind's block; an admitted request reaches its block; one that cannot be taken changes nothing; the three refusals of R178. -/

namespace Sys2Proof.Machine

/-- The block that owns a kind, on the state without the item. -/
def Request.block (k : Request) (p : PortId) (body : List Byte) : State → State × Reply :=
  match k with
  | .identify => answerIdentify
  | .portStatus => answerPortStatus p body
  | .configurePort => answerConfigurePort p body
  | .fetchNotices => answerFetch p
  | .setParameters => answerSetParameters body
  | .readParameters => answerReadParameters
  | .requestGrant => answerRequestGrant p
  | .releaseGrant => answerReleaseGrant p
  | .tableStatus => answerTableStatus
  | .insertCue => answerInsert body
  | .amendCue => answerAmend body
  | .deleteCue => answerDelete body
  | .holdCue => answerHold body
  | .clearTable => answerClearTable
  | .readCue => answerReadCue body
  | .nextCue => answerNextCue body
  | .setProfile => answerSetProfile body
  | .readProfile => answerReadProfile body
  | .setLane => answerSetLane body
  | .readLane => answerReadLane body
  | .enableLane => answerEnable body
  | .disableLane => answerDisable body
  | .cancelLane => answerCancel body
  | .clearStage => answerClearStage
  | .trackerStatus => answerTrackerStatus
  | .ready => answerReady p body
  | .tally => answerTally p body
  | .reconfirm => answerReconfirm p
  | .startLoop => answerStartLoop body
  | .stopLoop => answerStopLoop body
  | .readLoop => answerReadLoop body
  | .readJournal => answerReadJournal body
  | .circleTake => answerCircle p body
  | .uncircleTake => answerUncircle p body
  | .trimJournal => answerTrim body
  | .setLine => answerSetLine body
  | .readLines => answerReadLines

/-- Every request's command is `takeRequest` with the kind's block. -/
theorem exec_command (k : Request) (p : PortId) (body : List Byte) (s : State) :
    exec (k.command p body) s = .next (takeRequest p k body (k.block p body) s) := by
  cases k <;> rfl

/-- Taking the item leaves all but the port's queue. -/
theorem dropItem_port (s : State) (p q : PortId) :
    (s.dropItem p).port q = if p = q then { s.port p with receiveQueue := (s.port p).receiveQueue.tail } else s.port q := by
  unfold State.dropItem State.setPort State.port
  by_cases h : p = q
  · subst h; simp
  · have : p.val ≠ q.val := fun h' => h (Fin.ext h')
    simp [h, Vector.getElem_set_ne _ _ this]

@[simp] theorem dropItem_roles (s : State) (p q : PortId) : ((s.dropItem p).port q).roles = (s.port q).roles := by
  rw [dropItem_port]; split
  · next h => subst h; rfl
  · rfl

@[simp] theorem dropItem_attached (s : State) (p q : PortId) : ((s.dropItem p).port q).attached = (s.port q).attached := by
  rw [dropItem_port]; split
  · next h => subst h; rfl
  · rfl

@[simp] theorem dropItem_grant (s : State) (p : PortId) : (s.dropItem p).grant = s.grant := rfl
@[simp] theorem dropItem_table (s : State) (p : PortId) : (s.dropItem p).table = s.table := rfl
@[simp] theorem dropItem_params (s : State) (p : PortId) : (s.dropItem p).params = s.params := rfl
@[simp] theorem dropItem_tracker (s : State) (p : PortId) : (s.dropItem p).tracker = s.tracker := rfl
@[simp] theorem dropItem_lanes (s : State) (p : PortId) : (s.dropItem p).lanes = s.lanes := rfl
@[simp] theorem dropItem_lane (s : State) (p : PortId) (l : LaneId) : (s.dropItem p).lane l = s.lane l := rfl
@[simp] theorem dropItem_punchOf (s : State) (p : PortId) (l : LaneId) : (s.dropItem p).punchOf l = s.punchOf l := rfl
@[simp] theorem dropItem_link (s : State) (p q : PortId) : (s.dropItem p).link q = s.link q := rfl
@[simp] theorem dropItem_group (s : State) (p : PortId) (g : GroupId) : (s.dropItem p).group g = s.group g := rfl
@[simp] theorem dropItem_loop (s : State) (p : PortId) : (s.dropItem p).loop = s.loop := rfl
@[simp] theorem dropItem_activeGroup (s : State) (p : PortId) : (s.dropItem p).activeGroup = s.activeGroup := rfl
@[simp] theorem dropItem_record (s : State) (p : PortId) (n : Nat) : (s.dropItem p).record n = s.record n := rfl
@[simp] theorem dropItem_isPinned (s : State) (p : PortId) (n : Nat) : (s.dropItem p).isPinned n = s.isPinned n := rfl
@[simp] theorem dropItem_journal (s : State) (p : PortId) : (s.dropItem p).journal = s.journal := rfl
@[simp] theorem dropItem_lines (s : State) (p : PortId) : (s.dropItem p).lines = s.lines := rfl
@[simp] theorem dropItem_marks (s : State) (p : PortId) : (s.dropItem p).marks = s.marks := rfl

/-- A port that can take a request may take its item. -/
theorem mayTake_iff (s : State) (p : PortId) (k : Request) (body : List Byte) :
    (s.resetHeld = false ∧ (s.port p).mayTake (.request k.code body) = true) ↔ s.canTake p k body := by
  unfold State.canTake Port.mayTake
  simp [and_assoc]

/-- A request that the port cannot take changes nothing. -/
theorem takeRequest_of_not_canTake {s : State} {p : PortId} {k : Request} {body : List Byte} (f : State → State × Reply)
    (h : ¬s.canTake p k body) : takeRequest p k body f s = s := by
  rw [← mayTake_iff] at h
  simp only [takeRequest, if_neg h]

/-- A request that the port can take is judged on the state without its item. -/
theorem takeRequest_of_canTake {s : State} {p : PortId} {k : Request} {body : List Byte} (f : State → State × Reply)
    (h : s.canTake p k body) :
    takeRequest p k body f s =
      restartIdle p ((judge p k body f (s.dropItem p)).1.placeAnswer p (k.answer (judge p k body f (s.dropItem p)).2)) := by
  rw [← mayTake_iff] at h
  simp only [takeRequest, if_pos h]

/-- A request of the right length with the role and the grant it needs reaches its block. -/
theorem judge_of_admits {s : State} {p : PortId} {k : Request} {body : List Byte} (f : State → State × Reply)
    (h : s.admits p k body) : judge p k body f (s.dropItem p) = f (s.dropItem p) := by
  obtain ⟨-, h2, h3, h4⟩ := h
  unfold judge
  rw [if_neg (by simp [h2]), if_neg (by simp [h3]), if_neg]
  rintro ⟨h5, h6⟩
  exact h6 (h4 h5)

/-- The whole next state of an admitted request whose block brings no new rate. -/
theorem answers_of_block {s t : State} {p : PortId} {k : Request} {body : List Byte} {x : Status} {fields : List Byte}
    (h : s.admits p k body) (hb : k.block p body (s.dropItem p) = (t, { status := x, fields := fields, newRate := none })) :
    Answers k p body s t (num1 x.code ++ fields) := by
  unfold Answers
  rw [exec_command, takeRequest_of_canTake _ h.1, judge_of_admits _ h, hb]
  rfl

end Sys2Proof.Machine
end

