-- ==== Sys2Proof/Tests/Slice0.lean ====
section
/-! SUPPORT. Tests/Slice0.lean: ill-formed terms that the check refuses, one step of each command on a small state, and for each
statement with hypotheses a state and operands that meet them. -/

namespace Sys2Proof.Tests

open Sys2Proof.Machine

set_option Elab.async false

/-! ### WellFormed refuses -/

theorem test_wellFormed_refuses :
    WellFormed (.positionWord [0xC5]) = false ∧ WellFormed (.positionWord [0xC5, 5, 0, 3, 0xEB, 1, 0x0C]) = true ∧
      WellFormed (.wordGapTimeout [1, 2, 3, 4, 5, 6, 7]) = false ∧
      WellFormed (.wordByteWithoutStopBit [1, 2, 3, 4, 5, 6, 7]) = false ∧ WellFormed (.receiveFrame 0 []) = false ∧
      WellFormed (.receiveFrame 0 (List.replicate 68 { byte := 0, stop := true })) = false ∧
      WellFormed (.interByteTimeout 0 (List.replicate 67 0)) = false ∧ WellFormed (.unknownKind 0 0x23 []) = false ∧
      WellFormed (.unknownKind 0 0x07 (List.replicate 64 0)) = false ∧ WellFormed (.unknownKind 0 0x07 []) = true := by
  decide

theorem test_wellFormed_refuses_long_bodies (k : Request) (p : PortId) :
    WellFormed (k.command p (List.replicate 64 0)) = false ∧ WellFormed (k.command p (List.replicate 63 0)) = true := by
  cases k <;> exact ⟨rfl, rfl⟩

/-! ### Small states -/

/-- The state that one command leaves. -/
def out (c : Instr) (s : State) : State :=
  match exec c s with
  | .next t => t
  | .fault _ => s
  | .refused _ => s

/-- A port attached with all three roles. -/
def up (p : PortId) (s : State) : State :=
  s.setPort p
    { s.port p with attached := true, presentLevel := .high, roles := { edit := true, record := true, transport := true } }

/-- Ports P0 and P1 attached. -/
def desk : State := up 1 (up 0 State.reset)

/-- P0 holds the grant with changes, P1 waits. -/
def held : State :=
  { desk with grant := { holder := some 0, waiting := [1], changed := true, idle := .running 10000 } }

/-- RESET is held. -/
def inReset : State := { State.reset with resetHeld := true }

def cueA : CueRecord where
  number := 301
  lane := 0
  reel := 7
  inFrame := 2000
  outFrame := 2100
  profile := 0
  group := some 2
  character := 9
  record := true
  hold := false
  takeLimit := 5
  takeCount := 0
  circled := none
  slate := [0x41]

def cueB : CueRecord := { cueA with number := 304, inFrame := 2182, outFrame := 2240 }

/-- Two cues of lane L0 and of group 3, in a CONFIRMED table. -/
def booked (s : State) : State := { s with table := { s.table with records := [cueA, cueB], confirmed := true } }

/-- The cycle record of the first cue, its take not begun. -/
def cycleA : CycleRecord where
  cue := 301
  reel := 7
  leadIn := 1928
  punchIn := 1952
  markRef := 2000
  inFrame := 2000
  outFrame := 2100
  cycleEnd := 2124
  profile := 0
  record := true
  character := 9
  slate := [0x41]
  begun := false
  take := none
  begin := none
  last := 1927
  loop := none
  broken := false
  flags := Flags.empty

/-- Its take begun at the punch-in point. -/
def begunA : CycleRecord := { cycleA with begun := true, take := some 1, begin := some 1952, last := 1960 }

/-- A lane in a state with a cycle record, recording to P1, pips on T0. -/
def laneAt (m : LaneMode) (y : Option CycleRecord) : Lane where
  routing := { recordPort := some 1, tone := some 0, colour := 0, priority := 8, advance := 0, requireReady := false }
  mode := m
  pinned := y.map fun c => c.cue
  cycle := y
  readyLatch := false
  closing := false
  falseStarts := 0

/-- Lane L0 in a state, over the two cues. -/
def onStage (m : LaneMode) (y : Option CycleRecord) : State := (booked held).setLane 0 (laneAt m y)

/-- An advance to a frame of reel 7 that every receiver has still to take. -/
def advanceAt (frame : Nat) : Advance := { reel := 7, frame := frame, freewheel := false, lock := none }
def offering (frame : Nat) (s : State) : State := { s with offered := offeredOf (.advance (advanceAt frame)) }

/-- A roll lost that every receiver has still to take. -/
def jumped : RollLost := { cause := .jump, mode := .acquiring, position := some { reel := 7, frame := 5 } }
def losing (s : State) : State := { s with offered := offeredOf (.lost jumped) }

/-- Lane L0's punch state. -/
def punched (m : PunchMode) (s : State) : State :=
  s.setPunch 0 { ready := true, mode := m, tallied := false, consecutive := 0, total := 0 }

/-- Group 3 in a state, over the span of both cues, on P1. -/
def looping (m : LoopMode) (s : State) : State :=
  { s with
    loop :=
      { groups := s.loop.groups.set 2
          { mode := m, cause := .start, passes := 0, limit := 0, preroll := 48, reel := some 7, spanStart := some 1928
            spanEnd := some 2264, port := some 1 }
        locateTimer := if m = .locating then .running 8000 else .stopped
        locateSent := m == .locating } }

/-- The mark setup of the first cue. -/
def setupA : MarkSetup where
  cue := 301
  markRef := 2000
  wipe := 72
  pips := 3
  spacing := 24
  pipLength := 2
  flash := 2
  tone := some 0
  colour := 0
  priority := 8

/-- Lane L0's marks. -/
def marked (b : BidState) (s : State) : State :=
  s.setMarkLane 0 { setup := some setupA, lastFrame := some 1959, phase := .leading, pip := none, bid := b }

/-- The tracker at a published position of reel 7. -/
def tracking (m : TrackerMode) (frame run freewheel : Nat) (wait step : Timer) : State :=
  { State.reset with
    tracker :=
      { State.reset.tracker with
        mode := m, position := some { reel := 7, frame := frame }, motion := some .playFwd, run := run, freewheel := freewheel
        wordWait := wait, stepTimer := step } }

/-- One circled journal entry of the first cue. -/
def entryA : JournalEntry where
  sequence := 1
  cue := 301
  lane := 0
  reel := 7
  take := 1
  outcome := .complete
  recorded := true
  flags := Flags.empty
  circled := true
  begin := 1952
  last := 2124
  recordPort := some 1
  misses := 0
  loop := none

/-- A journal of two entries, the older one circled. -/
def logged (s : State) : State :=
  { s with
    journal := { entries := [entryA, { entryA with sequence := 2, take := 2, circled := false }], next := some 3, isSealed := false } }

/-- The six bytes after the sync byte of a position word. -/
def wordBody (reel frame : Nat) (m : Motion) : List Byte :=
  let b := num1 reel ++ num3 frame ++ num1 m.code
  b ++ [0 - byteSum b]

/-- An input line I0 with a function, at the other level than its active one. -/
def wired (f : InputFunction) (t : Trigger) (s : State) : State :=
  s.setInput 0 { function := f, trigger := t, polarity := .low, debounce := 5, level := .high, differing := 4 }

/-! ### One step of each command -/

/-- The answer that P0 gets. -/
def answer (c : Instr) (s : State) : Option (List Byte) := ((out c s).port 0).slot.map fun a => a.kind :: a.body

theorem test_resetAssert : (out .resetAssert (onStage .take (some begunA))).lane 0 = defaultLane 0 ∧
    (out .resetAssert held).resetHeld = true := by decide
theorem test_resetRelease : (out (.resetRelease .high .low .high) inReset).params.frameRate = 25 ∧
    ((out (.resetRelease .high .low .high) inReset).port 3).rate = .b460800 := by decide
theorem test_positionWord : wordOf [0x05, 0x00, 0x03, 0xEB, 0x01, 0x0C] = some { reel := 5, frame := 1003, motion := .playFwd } ∧
    (out (.positionWord [0xC5, 0x05, 0x00, 0x03, 0xEB, 0x01, 0x0C]) State.reset).tracker.mode = .acquiring := by decide
theorem test_wordGapTimeout : (out (.wordGapTimeout [0xC5, 0x05]) State.reset).tracker.badWords = 1 := by decide
theorem test_wordByteWithoutStopBit : (out (.wordByteWithoutStopBit [0xC5]) State.reset).tracker.badWords = 1 := by decide
theorem test_wordWaitExpiry :
    (out .wordWaitExpiry (tracking .locked 100 0 0 (.running 1) .stopped)).tracker.position = some { reel := 7, frame := 101 } ∧
      (out .wordWaitExpiry (tracking .locked 100 0 0 (.running 1) .stopped)).tracker.stepTimer = .running 42 := by decide
theorem test_freewheelStepExpiry :
    (out .freewheelStepExpiry (tracking .freewheel 100 0 3 .stopped (.running 1))).tracker.mode = .idle ∧
      (out .freewheelStepExpiry (tracking .freewheel 100 0 2 .stopped (.running 1))).tracker.freewheel = 3 := by decide
theorem test_lanePositionAdvance :
    ((out (.lanePositionAdvance 0) (offering 1000 (onStage .standby none))).lane 0).mode = .armed ∧
      ((out (.lanePositionAdvance 0) (offering 1928 (onStage .armed (some cycleA)))).lane 0).mode = .leadin := by decide
theorem test_laneRollLost :
    ((out (.laneRollLost 0) (losing (onStage .leadin (some cycleA)))).lane 0).falseStarts = 1 ∧
      (out (.laneRollLost 0) (losing (onStage .take (some begunA)))).journal.entries.map (fun e => e.outcome) = [.stopped] := by
  decide
theorem test_punchPositionAdvance :
    ((out .punchPositionAdvance (offering 2000 (punched (.recording 1 2000) (onStage .take (some begunA))))).punchOf 0).mode =
        .recording 1 2048 ∧
      nextCheckPoint 1952 48 1960 = 2000 := by decide
theorem test_markStartHandoff :
    ((out (.markStartHandoff 0) { desk with handoffs := [.start 0 setupA 1928] }).markLane 0).pip = some 3 := by decide
theorem test_markEndHandoff :
    ((out (.markEndHandoff 0) { marked .waiting desk with handoffs := [.stop 0 true] }).markLane 0) = idleMarkLane := by decide
/-- Lane L0 is at its exit from TAKE with its bid open, and its cycle ends there. -/
def exiting (b : BidState) : State :=
  offering 2100 (marked b (onStage .take (some { begunA with cycleEnd := 2100 })))
/-- Lane L0 runs its tail while its exit from TAKE still waits with its bid open. -/
def exited : State := { marked (.bidding 143) (onStage .tail (some begunA)) with handoffs := [.stop 0 true] }
/-- The wipe flags of the journal's entries. -/
def wipeFlags (s : State) : List (Bool × Bool) := s.journal.entries.map fun e => (e.flags.wipeLate, e.flags.wipeDropped)

theorem test_exit_takes_its_handoff_before_the_entry :
    (out (.lanePositionAdvance 0) (exiting (.bidding 143))).handoffs = [] ∧
      (out (.lanePositionAdvance 0) (exiting (.bidding 143))).markLane 0 = idleMarkLane ∧
      wipeFlags (out (.lanePositionAdvance 0) (exiting (.bidding 143))) = [(false, true)] ∧
      wipeFlags (out (.lanePositionAdvance 0) (exiting .closed)) = [(false, false)] := by decide +kernel
theorem test_ends_in_the_tail_and_a_waiting_exit :
    wipeFlags (out (.cancelLane 0 [0]) exited) = [(false, true)] ∧
      wipeFlags (out (.clearStage 0 []) exited) = [(false, false)] := by decide +kernel
theorem test_markPositionAdvance :
    ((out .markPositionAdvance (offering 1960 (marked .waiting desk))).channel 0).drawing = .wipe 0 113 := by decide +kernel
theorem test_overlayWord :
    overlayWordOf 0 (.wipe 4 0x78) = [0xB9, 0x00, 0x01, 0x04, 0x78, 0x83] ∧
      (out .overlayWord desk).marks.ovl = some [0xB9, 0x00, 0x00, 0x00, 0x00, 0x00] := by decide
theorem test_loopPositionAdvance :
    ((out .loopPositionAdvance (offering 2264 (looping .running (booked desk)))).group 2).mode = .done ∧
      ((out .loopPositionAdvance (offering 2263 (looping .running (booked desk)))).group 2).mode = .running := by decide
theorem test_loopLockEntry :
    ((out .loopLockEntry { looping .locating desk with offered := offeredOf (.relock { reel := 7, frame := 1927 }) }).group 2).mode =
        .running ∧
      ((out .loopLockEntry { looping .locating desk with offered := offeredOf (.relock { reel := 7, frame := 1928 }) }).group 2).mode =
        .locating := by decide
theorem test_loopRollLost : ((out .loopRollLost (losing (looping .running desk))).group 2).mode = .failed := by decide
theorem test_locateTimerExpiry : ((out .locateTimerExpiry (looping .locating desk)).port 1).priority = [.halt 2 .locateTimeout] := by
  decide
theorem test_grantIdleExpiry : (out .grantIdleExpiry held).grant.holder = some 1 ∧
    ((out .grantIdleExpiry held).port 0).ordinary = [.revoked 0 .idle true, .granted 1 0 0] := by decide
theorem test_inputLineChange :
    ((out (.inputLineChange 0) (wired (.actorReady 3) .edge desk)).lane 3).readyLatch = true ∧
      (out (.inputLineChange 0) (wired (.circleLast 0) .edge (logged desk))).journal.entries.map (fun e => e.circled) =
        [true, true] := by decide
theorem test_inputSample :
    ((out (.inputSample 0 .low) (wired .none .edge desk)).input 0).level = .low ∧
      ((out (.inputSample 0 .high) (wired .none .edge desk)).input 0).differing = 0 := by decide
theorem test_portAttach : ((out (.portAttach 2) desk).port 2).attached = true := by decide
theorem test_portDetach : (out (.portDetach 0) held).grant.holder = some 1 ∧
    ((out (.portDetach 1) (punched (.recording 1 2000) (onStage .take (some begunA)))).punchOf 0).mode = .broken 1 := by decide
theorem test_presentSample :
    ((out (.presentSample 2 .high) (desk.setPort 2 { desk.port 2 with presentDiffering := 19 })).port 2).attached = true ∧
      ((out (.presentSample 2 .high) (desk.setPort 2 { desk.port 2 with presentDiffering := 18 })).port 2).presentDiffering = 19 := by
  decide
theorem test_receiveFrame :
    frameOf 0x23 [0x03] = [0xA7, 0x02, 0x23, 0x03, 0xD8] ∧
      ((out (.receiveFrame 0 ([0xA7, 0x02, 0x23, 0x03, 0xD8].map wholeByte)) desk).port 0).receiveQueue =
        [.request 0x23 [0x03]] := by decide
theorem test_interByteTimeout :
    ((out (.interByteTimeout 0 [0xA7, 0x02]) desk).port 0).receiveQueue = [.frameError .timeout] := by decide
theorem test_frameError :
    answer (.frameError 0) (desk.setPort 0 { desk.port 0 with receiveQueue := [.frameError .badSum] }) = some [0xFF, 0x04, 0x00] := by
  decide
theorem test_unknownKind : answer (.unknownKind 0 0x07 [1]) desk = some [0xFF, 0x11, 0x07] := by decide
theorem test_transmitTake :
    ((out (.transmitTake 1)
      ((punched (.queued 1) (onStage .leadin (some begunA))).setPort 1
        { held.port 1 with priority := [.punchIn 0 301 1 9 7 1952 [0x41]] })).punchOf 0).mode = .recording 1 2000 := by decide
theorem test_transmitComplete :
    ((out (.transmitComplete 0)
      (desk.setPort 0
        { desk.port 0 with
          transmitting := some
            { message := .answer { kind := 0x81, body := [0x00], newRate := none }, newRate := some .b38400 } })).port 0).lineRate =
      .b38400 := by decide
theorem test_identify :
    answer (.identify 0 []) desk = some [0x81, 0x00, 0x0F, 0x5A, 0x04, 0x08, 0x01, 0x08, 0x04, 0x04] := by decide
theorem test_portStatus : answer (.portStatus 0 [4]) desk = some [0x82, 0x06] ∧
    (answer (.portStatus 0 [1]) desk).map (fun b => b.take 9) = some [0x82, 0x00, 0x01, 0x07, 0x7F, 0x01, 0x01, 0x00, 0x00] := by
  decide
theorem test_configurePort : answer (.configurePort 0 [2, 3, 0x7F, 1, 32]) held = some [0x83, 0x00, 3, 0x7F, 1, 32] ∧
    answer (.configurePort 0 [0, 2, 0x7F, 1, 1]) held = some [0x83, 0x0C] := by decide
theorem test_fetchNotices :
    answer (.fetchNotices 0 []) (desk.setPort 0 { desk.port 0 with ordinary := [.journalSealed 16777215 1024], lostSinceFetch := 2 }) =
      some [0x84, 0x00, 0x00, 0x00, 0x02, 0x01, 0x06, 0x49, 0xFF, 0xFF, 0xFF, 0x04, 0x00] := by decide
theorem test_setParameters : answer (.setParameters 0 [24, 4, 3, 48, 1, 10, 8, 0]) desk = some [0x85, 0, 24, 4, 3, 48, 1, 10, 8, 0] ∧
    answer (.setParameters 0 [25, 4, 3, 48, 1, 10, 8, 0]) (onStage .armed (some cycleA)) = some [0x85, 0x0C] := by decide
theorem test_readParameters : answer (.readParameters 0 []) desk = some [0x86, 0, 24, 4, 3, 15, 48, 1, 10, 8, 0] := by decide
theorem test_requestGrant : answer (.requestGrant 0 []) desk = some [0x88, 0x00, 0x00] ∧
    (out (.requestGrant 0 []) desk).grant.idle = .running 10000 := by decide
theorem test_releaseGrant : answer (.releaseGrant 0 []) held = some [0x89, 0x00, 0x00, 0x01] ∧
    (out (.releaseGrant 0 []) held).grant.holder = some 1 := by decide
theorem test_tableStatus : answer (.tableStatus 0 []) (onStage .take (some begunA)) = some [0x8A, 0, 0, 2, 1, 0, 0, 1] := by decide
theorem test_insertCue :
    answer (.insertCue 0 cueA.supplied) held = some [0x90, 0x00, 0x00, 0x01] ∧
      answer (.insertCue 0 cueA.supplied) (booked held) = some [0x90, 0x08] := by decide
theorem test_amendCue :
    answer (.amendCue 0 cueA.supplied) (booked held) = some [0x91, 0x00] ∧
      answer (.amendCue 0 { cueA with outFrame := 2182 }.supplied) (booked held) = some [0x91, 0x0A] := by decide
theorem test_deleteCue : (out (.deleteCue 0 [0x01, 0x2D]) (booked held)).table.records = [cueB] := by decide
theorem test_holdCue : answer (.holdCue 0 [0x01, 0x2D, 0x01]) (booked held) = some [0x93, 0x00, 0x01] := by decide
theorem test_clearTable : answer (.clearTable 0 []) (booked held) = some [0x94, 0x00, 0x00, 0x02] ∧
    answer (.clearTable 0 []) (onStage .armed (some cycleA)) = some [0x94, 0x0B] := by decide
theorem test_readCue :
    answer (.readCue 0 [0x01, 0x2D]) (booked desk) =
      some ([0x95, 0x00] ++ [0x01, 0x2D, 0x00, 0x07, 0x00, 0x07, 0xD0, 0x00, 0x08, 0x34, 0x00, 0x03, 0x09, 0x01, 0x00, 0x05, 0x01, 0x41] ++
        [0x00, 0x00, 0x00, 0xFF, 0x00, 0x07, 0x88, 0x00, 0x07, 0xA0, 0x00, 0x07, 0xD0, 0x00, 0x08, 0x4C]) := by decide
theorem test_nextCue : answer (.nextCue 0 [0x01, 0x30]) (booked desk) = some [0x96, 0, 0, 0, 0] ∧
    (answer (.nextCue 0 [0x01, 0x2D]) (booked desk)).map (fun b => b.take 7) = some [0x96, 0, 0, 0, 1, 0x01, 0x30] := by decide
theorem test_setProfile : (out (.setProfile 0 [7, 240, 4, 60, 8, 8, 120, 240]) held).profile 7 =
    { wipe := 240, pips := 4, spacing := 60, pipLength := 8, flash := 8, recordLead := 120, tail := 240 } := by decide
theorem test_readProfile : answer (.readProfile 0 [0]) (onStage .take (some begunA)) =
    some [0x99, 0x00, 72, 3, 24, 2, 2, 48, 24, 1] := by decide
theorem test_setLane : (out (.setLane 0 [0, 1, 0xFF, 7, 15, 15, 1]) (punched .idle held)).punchOf 0 =
    { ready := false, mode := .idle, tallied := false, consecutive := 0, total := 0 } := by decide
theorem test_readLane : (answer (.readLane 0 [0]) (onStage .take (some begunA))).map (fun b => b.take 16) =
    some [0x9B, 0, 4, 0, 1, 0, 0, 8, 0, 0, 0, 0, 0, 0, 0x01, 0x2D] := by decide
theorem test_enableLane : answer (.enableLane 0 [0]) desk = some [0x9C, 0x00, 0x01, 0x00] := by decide
theorem test_disableLane : answer (.disableLane 0 [0]) (onStage .take (some begunA)) = some [0x9D, 0x00, 0x04, 0x01] := by decide
theorem test_cancelLane : answer (.cancelLane 0 [0]) (onStage .take (some begunA)) = some [0x9E, 0x00, 0x01, 0x01] := by decide
theorem test_clearStage : answer (.clearStage 0 []) (onStage .take (some begunA)) = some [0x9F, 0x00, 0x01] := by decide
theorem test_trackerStatus :
    answer (.trackerStatus 0 []) desk = some [0xA0, 0, 0, 0, 0xFF, 0xFF, 0xFF, 0xFF, 0, 0, 0, 0, 0, 0, 0, 0, 0, 0] := by decide
theorem test_ready : answer (.ready 0 [0, 1]) (onStage .standby none) = some [0xA2, 0x10] := by decide
theorem test_tally : answer (.tally 0 [0]) (punched (.recording 0 2000) (onStage .take (some begunA))) =
    some [0xA3, 0x00, 0x00, 0x07, 0xD0, 0x00] := by decide
theorem test_reconfirm : answer (.reconfirm 0 []) (desk.setLink 0 .reconfirm) = some [0xA4, 0x00, 0x01] := by decide
theorem test_startLoop : answer (.startLoop 0 [3, 0, 0, 48]) (onStage .standby none) =
    some [0xA6, 0x00, 0x07, 0x00, 0x07, 0x88, 0x00, 0x08, 0xD8, 0x00, 0x07, 0x58, 0x00] := by decide
theorem test_stopLoop : answer (.stopLoop 0 [3]) (looping .running desk) = some [0xA7, 0x00, 0x00] := by decide
theorem test_readLoop : answer (.readLoop 0 [3]) (looping .locating desk) =
    some ([0xA8, 0, 1, 1, 0, 0, 0, 48, 7, 0, 0x07, 0x88, 0, 0x08, 0xD8, 1] ++ [1, 1, 0x1F, 0x40, 0]) := by decide
theorem test_readJournal : (answer (.readJournal 0 [0, 0, 2]) (logged desk)).map (fun b => b.take 13) =
    some [0xAA, 0, 0, 2, 0, 1, 0, 0, 3, 0, 1, 1, 0] := by decide
theorem test_circleTake : answer (.circleTake 0 [0x01, 0x2D, 2]) (logged (booked desk)) = some [0xAB, 0, 0, 0, 2, 2] := by decide
theorem test_uncircleTake : answer (.uncircleTake 0 [0x01, 0x2D, 1]) (logged (booked desk)) = some [0xAC, 0, 0, 0, 1, 0] := by decide
theorem test_trimJournal : answer (.trimJournal 0 [0]) (logged held) = some [0xAD, 0, 0, 1] := by decide
theorem test_setLine : answer (.setLine 0 [0x10, 4, 0, 1, 0]) held = some [0xAE, 0, 4, 1, 0, 1, 1] ∧
    answer (.setLine 0 [0x00, 0x13, 1, 0, 15]) held = some [0xAE, 0, 0x13, 1, 0, 15, 1, 0] := by decide
theorem test_readLines : (answer (.readLines 0 []) desk).map (fun b => b.length) = some 118 := by decide
theorem test_idleStep : step (tracking .locked 100 0 0 (.running 2) .stopped) =
    .next (tracking .locked 100 0 0 (.running 1) .stopped) := rfl

/-! ### States and operands that meet the hypotheses of the statements -/

/-- The hypotheses of a request's statement, as one test. -/
def admitsB (s : State) (p : PortId) (k : Request) (body : List Byte) : Bool :=
  !s.resetHeld && ((s.port p).attached && ((s.port p).slot.isNone &&
    ((s.port p).receiveQueue.isEmpty && (k.lengthFits body && (k.need.roleMet (s.port p).roles &&
      (!k.need.wantsGrant || s.grant.holder == some p))))))

theorem admits_of {s : State} {p : PortId} {k : Request} {body : List Byte} (h : admitsB s p k body = true) :
    s.admits p k body := by
  simp only [admitsB, Bool.and_eq_true, Bool.not_eq_true', Option.isNone_iff_eq_none, List.isEmpty_iff, Bool.or_eq_true,
    beq_iff_eq] at h
  obtain ⟨h1, h2, h3, h4, h5, h6, h7⟩ := h
  refine ⟨⟨h1, h2, h3, Or.inl h4⟩, h5, h6, fun hw => ?_⟩
  rcases h7 with h7 | h7
  · rw [hw] at h7; cases h7
  · exact h7

theorem witness_IdleStepCountsOneMillisecond :
    inReset.pending = [] ∧ inReset.resetHeld = true ∧ State.reset.resetHeld = false ∧
      2 ≤ (tracking .locked 5 0 0 (.running 2) .stopped).tracker.wordWait.left ∧
      2 ≤ (tracking .freewheel 5 0 1 .stopped (.running 2)).tracker.stepTimer.left ∧
      ({ desk with grant := { held.grant with idle := .running 1 } } : State).tracker.wordWait = .stopped ∧
      ({ desk with grant := { held.grant with idle := .running 1 } } : State).loop.locateTimer = .stopped ∧
      ({ desk with loop := { (looping .locating desk).loop with locateTimer := .running 1 } } : State).grant.idle = .stopped :=
  ⟨rfl, rfl, rfl, by decide, by decide, rfl, rfl, rfl⟩

/-- A word-wait time that runs down brings the first freewheel step, and the idle timer runs down in the same millisecond. -/
theorem witness_IdleStepCountsOneMillisecond_expiries :
    let s : State :=
      { tracking .locked 100 0 0 (.running 1) .stopped with grant := { desk.grant with holder := some 0, idle := .running 1 } }
    (match step s with
      | .next t => some (t.tracker.position, t.tracker.stepTimer, t.grant.holder)
      | .fault _ => none
      | .refused _ => none) = some (some { reel := 7, frame := 101 }, .running 42, none) := by decide

theorem witness_ResetAssertHoldsThePart : inReset.resetHeld = true ∧ Instr.identify 0 [] ≠ .resetAssert ∧
    (∀ o2 o1 o0 : Level, Instr.identify 0 [] ≠ .resetRelease o2 o1 o0) ∧ State.reset.resetHeld = false :=
  ⟨rfl, by decide, fun _ _ _ h => (by cases h), rfl⟩

theorem witness_ResetReleaseStartsThePart : inReset.resetHeld = true := rfl

theorem witness_BadOrAbandonedWordIsOnlyCounted :
    State.reset.resetHeld = false ∧ State.reset.tracker.receiver = none ∧
      ([5, 0, 3, 0xEB, 1, 0x0D] : List Byte).length = 6 ∧ byteSum [5, 0, 3, 0xEB, 1, 0x0D] ≠ 0 ∧
      byteAt (wordBody 0 0 .playFwd) 0 = 0 ∧ 99 < byteAt (wordBody 100 0 .playFwd) 0 ∧
      1048575 < frameAt (wordBody 1 1048576 .still) 1 ∧ 5 < byteAt [1, 0, 0, 0, 6, 0xF9] 4 ∧
      ([1, 2, 3, 4, 5] : List Byte).length ≤ 5 ∧ (0xC5 : Byte) ∉ ([0xC4, 0xC6] : List Byte) ∧
      (State.reset.setReceiver (some [])).tracker.receiver = some [] := by decide

theorem witness_WordBytesReadBack : (1 : Nat) ≤ 1 ∧ 99 ≤ 99 ∧ 1048575 ≤ 1048575 := by decide

theorem witness_TrackerChangeIsNoticedThenOffered : State.reset.quiet ∧
    (offering 1928 (onStage .armed (some cycleA))).resetHeld = false ∧ ¬(offering 1928 (onStage .armed (some cycleA))).quiet :=
  ⟨⟨rfl, rfl, rfl, rfl, rfl⟩, rfl, fun h => (by cases h.1)⟩

/-- An advance that still waits is taken by the lanes before the next event is offered. -/
theorem witness_TrackerChangeIsNoticedThenOffered_outstanding :
    ((trackerApply { tracker := State.reset.tracker, cause := none, event := some (.lost jumped) }
        (offering 1928 (onStage .armed (some cycleA)))).lane 0).mode = .leadin ∧
      (trackerApply { tracker := State.reset.tracker, cause := none, event := some (.lost jumped) }
        (offering 1928 (onStage .armed (some cycleA)))).offered = offeredOf (.lost jumped) := by decide +kernel

theorem witness_WordInIdle : State.reset.hears (wordBody 1 0 .playFwd) { reel := 1, frame := 0, motion := .playFwd } ∧
    State.reset.hears (wordBody 99 1048575 .still) { reel := 99, frame := 1048575, motion := .still } ∧
    State.reset.hears (wordBody 5 9 .shuttle) { reel := 5, frame := 9, motion := .shuttle } ∧ State.reset.tracker.mode = .idle :=
  ⟨⟨rfl, rfl, by decide, by decide⟩, ⟨rfl, rfl, by decide, by decide⟩, ⟨rfl, rfl, by decide, by decide⟩, rfl⟩

/-- A state of the tracker hears a word of reel 7, or of another. -/
theorem hears_tracking (m : TrackerMode) (frame run freewheel : Nat) (wait step : Timer) {b : List Byte} {w : PositionWord}
    (hl : b.length = 6) (hw : wordOf b = some w) : (tracking m frame run freewheel wait step).hears b w :=
  ⟨rfl, rfl, hl, hw⟩

theorem witness_PlayWordBeforeLock :
    (tracking .acquiring 100 3 0 (.running 9) .stopped).hears (wordBody 7 101 .playFwd) { reel := 7, frame := 101, motion := .playFwd } ∧
      (tracking .acquiring 100 3 0 (.running 9) .stopped).tracker.position = some { reel := 7, frame := 100 } ∧
      (tracking .acquiring 100 3 0 (.running 9) .stopped).params.lockCount ≤ 3 + 1 ∧
      2 + 1 < (tracking .acquiring 100 2 0 (.running 9) .stopped).params.lockCount ∧
      ¬(({ reel := 7, frame := 100, motion := .playFwd } : PositionWord).reel = 7 ∧
        ({ reel := 7, frame := 100, motion := .playFwd } : PositionWord).frame = 100 + 1) ∧
      (tracking .parked 100 0 0 (.running 9) .stopped).tracker.mode = .parked ∧
      (tracking .scanning 100 0 0 (.running 9) .stopped).tracker.mode = .scanning :=
  ⟨hears_tracking _ _ _ _ _ _ (by decide) (by decide), rfl, by decide, by decide, by decide, rfl, rfl⟩

theorem witness_PlayWordWhileRolling :
    (tracking .locked 100 0 0 (.running 9) .stopped).hears (wordBody 8 101 .playFwd) { reel := 8, frame := 101, motion := .playFwd } ∧
      (tracking .locked 100 0 0 (.running 9) .stopped).hears (wordBody 7 102 .playFwd) { reel := 7, frame := 102, motion := .playFwd } ∧
      (tracking .locked 100 0 0 (.running 9) .stopped).hears (wordBody 7 100 .playFwd) { reel := 7, frame := 100, motion := .playFwd } ∧
      (tracking .locked 100 0 0 (.running 9) .stopped).hears (wordBody 7 101 .playFwd) { reel := 7, frame := 101, motion := .playFwd } ∧
      (tracking .freewheel 100 0 1 .stopped (.running 9)).hears (wordBody 7 100 .playFwd) { reel := 7, frame := 100, motion := .playFwd } ∧
      (tracking .freewheel 100 0 1 .stopped (.running 9)).hears (wordBody 7 101 .playFwd) { reel := 7, frame := 101, motion := .playFwd } ∧
      (tracking .freewheel 100 0 1 .stopped (.running 9)).tracker.position = some { reel := 7, frame := 100 } :=
  ⟨hears_tracking _ _ _ _ _ _ (by decide) (by decide), hears_tracking _ _ _ _ _ _ (by decide) (by decide),
    hears_tracking _ _ _ _ _ _ (by decide) (by decide), hears_tracking _ _ _ _ _ _ (by decide) (by decide),
    hears_tracking _ _ _ _ _ _ (by decide) (by decide), hears_tracking _ _ _ _ _ _ (by decide) (by decide), rfl⟩

theorem witness_StillAndScanningWords :
    (tracking .locked 100 0 0 (.running 9) .stopped).hears (wordBody 7 100 .still) { reel := 7, frame := 100, motion := .still } ∧
      (tracking .scanning 100 0 0 (.running 9) .stopped).hears (wordBody 7 0 .playRev) { reel := 7, frame := 0, motion := .playRev } ∧
      Motion.still ≠ .playFwd ∧ Motion.playRev ≠ .playFwd :=
  ⟨hears_tracking _ _ _ _ _ _ (by decide) (by decide), hears_tracking _ _ _ _ _ _ (by decide) (by decide), by decide, by decide⟩

/-- The freewheel limit set to 0. -/
def noFreewheel (s : State) : State := { s with params := { s.params with freewheelLimit := 0 } }

theorem witness_TrackerTimersExpire :
    State.reset.resetHeld = false ∧ State.reset.tracker.wordWait.isRunning = false ∧
      State.reset.tracker.stepTimer.isRunning = false ∧
      (tracking .acquiring 5 1 0 (.running 0) .stopped).tracker.wordWait.isRunning = true ∧
      (tracking .locked 5 0 0 (.running 0) .stopped).tracker.position = some { reel := 7, frame := 5 } ∧
      (noFreewheel (tracking .locked 5 0 0 (.running 0) .stopped)).params.freewheelLimit = 0 ∧
      (tracking .locked 1048575 0 0 (.running 0) .stopped).tracker.position = some { reel := 7, frame := 1048575 } ∧
      1 ≤ (tracking .locked 1048574 0 0 (.running 0) .stopped).params.freewheelLimit ∧
      (tracking .locked 1048574 0 0 (.running 0) .stopped).tracker.freewheel = 0 ∧
      (tracking .freewheel 1048574 0 2 .stopped (.running 0)).tracker.freewheel <
        (tracking .freewheel 1048574 0 2 .stopped (.running 0)).params.freewheelLimit ∧
      (tracking .freewheel 5 0 3 .stopped (.running 0)).params.freewheelLimit ≤
        (tracking .freewheel 5 0 3 .stopped (.running 0)).tracker.freewheel ∧
      (tracking .freewheel 1048575 0 1 .stopped (.running 0)).tracker.stepTimer.isRunning = true := by decide

theorem witness_TimerLengths : (0 : Nat) < 1 := by decide

/-- The first cue of the table set to hold. -/
def holding (s : State) : State := { s with table := { s.table with records := [{ cueA with hold := true }, cueB] } }

theorem witness_OfferIsTheFirstEligibleCue :
    (onStage .standby none).offer 0 7 1927 = some cueA ∧ (onStage .standby none).offer 0 7 1928 = some cueB ∧
      (onStage .standby none).offer 0 7 2110 = none := by decide

/-- The cue that the lane pins is offered again while a hold and its place would shut out any other. -/
theorem witness_OfferIsTheFirstEligibleCue_again :
    (holding (onStage .armed (some cycleA))).offer 0 7 1990 = some cueB ∧
      (holding (onStage .armed (some cycleA))).reoffer 0 7 1990 301 = some { cueA with hold := true } ∧
      (holding (looping .running (onStage .armed (some cycleA)))).reoffer 0 7 1990 301 = some { cueA with hold := true } ∧
      (holding (onStage .armed (some cycleA))).reoffer 0 8 1990 301 = none := by decide

/-- An advance is offered to every lane. -/
theorem offersLane_offering (l : LaneId) (frame : Nat) {s : State} (h : s.resetHeld = false) :
    (offering frame s).offersLane l (advanceAt frame) := by
  refine ⟨h, rfl, ?_⟩
  simp [offering, offeredOf]

/-- A roll lost is offered to every lane. -/
theorem offersLaneLost_losing (l : LaneId) {s : State} (h : s.resetHeld = false) : (losing s).offersLaneLost l := by
  refine ⟨h, ⟨jumped, rfl⟩, ?_⟩
  simp [losing, offeredOf]

theorem witness_StandbyLaneArms :
    (offering 1927 (onStage .standby none)).offersLane 0 (advanceAt 1927) ∧
      (offering 1927 (onStage .off none)).offersLane 0 (advanceAt 1927) ∧
      (offering 1927 (onStage .standby none)).armingAllowed 0 ∧
      (offering 1927 (onStage .standby none)).offer 0 7 1927 = some cueA ∧
      (offering 2264 (onStage .standby none)).offer 0 7 2264 = none ∧ ¬(offering 1927 desk).armingAllowed 0 ∧
      desk.offered.lanes[(0 : Fin 8)] = false :=
  ⟨offersLane_offering _ _ rfl, offersLane_offering _ _ rfl, ⟨rfl, by decide, by decide, Or.inl (by decide)⟩, by decide, by decide,
    fun h => (by cases h.1), by decide⟩

theorem witness_StandbyLaneArms_ready_level :
    ((wired (.actorReady 7) .level desk).input 0).function = .actorReady 7 ∧
      ((wired (.actorReady 7) .level desk).input 0).level ≠ ((wired (.actorReady 7) .level desk).input 0).polarity ∧
      ((out (.inputLineChange 0) (wired (.actorReady 7) .level desk)).input 0).level =
        ((wired (.actorReady 7) .level desk).input 0).polarity := by decide

/-- The second cue of the table alone. -/
def second (s : State) : State := { s with table := { s.table with records := [cueB] } }

theorem witness_ArmedLaneAdvances :
    (offering 1927 (onStage .armed (some cycleA))).offersLane 0 (advanceAt 1927) ∧
      ((offering 1927 (onStage .armed (some cycleA))).lane 0).pinned = some 301 ∧ cycleA.begun = false ∧
      (∃ r : CueRecord, (offering 1927 (onStage .armed (some cycleA))).reoffer 0 7 1927 301 = some r ∧ r.number = 301) ∧
      1927 < cycleA.leadIn ∧ cycleA.leadIn ≤ 1928 ∧ 1928 < cycleA.punchIn ∧
      (∃ r : CueRecord, (offering 1928 (onStage .armed (some cycleA))).reoffer 0 7 1928 301 = some r ∧ r.number = 301) ∧
      (offering 2200 (second (onStage .armed (some cycleA)))).reoffer 0 7 2200 301 = none ∧
      (offering 1900 (second (onStage .armed (some cycleA)))).reoffer 0 7 1900 301 = some cueB ∧ cueB.number ≠ 301 ∧
      (offering 1900 (second (onStage .armed (some cycleA)))).activeGroup = none :=
  ⟨offersLane_offering _ _ rfl, by decide, rfl, ⟨cueA, by decide, rfl⟩, by decide, by decide, by decide, ⟨cueA, by decide, rfl⟩,
    by decide, by decide, by decide, by decide⟩

/-- The cycle record of the first cue with its record lead the whole lead-in. -/
def promptA : CycleRecord := { cycleA with punchIn := 1928 }

theorem witness_ArmedLaneAdvances_take_begins :
    (offering 1928 (onStage .armed (some promptA))).offersLane 0 (advanceAt 1928) ∧ promptA.leadIn ≤ 1928 ∧
      promptA.record = true ∧ promptA.punchIn ≤ 1928 ∧
      (offering 1928 (onStage .armed (some promptA))).record promptA.cue = some cueA ∧
      ((out (.lanePositionAdvance 0) (offering 1928 (onStage .armed (some promptA)))).lane 0).mode = .leadin ∧
      (out (.lanePositionAdvance 0) (offering 1928 (onStage .armed (some promptA)))).takeBegun 0 = true :=
  ⟨offersLane_offering _ _ rfl, by decide, rfl, by decide, by decide, by decide, by decide⟩

theorem witness_TakeBegins :
    (offering 1952 (onStage .leadin (some cycleA))).offersLane 0 (advanceAt 1952) ∧
      ((offering 1952 (onStage .leadin (some cycleA))).lane 0).cycle = some cycleA ∧
      (offering 1952 (onStage .leadin (some cycleA))).record 301 = some cueA ∧ cycleA.punchIn ≤ 1952 ∧ 1952 < cycleA.inFrame ∧
      cycleA.record = true ∧ ({ cycleA with record := false } : CycleRecord).record = false ∧ cycleA.inFrame ≤ 2000 ∧
      1951 < cycleA.punchIn ∧
      ((out (.lanePositionAdvance 0) (offering 2000 (onStage .leadin (some { cycleA with punchIn := 2000 })))).lane 0).mode =
        .take ∧
      (out (.lanePositionAdvance 0) (offering 2000 (onStage .leadin (some { cycleA with punchIn := 2000 })))).takeBegun 0 = true :=
  ⟨offersLane_offering _ _ rfl, by decide, by decide, by decide, by decide, rfl, rfl, by decide, by decide, by decide, by decide⟩

/-- A PUNCH OUT of lane L0 waits on P1. -/
def lagging (s : State) : State := s.setPort 1 { s.port 1 with priority := [.punchOut 0 301 1 .finish 2124] }

theorem witness_PunchInDecision :
    (offering 1952 (onStage .leadin (some cycleA))).offersLane 0 (advanceAt 1952) ∧
      (offering 1928 (onStage .armed (some promptA))).offersLane 0 (advanceAt 1928) ∧
      (∃ x : CueRecord, (offering 1928 (onStage .armed (some promptA))).reoffer 0 7 1928 301 = some x ∧ x.number = 301) ∧
      ((onStage .leadin (some cycleA)).lane 0).routing.recordPort = some 1 ∧
      ((onStage .leadin (some cycleA)).port 1).attached = true ∧ ((onStage .leadin (some cycleA)).port 1).roles.record = true ∧
      ((onStage .leadin (some cycleA)).setLink 1 .reconfirm).link 1 = .reconfirm ∧
      (onStage .leadin (some cycleA)).link 1 = .normal ∧ ((onStage .leadin (some cycleA)).punchOf 0).ready = false ∧
      ((punched .idle (onStage .leadin (some cycleA))).punchOf 0).ready = true ∧
      (∃ x ∈ ((lagging (onStage .leadin (some cycleA))).port 1).priority, x.isPunchOut 0 = true) ∧
      ((onStage .leadin (some cycleA)).port 1).priority = [] ∧
      (∀ p : PortId, ¬(({ onStage .leadin (some cycleA) with ports := State.reset.ports } : State).port p).attached = true) :=
  ⟨offersLane_offering _ _ rfl, offersLane_offering _ _ rfl, ⟨cueA, by decide, rfl⟩, by decide, by decide, by decide, by decide,
    by decide, by decide, by decide, by decide, by decide, by decide⟩

theorem witness_BegunTakeAdvances :
    (offering 1999 (onStage .leadin (some begunA))).offersLane 0 (advanceAt 1999) ∧ begunA.begun = true ∧ 1999 < begunA.inFrame ∧
      begunA.inFrame ≤ 2000 ∧ 2099 < begunA.outFrame ∧ begunA.outFrame ≤ 2100 ∧ 2123 < begunA.cycleEnd ∧
      ((offering 2108 (onStage .tail (some begunA))).frames cueB).leadIn ≠ 2108 + 1 ∧
      (offering 2108 (onStage .tail (some begunA))).noYield 0 7 2108 :=
  ⟨offersLane_offering _ _ rfl, rfl, by decide, by decide, by decide, by decide, by decide, by decide,
    Or.inr (Or.inr (Or.inr fun c hc => by
      have h : (offering 2108 (onStage .tail (some begunA))).offer 0 7 2108 = some cueB := by decide
      rw [h] at hc
      cases hc
      decide))⟩

theorem witness_TakeEnds :
    (offering 2124 (onStage .tail (some begunA))).offersLane 0 (advanceAt 2124) ∧
      ((onStage .tail (some begunA)).lane 0).pinned = some begunA.cue ∧ begunA.take = some 1 ∧
      (onStage .tail (some begunA)).activeGroup = none ∧ begunA.cycleEnd ≤ 2124 ∧ begunA.outFrame ≤ 2124 ∧
      (∀ r ∈ (onStage .tail (some begunA)).table.records, r.number = 301 →
        ((onStage .tail (some begunA)).frames r).leadIn ≤ 2109) ∧
      ((offering 2109 (onStage .tail (some begunA))).offer 0 7 2109 = some cueB ∧
        ((offering 2109 (onStage .tail (some begunA))).frames cueB).leadIn = 2109 + 1) ∧
      (losing (onStage .leadin (some begunA))).offersLaneLost 0 ∧
      (onStage .tail (some begunA)).admits 0 .cancelLane [BitVec.ofNat 8 0] :=
  ⟨offersLane_offering _ _ rfl, by decide, rfl, by decide, by decide, by decide, by decide, by decide,
    offersLaneLost_losing _ rfl, admits_of (by decide)⟩

/-- The lane that yields its tail arms the next cue on the same advance, CUE ARMED behind CYCLE ENDED. -/
theorem witness_TakeEnds_arms_again :
    ((out (.lanePositionAdvance 0) (offering 2109 (onStage .tail (some begunA)))).lane 0).mode = .armed ∧
      ((out (.lanePositionAdvance 0) (offering 2109 (onStage .tail (some begunA)))).port 0).ordinary =
        [.cycleEnded 0 301 1 .complete false (some 1) .standby, .cueArmed 0 304 none 7 2110 2182 1 (some 2)] ∧
      ((out (.lanePositionAdvance 0) (offering 2124 (onStage .tail (some begunA)))).lane 0).mode = .standby := by decide

/-- A journal with these entries and this next number. -/
def journalOf (es : List JournalEntry) (n : Option Nat) : State :=
  { desk with journal := { entries := es, next := n, isSealed := n.isNone } }

theorem witness_TakeEnds_full_journal :
    (journalOf [] none).journal.isSealed = true ∧ (journalOf [] (some 16777215)).journal.isSealed = false ∧
      1024 ≤ (journalOf ({ entryA with circled := false } :: List.replicate 1023 entryA) (some 2000)).journal.entries.length ∧
      (journalOf (List.replicate 1024 entryA) (some 2000)).journal.entries = entryA :: List.replicate 1023 entryA ∧
      (∀ z ∈ (journalOf (List.replicate 1024 entryA) (some 2000)).journal.entries, z.circled = true) ∧
      (∃ z ∈ List.replicate 1023 entryA, z.cue = entryA.cue ∧ z.take = entryA.take) ∧
      (¬∃ z ∈ List.replicate 1023 { entryA with take := 2 }, z.cue = entryA.cue ∧ z.take = entryA.take) := by
  refine ⟨rfl, rfl, ?_, rfl, ?_, ⟨entryA, ?_, rfl, rfl⟩, ?_⟩
  · exact Nat.le_of_eq (by rw [journalOf, List.length_cons, List.length_replicate])
  · intro z hz
    rw [List.eq_of_mem_replicate hz]
    rfl
  · exact List.mem_replicate.2 ⟨by decide, rfl⟩
  · rintro ⟨z, hz, -, h⟩
    rw [List.eq_of_mem_replicate hz] at h
    exact absurd h (by decide)

theorem witness_RollLostBeforeTheTake :
    (losing (onStage .armed (some cycleA))).offersLaneLost 0 ∧ (losing (onStage .armed (some cycleA))).activeGroup = none ∧
      ((losing (onStage .leadin (some cycleA))).lane 0).cycle = some cycleA ∧ cycleA.begun = false :=
  ⟨offersLaneLost_losing _ rfl, by decide, by decide, rfl⟩

theorem witness_PunchUnitChecksTallies :
    (0 : Nat) < 16 ∧ (offering 2000 (punched (.recording 1 2000) (onStage .take (some begunA)))).offered.punch = true ∧
      ((offering 2000 (punched (.recording 1 2000) (onStage .take (some begunA)))).punchOf 0).mode = .recording 1 2000 ∧
      1 ≤ (offering 2000 (onStage .take (some begunA))).params.missAllowance ∧
      ({ onStage .take (some begunA) with params := { State.reset.params with missAllowance := 0 } } : State).params.missAllowance < 1 := by
  decide

theorem witness_StartHandoffStoresTheSetup :
    ({ desk with handoffs := [.start 0 setupA 1927] } : State).firstHandoff 0 = some (.start 0 setupA 1927) ∧
      (offering 1927 desk).offered.marks = true ∧ desk.offered.marks = false ∧ 1927 + setupA.wipe < setupA.markRef ∧
      setupA.beginsPip 1927 none ∧ setupA.beginsPip 1928 (some 3) ∧ setupA.markRef ≤ 1928 + setupA.wipe ∧
      1928 < setupA.markRef + setupA.flash ∧ setupA.markRef + setupA.flash ≤ 2002 ∧ setupA.beginsPip 2002 none ∧
      ({ setupA with wipe := 0, flash := 0 } : MarkSetup).wipe = 0 ∧ desk.firstHandoff 0 = none := by
  refine ⟨by decide, by decide, by decide, by decide, ?_, ⟨by decide, by decide, by decide, ?_⟩, by decide, by decide, by decide, ?_,
    by decide, by decide⟩ <;>
  · intro k h1 h2
    simp only [setupA] at *
    omega

/-- Lane L0 holds V0 while lane L1 bids. -/
def contested : State :=
  ((marked (.holding 0) desk).setChannel 0 { holder := some 0, drawing := .wipe 0 113, lastSent := none }).setMarkLane 1
    { setup := some setupA, lastFrame := some 1960, phase := .leading, pip := none, bid := .bidding 133 }

/-- Every channel has a holder, lane L7. -/
def busy (s : State) : State :=
  allChannels.foldl (fun t c => t.setChannel c { holder := some 7, drawing := .flash 1, lastSent := none }) s

theorem witness_EndHandoffEndsTheMarks :
    ({ desk with handoffs := [.stop 0 true] } : State).firstHandoff 0 = some (.stop 0 true) ∧
      desk.firstHandoff 0 = none ∧
      exited.firstHandoff 0 = some (.stop 0 true) ∧ (exited.markLane 0).bid = .bidding 143 ∧
      (exited.markLane 0).setup = some setupA ∧ desk.runsCycle 0 301 = false ∧ (desk.markLane 0).bid = .idle ∧
      ((marked (.bidding 128) (onStage .take (some begunA))).lane 0).cycle = some begunA ∧ begunA.cue = setupA.cue ∧
      ((marked (.bidding 128) (onStage .take (some begunA))).lane 0).mode.running = true ∧
      ((marked (.holding 0) desk).markLane 0).bid = .holding 0 := by decide

theorem witness_EndHandoffEndsTheMarks_passes :
    (∀ k : LaneId, ((marked (.bidding 128) desk).markLane k).setup = none → ((marked (.bidding 128) desk).markLane k).bid = .idle) ∧
      ((marked (.bidding 128) desk).channel 0).holder = none ∧ (marked (.bidding 128) desk).params.bidThreshold ≤ 128 ∧
      (∀ d : ChannelId, ¬d < 0) ∧ 1928 + setupA.wipe ≤ setupA.markRef ∧ setupA.markRef < 1929 + setupA.wipe ∧
      ((out (.markEndHandoff 0) { contested with handoffs := [.stop 0 false] }).markLane 1).bid = .holding 0 := by decide

theorem witness_MarksTakeAnAdvance :
    (offering 1960 (marked .waiting desk)).offered.marks = true ∧ (offering 1960 (marked .waiting desk)).overlayInv ∧
      (marked .waiting desk).offered.event = none ∧ (losing (marked .waiting desk)).offered.marks = false ∧
      ((offering 1960 (marked .waiting desk)).markLane 0).lastFrame ≠ some 1960 ∧
      ((offering 1959 (marked .waiting desk)).markLane 0).lastFrame = some 1959 ∧
      1927 + setupA.wipe < setupA.markRef ∧ setupA.markRef ≤ 1928 + setupA.wipe ∧ setupA.markRef < 1960 + setupA.wipe ∧
      2001 < setupA.markRef + setupA.flash ∧ setupA.markRef + setupA.flash ≤ 2002 ∧ (offering 1960 contested).overlayInv ∧
      (contested.markLane 0).bid = .holding 0 ∧ (marked .waiting desk).marks.collisions[(0 : Fin 8)] ≤ 65535 :=
  ⟨rfl, ⟨by decide, fun l c h => by revert l c; decide, by decide⟩, rfl, rfl, by decide, by decide, by decide, by decide, by decide,
    by decide, by decide, ⟨by decide, fun l c h => by revert l c; decide, by decide⟩, by decide, by decide⟩

/-- Lane L0's bid state after an advance, from a state of its marks. -/
def bidAfter (frame : Nat) (s : State) : BidState := ((out .markPositionAdvance (offering frame s)).markLane 0).bid

theorem witness_MarksTakeAnAdvance_bids :
    bidAfter 1927 (marked .waiting desk) = .waiting ∧ bidAfter 1928 (marked .waiting desk) = .holding 0 ∧
      bidAfter 1960 (busy (marked .waiting desk)) = .bidding 133 ∧ bidAfter 1960 (busy (marked (.bidding 128) desk)) = .bidding 133 ∧
      bidAfter 2002 (busy (marked (.bidding 143) desk)) = .closed ∧ bidAfter 1960 contested = .holding 0 ∧
      bidAfter 2002 contested = .closed ∧ bidAfter 1959 (busy (marked .waiting desk)) = .waiting ∧
      bidAfter 1960 (marked .closed desk) = .closed := by decide +kernel

theorem witness_MarksTakeAnAdvance_collisions :
    (out .markPositionAdvance (offering 1952
      (contested.setMarkLane 1 { contested.markLane 1 with pip := some 3 }))).marks.collisions[(0 : Fin 8)] = 1 := by decide +kernel

theorem witness_OverlayWordReportsTheLowestChange :
    (desk.channel 0).lastSent ≠ some (desk.channel 0).drawing ∧ (∀ d : ChannelId, ¬d < 0) ∧
      (∀ c : ChannelId, ((allChannels.foldl (fun s _ => out .overlayWord s) desk).channel c).lastSent =
        some ((allChannels.foldl (fun s _ => out .overlayWord s) desk).channel c).drawing) := by decide

theorem witness_LockEntryStartsThePass :
    ({ looping .locating desk with offered := offeredOf (.relock { reel := 7, frame := 1927 }) } : State).activeGroup = some 2 ∧
      ({ looping .locating desk with offered := offeredOf (.relock { reel := 7, frame := 1927 }) } : State).offered.loop = true ∧
      (looping .locating desk).loop.locateSent = true ∧ ((looping .locating desk).group 2).reel = some 7 ∧
      1927 < ((looping .locating desk).group 2).spanStart.getD 0 ∧ 1927 < ((looping .locating desk).group 2).spanEnd.getD 0 ∧
      ((looping .locating desk).group 2).spanStart.getD 0 ≤ 1928 := by decide

theorem witness_AdvanceAtTheSpanEnd :
    (offering 2264 (looping .running (booked desk))).activeGroup = some 2 ∧
      ((offering 2264 (looping .running (booked desk))).group 2).port = some 1 ∧
      2263 < ((looping .running desk).group 2).spanEnd.getD 0 ∧ ((looping .running desk).group 2).spanEnd.getD 0 ≤ 2264 ∧
      (looping .running (onStage .take (some begunA))).anyMemberPinned 2 = true ∧
      (looping .running (onStage .standby none)).anyMemberPinned 2 = false ∧
      (looping .running (onStage .standby none)).armableMembers 2 = [cueA, cueB] ∧
      (looping .running (booked desk)).armableMembers 2 = [] ∧ ((looping .running desk).group 2).passes ≤ 99 ∧
      ((looping .running desk).group 2).limit = 0 := by decide

/-- An advance to a frame that carries a lock entry. -/
def relocking (frame : Nat) (s : State) : State :=
  { s with offered := offeredOf (.advance { advanceAt frame with lock := some .relocked }) }

theorem witness_AdvanceAtTheSpanEnd_locks :
    (offering 2264 (looping .draining (booked desk))).activeGroup = some 2 ∧ ((looping .draining desk).group 2).mode = .draining ∧
      (advanceAt 2264).lock = none ∧ ((looping .locating desk).group 2).mode = .locating ∧
      ((out .loopPositionAdvance (offering 2264 (looping .draining (booked desk)))).group 2).mode = .draining ∧
      ((out .loopPositionAdvance (offering 1927 (looping .locating (booked desk)))).group 2).mode = .locating ∧
      ((out .loopPositionAdvance (relocking 1927 (looping .locating (booked desk)))).group 2).mode = .running ∧
      ((out .loopPositionAdvance (relocking 2263 (looping .running (booked desk)))).group 2).mode = .running ∧
      ((out .loopPositionAdvance (relocking 2264 (looping .running (booked desk)))).group 2).mode = .done := by decide

theorem witness_GroupsFailAndDrain :
    (losing (looping .running desk)).activeGroup = some 2 ∧ ((losing (looping .running desk)).group 2).port = some 1 ∧
      (losing (looping .draining desk)).activeGroup = some 2 ∧ (losing (looping .locating desk)).activeGroup = some 2 ∧
      (looping .locating desk).loop.locateTimer.isRunning = true ∧ (looping .running desk).loop.locateTimer.isRunning = false ∧
      (looping .draining (booked desk)).record 301 = some cueA ∧ (desk.port 2).attached = false ∧
      (desk.port 1).priority = [] := by decide

/-- A HALT TRANSPORT takes the place of a LOCATE AND ROLL that still waits between two PUNCH OUTs. -/
theorem witness_GroupsFailAndDrain_replaces :
    let s := desk.setPort 1
      { desk.port 1 with
        priority := [.punchOut 0 301 1 .finish 2124] ++ .locate 2 7 1880 1 :: [.punchOut 1 304 1 .finish 2240] }
    (s.port 1).attached = true ∧
      ((postTransport 1 (.halt 2 .stopRequest) s).port 1).priority =
        [.punchOut 0 301 1 .finish 2124, .halt 2 .stopRequest, .punchOut 1 304 1 .finish 2240] := by decide

theorem witness_IdleExpiryRevokesTheGrant :
    desk.grant.holder = none ∧ held.grant.holder = some 0 ∧ held.grant.idle.isRunning = true ∧ held.grant.waiting = [1] ∧
      ({ held with grant := { held.grant with waiting := [] } } : State).grant.waiting = [] := by decide

/-- A notice joins the queue of an attached port, is dropped by a full one and discarded by a detached one. -/
theorem witness_IdleExpiryRevokesTheGrant_posts :
    let n : Notice := .journalSealed 16777215 1024
    let s := desk.setPort 1 { desk.port 1 with ordinary := List.replicate 32 n }
    ((post .journal n s).port 0).ordinary = [n] ∧ ((post .journal n s).port 1).ordinary.length = 32 ∧
      ((post .journal n s).port 1).lostSinceFetch = 1 ∧ ((post .journal n s).port 1).noticesLost = 1 ∧
      ((post .journal n s).port 2).ordinary = [] := by decide +kernel

theorem witness_RequestGrantAnswers :
    desk.admits 0 .requestGrant [] ∧ desk.grant.holder = none ∧ held.admits 0 .requestGrant [] ∧ held.grant.holder = some 0 ∧
      held.admits 1 .requestGrant [] ∧ held.grant.waiting = [] ++ 1 :: [] ∧
      (up 2 held).admits 2 .requestGrant [] ∧ (2 : PortId) ∉ (up 2 held).grant.waiting :=
  ⟨admits_of (by decide), rfl, admits_of (by decide), rfl, admits_of (by decide), rfl, admits_of (by decide), by decide⟩

theorem witness_RequestGrantAnswers_posts :
    ((out (.requestGrant 0 []) desk).port 0).ordinary = [] ∧
      ((out (.requestGrant 0 []) desk).port 1).ordinary = [.granted 0 0 desk.table.generation] := by decide

theorem witness_ReleaseGrantAnswers :
    held.admits 0 .releaseGrant [] ∧ held.grant.holder = some 0 ∧ held.grant.waiting = 1 :: [] ∧ held.admits 1 .releaseGrant [] ∧
      (1 : PortId) ∈ held.grant.waiting ∧ (up 2 held).admits 2 .releaseGrant [] ∧ (2 : PortId) ∉ (up 2 held).grant.waiting ∧
      ({ held with grant := { held.grant with waiting := [] } } : State).admits 0 .releaseGrant [] :=
  ⟨admits_of (by decide), rfl, rfl, admits_of (by decide), by decide, admits_of (by decide), by decide, admits_of (by decide)⟩

theorem witness_InputLineChangesAndSamples :
    otherLevel ((wired .directorHold .edge desk).input 0).level = ((wired .directorHold .edge desk).input 0).polarity ∧
      otherLevel ((State.setInput desk 0 { desk.input 0 with level := .low }).input 0).level ≠ (desk.input 0).polarity ∧
      ((wired (.actorReady 7) .level desk).input 0).trigger = .level ∧ (∀ e ∈ desk.journal.entries, e.lane ≠ 0) ∧
      (logged desk).journal.entries = [entryA] ++ { entryA with sequence := 2, take := 2, circled := false } :: [] ∧
      (wired .loopStop .edge (looping .running desk)).activeGroup = some 2 ∧ (wired .loopStop .edge desk).activeGroup = none ∧
      ((desk.input 0).differing + 1 < (desk.input 0).debounce) ∧
      ((wired .none .edge desk).input 0).debounce ≤ ((wired .none .edge desk).input 0).differing + 1 := by decide

theorem witness_PresentAttachesAndDetaches :
    (desk.port 2).attached = false ∧ (held.port 0).attached = true ∧ held.grant.holder = some 0 ∧ held.grant.waiting = 1 :: [] ∧
      desk.grant.holder ≠ some 0 ∧ ((punched (.queued 1) desk).punchOf 0).mode = .queued 1 ∧
      ((punched (.recording 1 5) desk).punchOf 0).mode = .recording 1 5 ∧ (looping .running desk).activeGroup = some 2 ∧
      ((looping .running desk).group 2).port = some 1 ∧ 18 + 1 < 20 ∧ 20 ≤ 19 + 1 ∧
      ((held.port 0).attached = true ↔ (held.port 0).presentLevel = .high) ∧ (held.port 0).attached = true ∧
      held.grant.changed = true ∧ (booked held).table.confirmed = true := by decide

/-- The waiting port hears of the holder's detach: REVOKED, TABLE STATE, GRANTED. -/
theorem witness_PresentAttachesAndDetaches_notices :
    ((out (.portDetach 0) (booked held)).port 1).ordinary =
        [.revoked 0 .detach true, .tableState false desk.table.generation 0 .revoke, .granted 1 0 desk.table.generation] ∧
      ((out (.portDetach 1) (looping .running desk)).port 0).ordinary = [.loopState 2 .failed 0 .transportLost none] := by decide

theorem witness_FrameReadsBack : (desk.port 0).attached = true ∧ (desk.port 0).receiver = none ∧
    (List.replicate 63 (0xA7 : Byte)).length ≤ 63 := by decide

theorem witness_FramesFailAndAreAnswered :
    (desk.port 0).attached = true ∧ (desk.port 0).receiver = none ∧ 64 < (65 : Byte).toNat ∧ 1 ≤ (1 : Byte).toNat ∧
      ([0x22, 0] : List Byte).length = (1 : Byte).toNat + 1 ∧ byteSum [1, 0x22, 0] ≠ 0 ∧
      ([0x22] : List Byte).length ≤ (1 : Byte).toNat ∧ (desk.port 2).attached = false ∧
      (0x07 : Byte).toNat ∉ requestCodes ∧ (0xFF : Byte).toNat ∉ requestCodes := by decide

theorem witness_TransmitterTakesPriorityFirst :
    ((lagging held).port 1).priority = [.punchOut 0 301 1 .finish 2124] ∧ ((lagging held).port 1).transmitting = none ∧
      ((punched (.queued 1) (onStage .leadin (some begunA))).punchOf 0).mode = .queued 1 ∧
      ((punched (.queued 1) (onStage .leadin (some begunA))).lane 0).cycle = some begunA ∧
      (looping .locating desk).activeGroup = some 2 ∧ (looping .running desk).activeGroup = some 2 ∧
      ((out (.identify 0 []) desk).port 0).priority = [] ∧ ((out (.identify 0 []) desk).port 0).slot.isSome = true := by decide

/-- P0 without RECORD and without EDIT. -/
def plain (s : State) : State :=
  s.setPort 0 { s.port 0 with roles := { edit := false, record := false, transport := false } }

theorem witness_RequestsAreJudgedInOrder :
    desk.canTake 0 .identify [0] ∧ Request.identify.lengthFits [0] = false ∧ desk.canTake 0 .insertCue cueA.supplied ∧
      Request.insertCue.lengthFits cueA.supplied = true ∧ Request.insertCue.need.roleMet (desk.port 0).roles = true ∧
      Request.insertCue.need.wantsGrant = true ∧ desk.grant.holder ≠ some 0 ∧ (plain desk).canTake 0 .circleTake [1, 1, 1] ∧
      Request.circleTake.need.roleMet ((plain desk).port 0).roles = false ∧ ¬desk.canTake 2 .identify [] ∧
      ¬inReset.canTake 0 .identify [] :=
  ⟨⟨rfl, rfl, rfl, Or.inl rfl⟩, rfl, ⟨rfl, rfl, rfl, Or.inl rfl⟩, by decide, rfl, rfl, by decide, ⟨rfl, rfl, rfl, Or.inl rfl⟩, rfl,
    fun h => (by cases h.2.1), fun h => (by cases h.1)⟩

theorem witness_RequestsAreJudgedInOrder_takes :
    (desk.port 0).receiveQueue = [] ∧
      ((desk.setPort 0 { desk.port 0 with receiveQueue := [.request 0x01 [], .request 0x24 []] }).port 0).receiveQueue =
        .request 0x01 [] :: [.request 0x24 []] ∧
      held.grant.holder = some 0 ∧ held.grant.holder ≠ some 1 ∧ (out (.identify 0 []) held).grant.idle = .running 10000 ∧
      Request.insertCue.lengthFits (List.replicate 16 0 ++ [1, 0x41]) = true ∧
      Request.insertCue.lengthFits (List.replicate 16 0 ++ [2, 0x41]) = false := by decide

theorem witness_TableReadsAnswer :
    desk.admits 0 .tableStatus [] ∧ desk.admits 0 .readCue (num2 0) ∧ (booked desk).admits 0 .readCue (num2 65535) ∧
      (booked desk).record 65535 = none ∧ (booked desk).admits 0 .readCue (num2 301) ∧ (booked desk).record 301 = some cueA ∧
      desk.admits 0 .nextCue (num2 0) ∧ desk.table.records = [] ∧ (booked desk).admits 0 .nextCue (num2 304) ∧
      (booked desk).table.records = [cueA] ++ cueB :: [] ∧ (booked desk).table.records = [] ++ cueA :: [cueB] ∧
      (∀ c ∈ (booked desk).table.records, c.number ≠ 302) ∧ desk.admits 0 .readProfile [BitVec.ofNat 8 7] ∧
      7 < (8 : Byte).toNat ∧ desk.admits 0 .readProfile [8] :=
  ⟨admits_of (by decide), admits_of (by decide), admits_of (by decide), by decide, admits_of (by decide), by decide,
    admits_of (by decide), by decide, admits_of (by decide), by decide, by decide, by decide, admits_of (by decide), by decide,
    admits_of (by decide)⟩

/-- A table of 512 cues (their windows are no matter here). -/
def full (s : State) : State := { s with table := { s.table with records := List.replicate 512 cueB } }

theorem witness_InsertAndAmendCue :
    held.admits 0 .insertCue cueA.supplied ∧ held.admits 0 .insertCue ({ cueA with takeLimit := 0 } : CueRecord).supplied ∧
      (∀ c : CueRecord, 1 ≤ c.takeLimit → c.takeLimit ≤ 99 → ({ cueA with takeLimit := 0 } : CueRecord).supplied ≠ c.supplied) ∧
      cueA.outFrame ≤ cueA.inFrame + 14400 ∧ (∀ b ∈ cueA.slate, 0x20 ≤ b.toNat ∧ b.toNat ≤ 0x7E) ∧ held.record 301 = none ∧
      (booked held).record 301 ≠ none ∧ 512 ≤ (full held).table.records.length ∧ (full held).record 301 = none ∧
      (∃ r ∈ (booked held).table.records, r.number ≠ 305 ∧ r.inFrame ≤ 2182 ∧ 2182 ≤ r.outFrame) ∧
      (booked held).admits 0 .amendCue cueA.supplied ∧ ((onStage .armed (some cycleA)).lane 0).pinned = some 301 ∧
      (∀ l : LaneId, ((booked held).lane l).pinned ≠ some 301) := by
  refine ⟨admits_of (by decide), admits_of (by decide), fun c h1 h2 h => ?_, by decide, by decide, by decide, by decide, by decide +kernel,
    by decide +kernel, by decide, admits_of (by decide), by decide, by decide⟩
  have h3 := congrArg (fun b : List Byte => byteAt b 15) h
  have h4 : byteAt c.supplied 15 = c.takeLimit := by
    have : byteAt c.supplied 15 = (BitVec.ofNat 8 c.takeLimit).toNat := by
      cases hg : c.group <;> cases hr : c.record <;> cases hh : c.hold <;>
        simp [CueRecord.supplied, byteAt, num1, num2, num3, encGroup, encBool, hg, hr, hh]
    rw [this, BitVec.toNat_ofNat]
    omega
  have h5 : byteAt ({ cueA with takeLimit := 0 } : CueRecord).supplied 15 = 0 := by decide
  simp only [h4, h5] at h3
  omega

theorem witness_InsertAndAmendCue_places :
    let c := { cueA with number := 302 }
    let earlier (x y : CueRecord) : Prop :=
      x.reel < y.reel ∨ (x.reel = y.reel ∧ (x.inFrame < y.inFrame ∨ (x.inFrame = y.inFrame ∧ x.number < y.number)))
    [cueA, cueB].Pairwise earlier ∧ (∀ y ∈ [cueA, cueB], y.number ≠ c.number) ∧ placeCue c [cueA, cueB] = [cueA, c, cueB] := by
  decide

theorem witness_OtherTableEdits :
    held.admits 0 .deleteCue (num2 0) ∧ (booked held).admits 0 .deleteCue (num2 301) ∧ (booked held).record 301 ≠ none ∧
      (booked held).record 65535 = none ∧ ((onStage .armed (some cycleA)).lane 0).pinned = some 301 ∧
      (∀ l : LaneId, ((booked held).lane l).pinned ≠ some 301) ∧ (booked held).admits 0 .holdCue (num2 301 ++ [2]) ∧
      1 < (2 : Byte).toNat ∧ (1 : Byte).toNat ≤ 1 ∧ held.admits 0 .clearTable [] ∧
      (∃ c ∈ (onStage .armed (some cycleA)).table.records, ((onStage .armed (some cycleA)).lane 0).pinned = some c.number) ∧
      held.admits 0 .setProfile [7, 240, 4, 60, 8, 8, 120, 240] ∧ held.admits 0 .setProfile [0, 0, 0, 1, 1, 0, 0, 0] ∧
      held.admits 0 .setProfile [8, 0, 0, 1, 1, 0, 0, 0] ∧ cueA.profile = 0 :=
  ⟨admits_of (by decide), admits_of (by decide), by decide, by decide, by decide, by decide, admits_of (by decide), by decide,
    by decide, admits_of (by decide), ⟨cueA, by decide, by decide⟩, admits_of (by decide), admits_of (by decide),
    admits_of (by decide), rfl⟩

theorem witness_SetLaneWritesTheRouting :
    held.admits 0 .setLane [7, 0xFF, 7, 7, 15, 15, 1] ∧ held.admits 0 .setLane [8, 0xFF, 0xFF, 0, 0, 0, 0] ∧
      held.admits 0 .setLane [0, 4, 0xFF, 0, 0, 0, 0] ∧ held.admits 0 .setLane [0, 3, 8, 0, 0, 0, 0] ∧
      held.admits 0 .setLane [0, 3, 0, 8, 0, 0, 0] ∧ held.admits 0 .setLane [0, 3, 0, 0, 16, 16, 2] ∧
      (held.lane 7).mode = .off ∧ ((onStage .standby none).lane 0).mode ≠ .off ∧
      (held.lane 7).routing.recordPort = none ∧ (some (3 : PortId)) ≠ (held.lane 7).routing.recordPort :=
  ⟨admits_of (by decide), admits_of (by decide), admits_of (by decide), admits_of (by decide), admits_of (by decide),
    admits_of (by decide), by decide, by decide, by decide, by decide⟩

theorem witness_EnableDisableCancelLane :
    desk.activeGroup = none ∧ desk.admits 0 .enableLane [BitVec.ofNat 8 (7 : LaneId).val] ∧
      (onStage .leadin (some cycleA)).admits 0 .disableLane [BitVec.ofNat 8 (0 : LaneId).val] ∧
      (onStage .leadin (some cycleA)).admits 0 .cancelLane [BitVec.ofNat 8 (0 : LaneId).val] ∧
      ((onStage .leadin (some cycleA)).lane 0).cycle = some cycleA ∧ cycleA.begun = false ∧
      ((onStage .armed (some cycleA)).lane 0).mode = .armed ∧ ((onStage .standby none).lane 0).mode = .standby ∧
      7 < (8 : Byte).toNat ∧ desk.admits 0 .enableLane [8] ∧ desk.admits 0 .disableLane [8] ∧ desk.admits 0 .cancelLane [8] :=
  ⟨by decide, admits_of (by decide), admits_of (by decide), admits_of (by decide), by decide, rfl, by decide, by decide, by decide,
    admits_of (by decide), admits_of (by decide), admits_of (by decide)⟩

/-! ### States that meet the invariants -/

theorem cueInv_onStage : (onStage .take (some begunA)).cueInv := by
  refine ⟨⟨by decide, by decide, by decide, by decide⟩, fun l => ?_⟩
  by_cases h : l = 0
  · subst h
    exact ⟨by decide, by decide, ⟨begunA, by decide, rfl⟩, cueA, by decide, rfl, rfl, by decide⟩
  · have hl : (onStage .take (some begunA)).lane l = State.reset.lane l := by revert l; decide
    have h1 : (State.reset.lane l).closing = false ∧ (State.reset.lane l).pinned = none ∧
        (State.reset.lane l).mode.inCycle = false ∧ (State.reset.lane l).cycle = none := by
      clear h hl
      revert l
      decide
    unfold State.laneInv
    rw [hl, h1.1, h1.2.1]
    exact ⟨fun e => (by cases e), h1.2.2.1, h1.2.2.2⟩

theorem punchInv_onStage : (punched (.queued 1) (onStage .take (some begunA))).punchInv := by
  refine ⟨by decide, by decide, by decide, fun p l n h => ?_, by decide⟩
  exfalso
  by_cases hl : l = 0
  · subst hl
    have h0 : ((punched (.queued 1) (onStage .take (some begunA))).punchOf 0).mode = .queued 1 := by decide
    rw [h0] at h
    cases h
  · have h1 : ((punched (.queued 1) (onStage .take (some begunA))).punchOf l).mode = .idle := by
      clear h
      revert l
      decide
    rw [h1] at h
    cases h

theorem loopInv_looping : (looping .locating (onStage .take (some begunA))).loopInv :=
  ⟨by decide, by decide, by decide⟩

theorem witness_ClearStageClears :
    (punched (.queued 1) (onStage .take (some begunA))).admits 0 .clearStage [] ∧
      (punched (.queued 1) (onStage .take (some begunA))).cueInv ∧ (punched (.queued 1) (onStage .take (some begunA))).punchInv ∧
      (punched (.queued 1) (onStage .take (some begunA))).loopInv :=
  ⟨admits_of (by decide), cueInv_onStage, punchInv_onStage, ⟨by decide, by decide, by decide⟩⟩

/-- An active group with a transport port and a begun take, in a state that meets the invariants. -/
theorem witness_ClearStageClears_group :
    (looping .locating (onStage .take (some begunA))).activeGroup = some 2 ∧
      ((looping .locating (onStage .take (some begunA))).group 2).port = some 1 ∧
      ((looping .locating (onStage .take (some begunA))).lane 0).cycle = some begunA ∧ begunA.begun = true ∧
      ((out (.clearStage 0 []) (looping .running (onStage .take (some begunA)))).port 1).priority = [.halt 2 .clear] := by
  decide +kernel

theorem witness_StepKeepsTheTracker : (tracking .freewheel 1048575 0 3 .stopped (.running 1)).trackerInv ∧
    (∃ t, step (tracking .freewheel 1048575 0 3 .stopped (.running 1)) = .next t) := by
  refine ⟨⟨by unfold Params.wf; decide, ⟨by decide, by decide, fun q h => ?_, by decide, by decide, by decide, by decide, by decide,
    by decide, by decide, by decide, by decide, by decide⟩⟩, _, rfl⟩
  cases h
  unfold Position.wf
  decide

theorem witness_StepKeepsTheGrant : held.grantInv ∧ (∃ t, step held = .next t) :=
  ⟨⟨by decide, fun p h => by
      have hp : p = 1 := by revert p; decide
      subst hp
      exact ⟨by decide, by decide⟩, by decide, ⟨by decide, by decide⟩, by decide⟩, _, rfl⟩

theorem witness_StepKeepsTheJournal : (logged desk).journalInv ∧ (∃ t, step (logged desk) = .next t) :=
  ⟨⟨by decide, by decide, by decide, by decide, fun n h => by cases h; decide⟩, _, rfl⟩

theorem witness_StepKeepsThePorts : desk.portsInv ∧ (∃ t, step desk = .next t) ∧
    (punched (.queued 1) (onStage .take (some begunA))).punchInv :=
  ⟨fun p => by unfold Port.wf; revert p; decide, ⟨_, rfl⟩, punchInv_onStage⟩

theorem witness_StepKeepsTheLoop : (looping .locating (onStage .take (some begunA))).loopInv ∧
    (∃ t, step (looping .locating (onStage .take (some begunA))) = .next t) := ⟨loopInv_looping, _, rfl⟩

theorem witness_StepKeepsTheCues : (onStage .take (some begunA)).cueInv ∧
    (∃ t, step (onStage .take (some begunA)) = .next t) := ⟨cueInv_onStage, _, rfl⟩

theorem witness_StepKeepsThePunches : (punched (.queued 1) (onStage .take (some begunA))).punchInv ∧
    (∃ t, step (punched (.queued 1) (onStage .take (some begunA))) = .next t) := ⟨punchInv_onStage, _, rfl⟩

theorem witness_StepKeepsTheOverlay : (marked .waiting desk).overlayInv ∧ (∃ t, step (marked .waiting desk) = .next t) :=
  ⟨⟨by decide, fun l c h => by revert l c; decide, by decide⟩, _, rfl⟩

/-! ### The rest of the requests -/

theorem witness_ReadyTallyReconfirm :
    desk.admits 0 .ready [8, 0] ∧ desk.admits 0 .ready [0, 2] ∧ 7 < (8 : Byte).toNat ∧ 1 < (2 : Byte).toNat ∧
      (onStage .standby none).admits 1 .ready [BitVec.ofNat 8 (0 : LaneId).val, 1] ∧
      ((onStage .standby none).lane 0).routing.recordPort = some 1 ∧ ((onStage .standby none).port 1).roles.record = true ∧
      (desk.lane 0).routing.recordPort ≠ some 1 ∧ desk.admits 0 .tally [8] ∧
      (punched (.recording 0 5) desk).admits 0 .tally [BitVec.ofNat 8 (0 : LaneId).val] ∧
      ((punched (.recording 0 5) desk).punchOf 0).mode = .recording 0 5 ∧ (desk.punchOf 0).mode = .idle ∧
      desk.admits 0 .reconfirm [] :=
  ⟨admits_of (by decide), admits_of (by decide), by decide, by decide, admits_of (by decide), by decide, by decide, by decide,
    admits_of (by decide), admits_of (by decide), by decide, by decide, admits_of (by decide)⟩

theorem witness_StartAndStopLoop :
    desk.admits 0 .startLoop [0, 0, 0, 0] ∧ desk.admits 0 .startLoop [17, 0, 0, 0] ∧ desk.admits 0 .startLoop [16, 100, 0, 0] ∧
      desk.admits 0 .startLoop [16, 99, 1, 0xE1] ∧ 480 < wordAt [16, 99, 1, 0xE1] 2 ∧
      (onStage .standby none).admits 0 .startLoop [3, 99, 1, 0xE0] ∧ wordAt [3, 99, 1, 0xE0] 2 ≤ 480 ∧
      (looping .running desk).activeGroup ≠ none ∧ desk.activeGroup = none ∧
      (∀ q : PortId, ¬((plain (State.setPort desk 1 (State.reset.port 1))).port q).roles.transport = true) ∧
      (desk.port 0).attached = true ∧ (desk.port 0).roles.transport = true ∧ (∀ r : PortId, ¬r < 0) ∧
      desk.armableMembers 2 = [] ∧ (onStage .standby none).armableMembers 2 = cueA :: [cueB] ∧ cueB.reel = cueA.reel ∧
      cueA.reel ≠ ({ cueB with reel := 8 } : CueRecord).reel ∧
      desk.admits 0 .stopLoop [0] ∧ desk.admits 0 .stopLoop [17] ∧ (looping .running desk).admits 0 .stopLoop [3] ∧
      (looping .running desk).activeGroup = some 2 ∧ ((looping .running desk).group 2).port = some 1 ∧
      (looping .running desk).activeGroup ≠ some 15 :=
  ⟨admits_of (by decide), admits_of (by decide), admits_of (by decide), admits_of (by decide), by decide, admits_of (by decide),
    by decide, by decide, by decide, by decide, by decide, by decide, by decide, by decide, by decide, rfl, by decide,
    admits_of (by decide), admits_of (by decide), admits_of (by decide), by decide, by decide, by decide⟩

theorem witness_CircleUncircleTrim :
    desk.admits 0 .circleTake (num2 0 ++ [1]) ∧ desk.admits 0 .circleTake (num2 1 ++ [0]) ∧ desk.admits 0 .circleTake (num2 1 ++ [100]) ∧
      (logged desk).admits 0 .circleTake (num2 65535 ++ [99]) ∧ (logged desk).admits 0 .circleTake (num2 301 ++ [1]) ∧
      (logged desk).journal.entries = [] ++ entryA :: [{ entryA with sequence := 2, take := 2, circled := false }] ∧
      (∀ y ∈ [{ entryA with sequence := 2, take := 2, circled := false }], ¬(y.cue = 301 ∧ y.take = (1 : Byte).toNat)) ∧
      (∀ y ∈ (logged desk).journal.entries, ¬(y.cue = 65535 ∧ y.take = (99 : Byte).toNat)) ∧
      (logged desk).admits 0 .uncircleTake (num2 301 ++ [1]) ∧ (logged desk).record 301 = none ∧
      (logged (booked desk)).record 301 = some cueA ∧ held.admits 0 .trimJournal [0] ∧ held.admits 0 .trimJournal [1] ∧
      held.admits 0 .trimJournal [2] :=
  ⟨admits_of (by decide), admits_of (by decide), admits_of (by decide), admits_of (by decide), admits_of (by decide), by decide,
    by decide, by decide, admits_of (by decide), by decide, by decide, admits_of (by decide), admits_of (by decide),
    admits_of (by decide)⟩

theorem witness_SetLineWritesTheSettings :
    held.admits 0 .setLine [8, 0, 0, 0, 1] ∧ held.admits 0 .setLine [15, 0, 0, 0, 1] ∧ held.admits 0 .setLine [24, 0, 0, 0, 0] ∧
      held.admits 0 .setLine [7, 0x27, 1, 1, 15] ∧ (InputFunction.circleLast 7).code = byteAt [7, 0x27, 1, 1, 15] 1 ∧
      held.admits 0 .setLine [0, 0, 0, 0, 1] ∧ InputFunction.none.code = 0 ∧ held.admits 0 .setLine [0, 0, 2, 2, 16] ∧
      (∀ f : InputFunction, f.code ≠ 3) ∧ held.admits 0 .setLine [0x17, 0x27, 0, 1, 1] ∧
      (OutputFunction.recordTally 7).code = byteAt [0x17, 0x27, 0, 1, 1] 1 ∧ held.admits 0 .setLine [0x10, 6, 1, 2, 2] ∧
      (∀ f : OutputFunction, f.code ≠ 6) ∧ ¬held.hasEdgeHold = true ∧ (wired .directorHold .edge held).hasEdgeHold = true :=
  ⟨admits_of (by decide), admits_of (by decide), admits_of (by decide), admits_of (by decide), by decide, admits_of (by decide), rfl,
    admits_of (by decide), fun f => by cases f <;> simp [InputFunction.code] <;> omega, admits_of (by decide), by decide,
    admits_of (by decide), fun f => by cases f <;> simp [OutputFunction.code] <;> omega, by decide, by decide⟩

theorem witness_SetLineWritesTheSettings_conditions :
    (punched (.queued 1) desk).recordTally 0 = true ∧ (lagging desk).recordTally 0 = true ∧ desk.recordTally 0 = false ∧
      desk.outputActive 0 = false ∧ desk.resetHeld = false ∧
      (desk.setOutput 0 { desk.output 0 with function := .manualOn }).outputActive 0 = true ∧
      (desk.setMarkLane 0 { desk.markLane 0 with setup := some setupA, pip := some 3 }).toneSounding 0 = true ∧
      desk.toneSounding 0 = false := by decide

theorem witness_SettingsAndNotices :
    desk.admits 0 .setParameters [24, 2, 0, 16, 0, 1, 1, 0] ∧ desk.admits 0 .setParameters [48, 15, 15, 128, 2, 60, 30, 255] ∧
      desk.admits 0 .setParameters [24, 1, 16, 15, 3, 0, 31, 0] ∧
      (tracking .freewheel 5 0 3 .stopped (.running 9)).tracker.freewheel > 2 ∧
      ((onStage .armed (some cycleA)).lane 0).mode ≠ .off ∧ ((onStage .armed (some cycleA)).lane 0).mode ≠ .standby ∧
      held.admits 0 .configurePort [4, 0, 0, 0, 1] ∧ held.admits 0 .configurePort [0, 8, 128, 5, 33] ∧
      held.admits 0 .configurePort [3, 7, 127, 4, 32] ∧ held.admits 0 .configurePort [0, 0, 0, 0, 1] ∧
      (held.port 0).roles.edit = true ∧ held.grant.holder = some 0 ∧
      ((punched (.queued 1) held).punchOf 0).mode = .queued 1 ∧ (held.port 1).roles.record = true ∧
      ((looping .running held).group 2).port = some 1 ∧ (held.port 1).transmitting = none ∧
      ((out (.transmitTake 0) (out (.identify 0 []) held)).port 0).transmitting.isSome = true ∧ desk.admits 0 .fetchNotices [] :=
  ⟨admits_of (by decide), admits_of (by decide), admits_of (by decide), by decide, by decide, by decide, admits_of (by decide),
    admits_of (by decide), admits_of (by decide), admits_of (by decide), by decide, by decide, by decide, by decide, by decide,
    by decide, by decide, admits_of (by decide)⟩

theorem witness_StateReadsAnswer :
    desk.admits 0 .identify [] ∧ desk.admits 0 .portStatus [4] ∧ desk.admits 0 .portStatus [BitVec.ofNat 8 (3 : PortId).val] ∧
      desk.admits 0 .readParameters [] ∧ desk.admits 0 .trackerStatus [] ∧ desk.admits 0 .readLane [8] ∧
      desk.admits 0 .readLane [BitVec.ofNat 8 (7 : LaneId).val] ∧ desk.admits 0 .readLoop [0] ∧ desk.admits 0 .readLoop [17] ∧
      desk.admits 0 .readLoop [BitVec.ofNat 8 ((15 : GroupId).val + 1)] ∧ desk.admits 0 .readJournal (num3 0) ∧
      desk.admits 0 .readJournal (num3 16777215) ∧ desk.admits 0 .readLines [] :=
  ⟨admits_of (by decide), admits_of (by decide), admits_of (by decide), admits_of (by decide), admits_of (by decide),
    admits_of (by decide), admits_of (by decide), admits_of (by decide), admits_of (by decide), admits_of (by decide),
    admits_of (by decide), admits_of (by decide), admits_of (by decide)⟩

end Sys2Proof.Tests
end

section
/-! ## The Cue Table and the pins: what their invariant looks at

`State.cueInv` reads the records but for their hold and circled take, and of each lane its mode, its pin, the cue of its cycle
record and its closing flag. Operations that leave these alone keep the invariant (`SameCues.cueInv`); the others are the table's
edits and the lanes' claims, each treated once below. -/

namespace Sys2Proof.Machine

set_option Elab.async false

/-! ### Table order and overlaps (R2, R6) -/

/-- Table order, written out (R2). -/
theorem cueBefore_iff (a b : CueRecord) :
    cueBefore a b = true ↔
      a.reel < b.reel ∨ (a.reel = b.reel ∧ (a.inFrame < b.inFrame ∨ (a.inFrame = b.inFrame ∧ a.number < b.number))) := by
  simp [cueBefore]

theorem cueBefore_trans {a b c : CueRecord} (hab : cueBefore a b = true) (hbc : cueBefore b c = true) : cueBefore a c = true := by
  rw [cueBefore_iff] at *
  omega

/-- Of two records with different cue numbers one comes first. -/
theorem cueBefore_of_not {a b : CueRecord} (hn : a.number ≠ b.number) (h : ¬cueBefore a b = true) : cueBefore b a = true := by
  rw [cueBefore_iff] at *
  omega

/-- The overlap check finds a record of another number whose window meets the cue's on its lane and reel (R6). -/
theorem overlaps_iff (c : CueRecord) (rs : List CueRecord) :
    overlaps c rs = true ↔
      ∃ r ∈ rs, r.number ≠ c.number ∧ r.lane = c.lane ∧ r.reel = c.reel ∧ c.inFrame ≤ r.outFrame ∧ r.inFrame ≤ c.outFrame := by
  simp [overlaps, and_assoc]

theorem overlaps_eq_false_iff (c : CueRecord) (rs : List CueRecord) : overlaps c rs = false ↔ ∀ r ∈ rs, overlaps c [r] = false := by
  simp [overlaps]

/-- Sharing a frame is mutual. -/
theorem overlaps_singleton_comm (a b : CueRecord) : overlaps a [b] = overlaps b [a] := by
  rw [Bool.eq_iff_iff, overlaps_iff, overlaps_iff]
  simp only [List.mem_singleton, exists_eq_left]
  constructor <;> rintro ⟨hn, hl, hr, hab, hba⟩ <;> exact ⟨hn.symm, hl.symm, hr.symm, hba, hab⟩

/-! ### The records as a list (R2, R6) -/

/-- The records' part of the table's invariant, as a property of the list. -/
def CuesOk (rs : List CueRecord) : Prop :=
  rs.length ≤ Config.tableCapacity ∧ rs.Pairwise (fun a b => cueBefore a b = true) ∧
    rs.Pairwise (fun a b => a.number ≠ b.number ∧ overlaps a [b] = false) ∧ ∀ c ∈ rs, c.takeCount ≤ c.takeLimit

theorem tableInv_iff (s : State) : s.tableInv ↔ CuesOk s.table.records := Iff.rfl

/-- A cue number names one record of the table. -/
theorem CuesOk.eq_of_number {rs : List CueRecord} (h : CuesOk rs) {a b : CueRecord} (ha : a ∈ rs) (hb : b ∈ rs)
    (hn : a.number = b.number) : a = b := by
  obtain ⟨-, -, hapart, -⟩ := h
  have hnum : (rs.map CueRecord.number).Nodup := List.pairwise_map.mpr (hapart.imp And.left)
  exact List.inj_on_of_nodup_map hnum ha hb hn

/-- Dropping records keeps the table's order and windows. -/
theorem CuesOk.filter {rs : List CueRecord} (h : CuesOk rs) (f : CueRecord → Bool) : CuesOk (rs.filter f) := by
  obtain ⟨hlen, horder, hapart, hcount⟩ := h
  exact ⟨(List.length_filter_le f rs).trans hlen, horder.filter f, hapart.filter f,
    fun c hc => hcount c (List.mem_of_mem_filter hc)⟩

/-- Changing only holds, counts and circled takes keeps the table's order and windows, as long as the counts keep to their limits. -/
theorem CuesOk.map {rs : List CueRecord} (h : CuesOk rs) {f : CueRecord → CueRecord}
    (hf : ∀ c, ∃ hold count circled, f c = { c with hold := hold, takeCount := count, circled := circled })
    (hcount : ∀ c ∈ rs, (f c).takeCount ≤ (f c).takeLimit) : CuesOk (rs.map f) := by
  obtain ⟨hlen, horder, hapart, -⟩ := h
  refine ⟨by simpa using hlen, ?_, ?_, by simpa using hcount⟩
  · refine List.pairwise_map.mpr (horder.imp fun {a b} hab => ?_)
    obtain ⟨_, _, _, ha⟩ := hf a
    obtain ⟨_, _, _, hb⟩ := hf b
    rw [ha, hb]
    exact hab
  · refine List.pairwise_map.mpr (hapart.imp fun {a b} hab => ?_)
    obtain ⟨_, _, _, ha⟩ := hf a
    obtain ⟨_, _, _, hb⟩ := hf b
    rw [ha, hb]
    exact hab

theorem mem_placeCue {c x : CueRecord} {rs : List CueRecord} : x ∈ placeCue c rs ↔ x = c ∨ x ∈ rs := by
  induction rs with
  | nil => simp [placeCue]
  | cons r rs ih =>
    unfold placeCue
    split
    · simp
    · simp only [List.mem_cons, ih]
      tauto

@[simp] theorem length_placeCue (c : CueRecord) (rs : List CueRecord) : (placeCue c rs).length = rs.length + 1 := by
  induction rs with
  | nil => rfl
  | cons r rs ih =>
    unfold placeCue
    split
    · rfl
    · simp [ih]

/-- A record that takes its place stands between the records before it and the rest (R2). -/
theorem placeCue_split (c : CueRecord) (rs : List CueRecord) :
    ∃ before after : List CueRecord, rs = before ++ after ∧ placeCue c rs = before ++ c :: after ∧
      (∀ y ∈ before, ¬cueBefore c y = true) ∧ ∀ y ∈ after.head?, cueBefore c y = true := by
  induction rs with
  | nil => exact ⟨[], [], rfl, rfl, by simp, by simp⟩
  | cons r rs ih =>
    by_cases h : cueBefore c r = true
    · exact ⟨[], r :: rs, rfl, by simp [placeCue, h], by simp, by simpa using h⟩
    · obtain ⟨before, after, hrs, hplace, hbefore, hafter⟩ := ih
      refine ⟨r :: before, after, by simp [hrs], by simp [placeCue, h, hplace], ?_, hafter⟩
      intro y hy
      rcases List.mem_cons.mp hy with rfl | hy
      · exact h
      · exact hbefore y hy

/-- A record of a new number stands in table order among records that do (R2). -/
theorem pairwise_placeCue {c : CueRecord} {rs : List CueRecord} (h : rs.Pairwise fun a b => cueBefore a b = true)
    (hnew : ∀ y ∈ rs, y.number ≠ c.number) : (placeCue c rs).Pairwise fun a b => cueBefore a b = true := by
  induction rs with
  | nil => simp [placeCue]
  | cons r rs ih =>
    obtain ⟨hr, hrs⟩ := List.pairwise_cons.mp h
    unfold placeCue
    split
    · next hc =>
      refine List.pairwise_cons.mpr ⟨fun y hy => ?_, h⟩
      rcases List.mem_cons.mp hy with rfl | hy
      · exact hc
      · exact cueBefore_trans hc (hr y hy)
    · next hc =>
      refine List.pairwise_cons.mpr ⟨fun y hy => ?_, ih hrs fun y hy => hnew y (List.mem_cons_of_mem r hy)⟩
      rcases mem_placeCue.mp hy with rfl | hy
      · exact cueBefore_of_not (hnew r (by simp)).symm hc
      · exact hr y hy

theorem perm_placeCue (c : CueRecord) (rs : List CueRecord) : (placeCue c rs).Perm (c :: rs) := by
  obtain ⟨before, after, hrs, hplace, -, -⟩ := placeCue_split c rs
  rw [hplace, hrs]
  exact List.perm_middle

/-- A record of a new number that fits the windows takes its place in a table that has room for it (R2, R6). -/
theorem CuesOk.placeCue {c : CueRecord} {rs : List CueRecord} (h : CuesOk rs) (hroom : rs.length < Config.tableCapacity)
    (hnew : ∀ y ∈ rs, y.number ≠ c.number) (hapart : overlaps c rs = false) (hcount : c.takeCount ≤ c.takeLimit) :
    CuesOk (placeCue c rs) := by
  obtain ⟨-, horder, hrs, hcounts⟩ := h
  refine ⟨by simpa using hroom, pairwise_placeCue horder hnew, ?_, fun y hy => ?_⟩
  · have hcons : (c :: rs).Pairwise fun a b => a.number ≠ b.number ∧ overlaps a [b] = false :=
      List.pairwise_cons.mpr ⟨fun y hy => ⟨(hnew y hy).symm, (overlaps_eq_false_iff c rs).mp hapart y hy⟩, hrs⟩
    refine hcons.perm (perm_placeCue c rs).symm fun {a b} hab => ⟨hab.1.symm, ?_⟩
    rw [overlaps_singleton_comm]
    exact hab.2
  · rcases mem_placeCue.mp hy with rfl | hy
    · exact hcount
    · exact hcounts y hy

/-! ### A lane's pin (R20, R22, R67) -/

/-- What the invariant reads of a lane. -/
structure PinView where
  mode : LaneMode
  pinned : Option Nat
  cue : Option Nat
  closing : Bool

/-- A lane's mode, pin, the cue of its cycle record, and its closing flag. -/
def Lane.view (x : Lane) : PinView where
  mode := x.mode
  pinned := x.pinned
  cue := x.cycle.map fun c => c.cue
  closing := x.closing

/-- The parts agree with each other, and the pinned record is in the table under the lane's number with takes left. -/
def PinView.fits (x : PinView) (l : LaneId) (rs : List CueRecord) : Prop :=
  (x.closing = true → x.mode.running = true) ∧ x.cue = x.pinned ∧ x.pinned.isSome = x.mode.inCycle ∧
    ∀ n, x.pinned = some n → ∃ c ∈ rs, c.number = n ∧ c.lane = l ∧ c.takeCount < c.takeLimit

theorem laneInv_iff (s : State) (l : LaneId) : s.laneInv l ↔ (s.lane l).view.fits l s.table.records := by
  unfold State.laneInv PinView.fits Lane.view
  refine and_congr Iff.rfl ?_
  cases (s.lane l).pinned with
  | none =>
    constructor
    · rintro ⟨hmode, hcycle⟩
      exact ⟨by simp [hcycle], hmode.symm, by simp⟩
    · rintro ⟨hcue, hmode, -⟩
      exact ⟨hmode.symm, Option.map_eq_none_iff.mp hcue⟩
  | some n =>
    constructor
    · rintro ⟨hmode, ⟨y, hcycle, hy⟩, hrec⟩
      exact ⟨by simp [hcycle, hy], hmode.symm, fun m hm => Option.some.inj hm ▸ hrec⟩
    · rintro ⟨hcue, hmode, hrec⟩
      exact ⟨hmode.symm, Option.map_eq_some_iff.mp hcue, hrec n rfl⟩

/-! ### What leaves the invariant alone -/

/-- A record without what the invariant does not read: its hold and its circled take. -/
def CueRecord.core (c : CueRecord) : CueRecord := { c with hold := false, circled := none }

/-- What the invariant reads is the same in two states. -/
def SameCues (s t : State) : Prop :=
  t.table.records.map CueRecord.core = s.table.records.map CueRecord.core ∧ ∀ k : LaneId, (t.lane k).view = (s.lane k).view

theorem cuesOk_map_core (rs : List CueRecord) : CuesOk (rs.map CueRecord.core) ↔ CuesOk rs := by
  unfold CuesOk
  rw [List.length_map, List.pairwise_map, List.pairwise_map, List.forall_mem_map]
  exact Iff.rfl

theorem PinView.fits_map_core (x : PinView) (l : LaneId) (rs : List CueRecord) :
    x.fits l (rs.map CueRecord.core) ↔ x.fits l rs := by
  unfold PinView.fits
  simp only [List.mem_map, exists_exists_and_eq_and]
  exact Iff.rfl

theorem SameCues.tableInv {s t : State} (h : SameCues s t) (hs : s.tableInv) : t.tableInv := by
  rw [tableInv_iff, ← cuesOk_map_core] at hs ⊢
  rwa [h.1]

theorem SameCues.laneInv {s t : State} (h : SameCues s t) {l : LaneId} (hs : s.laneInv l) : t.laneInv l := by
  rw [laneInv_iff, ← PinView.fits_map_core] at hs ⊢
  rwa [h.1, h.2]

theorem SameCues.cueInv {s t : State} (h : SameCues s t) (hs : s.cueInv) : t.cueInv :=
  ⟨h.tableInv hs.1, fun l => h.laneInv (hs.2 l)⟩

theorem SameCues.refl (s : State) : SameCues s s := ⟨rfl, fun _ => rfl⟩

theorem SameCues.trans {s t u : State} (h : SameCues s t) (h' : SameCues t u) : SameCues s u :=
  ⟨h'.1.trans h.1, fun k => (h'.2 k).trans (h.2 k)⟩

theorem SameCues.ite {c : Prop} [Decidable c] {s t u : State} (ht : c → SameCues s t) (hu : ¬c → SameCues s u) :
    SameCues s (if c then t else u) := by
  by_cases h : c
  · rw [if_pos h]; exact ht h
  · rw [if_neg h]; exact hu h

theorem SameCues.foldl {α : Type} {f : State → α → State} (h : ∀ s x, SameCues s (f s x)) :
    ∀ (xs : List α) (s : State), SameCues s (xs.foldl f s)
  | [], s => .refl s
  | x :: xs, s => (h s x).trans (SameCues.foldl h xs (f s x))

/-- An operation that leaves the table and the lanes. -/
theorem SameCues.of_touches {xs : List Part} {s t : State} (h : TouchesOnly xs s t) (htable : Part.table ∉ xs := by decide)
    (hlanes : Part.lanes ∉ xs := by decide) : SameCues s t := by
  have et : t.table = s.table := h .table htable
  have el : t.lanes = s.lanes := h .lanes hlanes
  exact ⟨by rw [et], fun k => by rw [State.lane, el]; rfl⟩

/-- An operation that leaves the lanes, and the records but for holds and circled takes. -/
theorem SameCues.of_records {xs : List Part} {s t : State} (h : TouchesOnly xs s t)
    (hr : t.table.records.map CueRecord.core = s.table.records.map CueRecord.core) (hlanes : Part.lanes ∉ xs := by decide) :
    SameCues s t := by
  have el : t.lanes = s.lanes := h .lanes hlanes
  exact ⟨hr, fun k => by rw [State.lane, el]; rfl⟩

/-- An operation that leaves the table and, of the lanes, all but the flags of their cycle records. -/
theorem SameCues.of_flagsOnly {xs : List Part} {s t : State} (h : TouchesOnly xs s t) (hf : FlagsOnly s t)
    (htable : Part.table ∉ xs := by decide) : SameCues s t := by
  have et : t.table = s.table := h .table htable
  refine ⟨by rw [et], fun k => ?_⟩
  obtain ⟨f, hk⟩ := hf k
  rw [hk]
  unfold Lane.view
  rw [Option.map_map]
  rfl

/-- Writing a lane with the mode, pin, cue and closing flag it had. -/
theorem SameCues.setLane {s : State} {l : LaneId} {x : Lane} (h : x.view = (s.lane l).view) : SameCues s (s.setLane l x) := by
  refine ⟨rfl, fun k => ?_⟩
  rw [State.lane_setLane]
  split
  · next hk => rw [h, hk]
  · rfl

/-- A change of a cycle record that keeps its cue. -/
theorem sameCues_modCycle {l : LaneId} {f : CycleRecord → CycleRecord} (hf : ∀ c, (f c).cue = c.cue) (s : State) :
    SameCues s (modCycle l f s) := by
  refine .setLane ?_
  unfold Lane.view
  simp [Function.comp_def, hf]

/-- Changing holds and circled takes leaves the rest of the records. -/
theorem map_core_map {rs : List CueRecord} {f : CueRecord → CueRecord} (hf : ∀ c, (f c).core = c.core) :
    (rs.map f).map CueRecord.core = rs.map CueRecord.core := by
  rw [List.map_map]
  exact List.map_congr_left fun c _ => hf c

theorem map_core_changeCue {n : Nat} {rs : List CueRecord} {f : CueRecord → CueRecord} (hf : ∀ c, (f c).core = c.core) :
    (changeCue n f rs).map CueRecord.core = rs.map CueRecord.core := by
  refine map_core_map fun c => ?_
  split
  · exact hf c
  · rfl

end Sys2Proof.Machine
end

section
/-! ## Operations that leave alone what the cue invariant reads

One lemma for each operation that touches the table or the lanes without changing what `State.cueInv` reads of them. The
operations that touch neither need no lemma of their own: `SameCues.of_touches`. -/

namespace Sys2Proof.Machine

set_option Elab.async false

/-! ### The grant (R30, R34, R36) -/

theorem table_passGrant (s : State) : (passGrant s).table = s.table := touches_passGrant s .table (by decide)

theorem table_post (c : NoticeClass) (n : Notice) (s : State) : (post c n s).table = s.table := rfl

theorem records_revoke (p : PortId) (c : RevokeCause) (s : State) : (revoke p c s).table.records = s.table.records := by
  unfold revoke
  rw [table_passGrant]
  dsimp only [State.freeGrant]
  split <;> rfl

theorem records_releaseByHolder (p : PortId) (s : State) : (releaseByHolder p s).table.records = s.table.records := by
  unfold releaseByHolder
  rw [table_passGrant]
  dsimp only [State.freeGrant]
  split <;> rfl

theorem sameCues_revoke (p : PortId) (c : RevokeCause) (s : State) : SameCues s (revoke p c s) :=
  .of_records (touches_revoke p c s) (by rw [records_revoke])

theorem sameCues_releaseByHolder (p : PortId) (s : State) : SameCues s (releaseByHolder p s) :=
  .of_records (touches_releaseByHolder p s) (by rw [records_releaseByHolder])

theorem sameCues_grantDetach (p : PortId) (s : State) : SameCues s (grantDetach p s) :=
  .ite (fun _ => sameCues_revoke p _ s) fun _ => .of_touches (touches_grant s _)

theorem sameCues_idleExpiry (s : State) : SameCues s (idleExpiry s) := by
  unfold idleExpiry
  split
  · exact .refl s
  · exact .ite (fun _ => sameCues_revoke _ _ s) fun _ => .refl s

/-! ### Circled takes and the take journal (R23, R150 to R156) -/

theorem sameCues_changeCue {n : Nat} {f : CueRecord → CueRecord} (hf : ∀ c, (f c).core = c.core) (s : State) :
    SameCues s (s.setRecords (changeCue n f s.table.records)) :=
  .of_records (touches_setRecords s _) (map_core_changeCue hf)

theorem sameCues_setCircled (cue take : Nat) (s : State) : SameCues s (setCircled cue take s) :=
  sameCues_changeCue (by intro c; rfl) s

theorem sameCues_clearCircled (cue take : Nat) (s : State) : SameCues s (clearCircled cue take s) := by
  refine sameCues_changeCue (fun c => ?_) s
  split <;> rfl

theorem sameCues_clearAllCircled (s : State) : SameCues s (clearAllCircled s) :=
  .of_records (touches_setRecords s _) (map_core_map fun _ => rfl)

theorem sameCues_setEntries (s : State) (es : List JournalEntry) : SameCues s (s.setEntries es) :=
  .of_touches (touches_setEntries s es)

theorem sameCues_post (c : NoticeClass) (n : Notice) (s : State) : SameCues s (post c n s) := .of_touches (touches_post c n s)

theorem sameCues_evictCircled (e : JournalEntry) (rest : List JournalEntry) (s : State) :
    SameCues s (evictCircled e rest s) := by
  unfold evictCircled
  refine (sameCues_setEntries s rest).trans (SameCues.trans ?_ (sameCues_post _ _ _))
  exact .ite (fun _ => sameCues_clearCircled _ _ _) fun _ => .refl _

theorem sameCues_makeRoom (s : State) : SameCues s (makeRoom s) := by
  unfold makeRoom
  refine .ite (fun _ => .refl s) fun _ => .ite (fun _ => sameCues_setEntries s _) fun _ => ?_
  split
  · exact .refl s
  · exact sameCues_evictCircled _ _ s

theorem sameCues_journalWrite (e : JournalEntry) (s : State) : SameCues s (journalWrite e s).1 := by
  unfold journalWrite
  split
  · exact .refl s
  · split
    · exact .refl s
    · exact (sameCues_makeRoom s).trans (.of_touches (touches_appendEntry _ _ _))

theorem sameCues_circle (e : JournalEntry) (x : CircleSource) (s : State) : SameCues s (circle e x s) :=
  ((sameCues_setEntries s _).trans (sameCues_setCircled _ _ _)).trans (sameCues_post _ _ _)

theorem sameCues_uncircle (e : JournalEntry) (x : CircleSource) (s : State) : SameCues s (uncircle e x s) :=
  ((sameCues_setEntries s _).trans (sameCues_clearCircled _ _ _)).trans (sameCues_post _ _ _)

theorem sameCues_circleLast (l : LaneId) (i : LineId) (s : State) : SameCues s (circleLast l i s) := by
  unfold circleLast
  split
  · exact .refl s
  · exact sameCues_circle _ _ s

/-! ### The Punch Unit (R125, R127, R129) -/

theorem sameCues_breakTake (l : LaneId) (p : PortId) (s : State) : SameCues s (breakTake l p s) :=
  (SameCues.of_touches (touches_setPunch s l _)).trans (sameCues_modCycle (by intro c; rfl) _)

theorem sameCues_tallyFailure (l : LaneId) (p : PortId) (s : State) : SameCues s (tallyFailure l p s) := by
  unfold tallyFailure
  refine SameCues.trans ?_ ((SameCues.of_touches (touches_setLink _ p _)).trans (sameCues_breakTake l p _))
  split
  · exact .refl s
  · exact .of_touches (touches_postPunch _ _ s)

theorem sameCues_punchLaneAdvance (n : Nat) (s : State) (l : LaneId) : SameCues s (punchLaneAdvance n s l) := by
  unfold punchLaneAdvance
  split
  · refine .ite (fun _ => ?_) fun _ => .refl s
    unfold tallyCheck
    exact (SameCues.of_touches (touches_setPunch s l _)).trans
      (.ite (fun _ => sameCues_tallyFailure l _ _) fun _ => .refl _)
  all_goals exact .refl s

theorem sameCues_punchDetachLane (p : PortId) (s : State) (l : LaneId) : SameCues s (punchDetachLane p s l) := by
  have hready : ∀ t : State, SameCues t
      (if (t.lane l).routing.recordPort = some p then t.setPunch l { t.punchOf l with ready := false } else t) :=
    fun t => .ite (fun _ => .of_touches (touches_setPunch t l _)) fun _ => .refl t
  unfold punchDetachLane
  refine SameCues.trans ?_ (hready _)
  split
  · exact .refl s
  · exact .refl s
  · exact .ite (fun _ => .of_touches (touches_setPunch s l _)) fun _ => .refl s
  · exact .ite (fun _ => sameCues_breakTake l p s) fun _ => .refl s
  · exact .refl s

theorem sameCues_detachPort (p : PortId) (s : State) : SameCues s (detachPort p s) :=
  .ite
    (fun _ => (((SameCues.of_touches (touches_setPort s p _)).trans (sameCues_grantDetach p _)).trans
      (SameCues.foldl (sameCues_punchDetachLane p) _ _)).trans (.of_touches (touches_loopDetach p _)))
    fun _ => .refl s

theorem sameCues_samplePresent (p : PortId) (v : Level) (s : State) : SameCues s (samplePresent p v s) := by
  have hset : ∀ x, SameCues s (s.setPort p x) := fun x => .of_touches (touches_setPort s p x)
  refine .ite (fun _ => hset _) fun _ => .ite (fun _ => hset _) fun _ => ?_
  cases v with
  | high => exact (hset _).trans (.of_touches (touches_attachPort p _))
  | low => exact (hset _).trans (sameCues_detachPort p _)

/-! ### The Mark Generator (R96 to R98) -/

theorem flagsOnly_runHandoff (s : State) (h : Handoff) : FlagsOnly s (runHandoff s h) := by
  cases h with
  | start l m p => exact flagsOnly_markStart l m p s
  | stop l b => exact flagsOnly_markEnd l b s

theorem sameCues_runHandoffs (s : State) : SameCues s (runHandoffs s) :=
  .of_flagsOnly (touches_runHandoffs s)
    (FlagsOnly.foldl (fun t h => (FlagsOnly.of_lanes (t := { t with handoffs := t.handoffs.tail }) rfl).trans
      (flagsOnly_runHandoff _ h)) _ s)

theorem sameCues_marksTakeAdvance (s : State) : SameCues s (marksTakeAdvance s) := by
  unfold marksTakeAdvance
  split
  · exact .refl s
  · exact .ite (fun _ => (SameCues.of_touches (touches_offered s _)).trans
      (.of_flagsOnly (touches_marksAdvance _ _) (flagsOnly_marksAdvance _ _))) fun _ => .refl s

theorem sameCues_takeStartHandoff (l : LaneId) (s : State) : SameCues s (takeStartHandoff l s) :=
  .of_flagsOnly (touches_takeStartHandoff l s) (flagsOnly_takeStartHandoff l s)

theorem sameCues_takeEndHandoff (l : LaneId) (s : State) : SameCues s (takeEndHandoff l s) :=
  .of_flagsOnly (touches_takeEndHandoff l s) (flagsOnly_takeEndHandoff l s)

theorem sameCues_endMarks (l : LaneId) (told : Bool) (s : State) : SameCues s (endMarks l told s) :=
  .of_flagsOnly (touches_endMarks l told s) (flagsOnly_endMarks l told s)

/-! ### The tracker's events at the blocks but the lanes (R97, R125, R138, R140, R141) -/

theorem sameCues_punchTakesAdvance (s : State) : SameCues s (punchTakesAdvance s) := by
  unfold punchTakesAdvance
  split
  · exact .refl s
  · exact .ite (fun _ => (SameCues.of_touches (touches_offered s _)).trans
      (SameCues.foldl (sameCues_punchLaneAdvance _) _ _)) fun _ => .refl s

theorem sameCues_loopTakesAdvance (s : State) : SameCues s (loopTakesAdvance s) := by
  unfold loopTakesAdvance
  split
  · exact .refl s
  · exact .ite (fun _ => (SameCues.of_touches (touches_offered s _)).trans (.of_touches (touches_loopTakeAdvance _ _)))
      fun _ => .refl s

theorem sameCues_loopTakesRelock (s : State) : SameCues s (loopTakesRelock s) := by
  unfold loopTakesRelock
  split
  · exact .ite (fun _ => (SameCues.of_touches (touches_offered s _)).trans (.of_touches (touches_loopTakeLock _ _)))
      fun _ => .refl s
  all_goals exact .refl s

theorem sameCues_loopTakesLock (s : State) : SameCues s (loopTakesLock s) :=
  .ite (fun _ => (sameCues_loopTakesRelock s).trans (sameCues_loopTakesAdvance _)) fun _ => .refl s

theorem sameCues_loopTakesLost (s : State) : SameCues s (loopTakesLost s) :=
  .ite (fun _ => (SameCues.of_touches (touches_offered s _)).trans (.of_touches (touches_loopTakeLost _))) fun _ => .refl s

/-! ### Input lines and the lanes' settings (R66, R71, R163 to R165) -/

theorem sameCues_activate (i : LineId) (x : InputLine) (s : State) : SameCues s (activate i x s) := by
  unfold activate
  split
  · exact .refl s
  · split
    · exact .setLane rfl
    · exact .refl s
  · split
    · exact .of_touches (touches_lines s _)
    · exact .refl s
  · exact sameCues_circleLast _ i s
  · exact .of_touches (touches_loopStopActive _ s)

theorem sameCues_acceptChange (i : LineId) (s : State) : SameCues s (acceptChange i s) := by
  unfold acceptChange
  dsimp only
  generalize ht : s.setInput i _ = t
  have hst : SameCues s t := ht ▸ .of_touches (touches_setInput s i _)
  exact (hst.trans (.ite (fun _ => sameCues_activate i _ t) fun _ => .refl t)).trans (sameCues_post _ _ _)

theorem sameCues_sampleInput (i : LineId) (v : Level) (s : State) : SameCues s (sampleInput i v s) :=
  .ite (fun _ => .of_touches (touches_setInput s i _)) fun _ =>
    .ite (fun _ => .of_touches (touches_setInput s i _)) fun _ => sameCues_acceptChange i s

theorem sameCues_writeRouting (l : LaneId) (x : Routing) (s : State) : SameCues s (writeRouting l x s) := by
  have hset : SameCues s (s.setLane l { s.lane l with routing := x }) := .setLane rfl
  exact .ite (fun _ => hset) fun _ => hset.trans (.of_touches (touches_setPunch _ l _))

/-! ### The beginning of a take (R77) -/

theorem sameCues_takeBegin {l : LaneId} {c : CycleRecord} {s : State} (a : Advance) (hc : (s.lane l).cycle = some c) :
    SameCues s (takeBegin l c a s) := by
  have hset : SameCues s (s.setLane l { s.lane l with cycle := some (s.begunCycle c a) }) := by
    refine .setLane ?_
    unfold Lane.view
    rw [hc]
    rfl
  exact .ite (fun _ => hset.trans (.of_touches (touches_punchDecision l _ _))) fun _ => hset

theorem sameCues_takeBeginTest (l : LaneId) (a : Advance) (s : State) : SameCues s (takeBeginTest l a s) := by
  unfold takeBeginTest
  split
  · exact .refl s
  · next c hc => exact .ite (fun _ => sameCues_takeBegin a hc) fun _ => .refl s

end Sys2Proof.Machine
end

section
/-! ## The lanes' claims and the cue cycle keep the cue invariant

A claim takes one lane through states in which its pin, its cycle record and its state disagree; meanwhile the table and the other
lanes keep to the invariant (`State.cueInvBut`). -/

namespace Sys2Proof.Machine

set_option Elab.async false

/-- The table keeps to its invariant, and so does every lane but one. -/
def State.cueInvBut (s : State) (l : LaneId) : Prop := s.tableInv ∧ ∀ k : LaneId, k ≠ l → s.laneInv k

theorem State.cueInv.but {s : State} (h : s.cueInv) (l : LaneId) : s.cueInvBut l := ⟨h.1, fun k _ => h.2 k⟩

theorem SameCues.cueInvBut {s t : State} (h : SameCues s t) {l : LaneId} (hs : s.cueInvBut l) : t.cueInvBut l :=
  ⟨h.tableInv hs.1, fun k hk => h.laneInv (hs.2 k hk)⟩

theorem cueInvBut_setLane {s : State} {l : LaneId} (h : s.cueInvBut l) (x : Lane) : (s.setLane l x).cueInvBut l := by
  refine ⟨h.1, fun k hk => ?_⟩
  rw [laneInv_iff, State.lane_setLane_ne _ _ _ _ hk.symm]
  exact (laneInv_iff s k).mp (h.2 k hk)

/-- A lane that is set to agree with itself and the table completes the invariant. -/
theorem cueInv_setLane {s : State} {l : LaneId} {x : Lane} (h : s.cueInvBut l) (hx : x.view.fits l s.table.records) :
    (s.setLane l x).cueInv := by
  refine ⟨h.1, fun k => ?_⟩
  by_cases hk : k = l
  · rw [laneInv_iff, hk, State.lane_setLane_same]
    exact hx
  · exact (cueInvBut_setLane h x).2 k hk

/-- A lane in no cycle, with no pin, no cycle record and closing OFF, completes the invariant. -/
theorem cueInv_setLane_idle {s : State} {l : LaneId} {x : Lane} (h : s.cueInvBut l) (hmode : x.mode.inCycle = false)
    (hpinned : x.pinned = none) (hcycle : x.cycle = none) (hclosing : x.closing = false) : (s.setLane l x).cueInv :=
  cueInv_setLane h
    ⟨by simp [Lane.view, hclosing], by simp [Lane.view, hpinned, hcycle], by simp [Lane.view, hpinned, hmode],
      by simp [Lane.view, hpinned]⟩

/-- A lane moves on within its cycle. -/
theorem cueInv_setMode {s : State} {l : LaneId} {m : LaneMode} (h : s.cueInv) (hs : (s.lane l).mode.inCycle = true)
    (hcycle : m.inCycle = true) (hrun : m.running = true) : (s.setLane l { s.lane l with mode := m }).cueInv := by
  obtain ⟨-, hcue, hmode, hrec⟩ := (laneInv_iff s l).mp (h.2 l)
  exact cueInv_setLane (h.but l) ⟨fun _ => hrun, hcue, hmode.trans (hs.trans hcycle.symm), hrec⟩

/-- A lane that pins a cue is in a cycle. -/
theorem inCycle_of_pinned {s : State} {l : LaneId} {n : Nat} (h : s.cueInv) (hn : (s.lane l).pinned = some n) :
    (s.lane l).mode.inCycle = true := by
  obtain ⟨-, -, hmode, -⟩ := (laneInv_iff s l).mp (h.2 l)
  exact hmode.symm.trans (by simp [Lane.view, hn])

/-- A lane whose closing flag may not be ON has it OFF. -/
theorem closing_of_not_running {s : State} {l : LaneId} (h : s.cueInv) (hm : (s.lane l).mode.running = false) :
    (s.lane l).closing = false := by
  obtain ⟨hclosing, -⟩ := h.2 l
  rw [hm] at hclosing
  simpa using hclosing

theorem endMode_not_inCycle (x : Lane) : x.endMode.inCycle = false := by
  unfold Lane.endMode
  split <;> rfl

/-! ### Pins that go (R22) -/

theorem lane_afterRelease (n : Nat) (s : State) (k : LaneId) : (afterRelease n s).lane k = s.lane k := by
  have e : (afterRelease n s).lanes = s.lanes := touches_afterRelease n s .lanes (by decide)
  rw [State.lane, e]
  rfl

theorem sameCues_afterRelease (n : Nat) (s : State) : SameCues s (afterRelease n s) := .of_touches (touches_afterRelease n s)

theorem pinned_releaseClaim (l : LaneId) (s : State) : ((releaseClaim l s).lane l).pinned = none := by
  unfold releaseClaim
  split
  · assumption
  · simp [lane_afterRelease, State.unpin]

theorem cueInvBut_releaseClaim {s : State} (l : LaneId) (h : s.cueInvBut l) : (releaseClaim l s).cueInvBut l := by
  unfold releaseClaim
  split
  · exact h
  · exact (sameCues_afterRelease _ _).cueInvBut (cueInvBut_setLane h _)

theorem pinned_takeEndClaim (l : LaneId) (s : State) : ((takeEndClaim l s).lane l).pinned = none := by
  unfold takeEndClaim
  split
  · assumption
  · simp [lane_afterRelease, State.unpin]

/-- A lane's part of the invariant survives a change of the table that keeps its pinned record. -/
theorem PinView.fits.of_records {x : PinView} {k : LaneId} {rs rs' : List CueRecord} (h : x.fits k rs)
    (hkeep : ∀ c ∈ rs, x.pinned = some c.number → c.lane = k → c.takeCount < c.takeLimit →
      ∃ d ∈ rs', d.number = c.number ∧ d.lane = k ∧ d.takeCount < d.takeLimit) : x.fits k rs' := by
  obtain ⟨hclosing, hcue, hmode, hrec⟩ := h
  refine ⟨hclosing, hcue, hmode, fun n hn => ?_⟩
  obtain ⟨c, hc, hnum, hlane, hcount⟩ := hrec n hn
  obtain ⟨d, hd, hdn, hdl, hdc⟩ := hkeep c hc (hnum ▸ hn) hlane hcount
  exact ⟨d, hd, hdn.trans hnum, hdl, hdc⟩

/-- A record whose lane pins it gains a take: its count reaches at most its limit, and no other lane's record changes. -/
theorem cueInvBut_countTake {s : State} {l : LaneId} {n : Nat} (h : s.cueInv) (hn : (s.lane l).pinned = some n) :
    (s.setRecords (changeCue n (fun c => { c with takeCount := c.takeCount + 1 }) s.table.records)).cueInvBut l := by
  have htable : CuesOk s.table.records := h.1
  obtain ⟨-, -, -, hrec⟩ := (laneInv_iff s l).mp (h.2 l)
  obtain ⟨c, hc, hcn, hcl, hcount⟩ := hrec n hn
  constructor
  · refine CuesOk.map htable (fun y => ?_) fun y hy => ?_
    · split
      · exact ⟨y.hold, y.takeCount + 1, y.circled, rfl⟩
      · exact ⟨y.hold, y.takeCount, y.circled, rfl⟩
    · split
      · next hyn =>
        have hyc : y = c := htable.eq_of_number hy hc ((beq_iff_eq.mp hyn).trans hcn.symm)
        rw [hyc]
        exact hcount
      · exact htable.2.2.2 y hy
  · intro k hk
    refine (laneInv_iff _ k).mpr (((laneInv_iff s k).mp (h.2 k)).of_records fun d hd _ hdk hdcount => ?_)
    have hdn : d.number ≠ n := by
      intro e
      have hdc : d = c := htable.eq_of_number hd hc (e.trans hcn.symm)
      exact hk (hdk.symm.trans (hdc ▸ hcl))
    exact ⟨d, List.mem_map.mpr ⟨d, hd, by simp [hdn]⟩, rfl, hdk, hdcount⟩

theorem cueInvBut_takeEndClaim {s : State} (l : LaneId) (h : s.cueInv) : (takeEndClaim l s).cueInvBut l := by
  unfold takeEndClaim
  split
  · exact h.but l
  · next n hn => exact (sameCues_afterRelease _ _).cueInvBut (cueInvBut_setLane (cueInvBut_countTake h hn) _)

theorem cueInv_letGo {s : State} (l : LaneId) {m : LaneMode} (h : s.cueInv) (hm : m.inCycle = false) : (letGo l m s).cueInv :=
  cueInv_setLane_idle (cueInvBut_releaseClaim l (h.but l)) hm (pinned_releaseClaim l s) rfl rfl

theorem cueInv_falseStart {s : State} (l : LaneId) (h : s.cueInv) : (falseStart l s).cueInv := by
  have hhand : SameCues s (s.handOff (.stop l false)) := .of_touches (touches_handOff s _)
  exact cueInv_setLane_idle (cueInvBut_releaseClaim l (hhand.cueInvBut (h.but l))) (endMode_not_inCycle _)
    (pinned_releaseClaim l _) rfl rfl

/-! ### Arming and re-arming (R19 to R21, R72 to R74) -/

/-- What an eligible record is, as far as the pin goes (R19). -/
theorem eligible_pinnable {s : State} {l : LaneId} {reel p : Nat} {c : CueRecord} (h : s.eligible l reel p c = true) :
    c.lane = l ∧ c.takeCount < c.takeLimit := by
  simp only [State.eligible, Bool.and_eq_true, beq_iff_eq, decide_eq_true_eq] at h
  obtain ⟨⟨⟨⟨⟨⟨-, hl⟩, -⟩, -⟩, hcount⟩, -⟩, -⟩ := h
  exact ⟨hl, hcount⟩

/-- An offered record is in the table under the lane's number with takes left (R19). -/
theorem offer_pinnable {s : State} {l : LaneId} {reel p : Nat} {c : CueRecord} (h : s.offer l reel p = some c) :
    c ∈ s.table.records ∧ c.lane = l ∧ c.takeCount < c.takeLimit :=
  ⟨List.mem_of_find?_eq_some h, eligible_pinnable (List.find?_some h)⟩

/-- So is a record offered to a re-arming claim in place of the lane's own (R21). -/
theorem reoffer_pinnable {s : State} {l : LaneId} {reel p own : Nat} {c : CueRecord} (h : s.reoffer l reel p own = some c)
    (hne : c.number ≠ own) : c ∈ s.table.records ∧ c.lane = l ∧ c.takeCount < c.takeLimit := by
  have hc := List.find?_some h
  simp only [beq_iff_eq, hne, if_false] at hc
  exact ⟨List.mem_of_find?_eq_some h, eligible_pinnable hc⟩

theorem fits_pin {x : Lane} {l : LaneId} {rs : List CueRecord} {c : CueRecord} {y : CycleRecord}
    (hc : c ∈ rs ∧ c.lane = l ∧ c.takeCount < c.takeLimit) (hclosing : x.closing = true → x.mode.running = true)
    (hmode : x.mode.inCycle = true) (hpinned : x.pinned = some c.number) (hcycle : x.cycle = some y) (hy : y.cue = c.number) :
    x.view.fits l rs := by
  refine ⟨hclosing, by simp [Lane.view, hpinned, hcycle, hy], by simp [Lane.view, hpinned, hmode], fun n hn => ?_⟩
  obtain ⟨hmem, hl, hcount⟩ := hc
  exact ⟨c, hmem, Option.some.inj (hpinned.symm.trans hn), hl, hcount⟩

theorem cueInv_armingAttempt {s : State} (l : LaneId) (reel p : Nat) (h : s.cueInv) : (armingAttempt l reel p s).cueInv := by
  unfold armingAttempt
  split
  · next hmay =>
    obtain ⟨-, -, hclosing, -⟩ := (mayArm_iff s l).mp hmay
    split
    · exact h
    · next c hc =>
      refine (sameCues_post _ _ _).cueInv (cueInv_setLane (h.but l) ?_)
      exact fits_pin (offer_pinnable hc) (by simp [hclosing]) rfl rfl rfl rfl
  · exact h

theorem cueInv_switchCue {s : State} {l : LaneId} {own : Nat} {c : CueRecord} (p : Nat) (h : s.cueInv)
    (hown : (s.lane l).pinned = some own) (hc : c ∈ s.table.records ∧ c.lane = l ∧ c.takeCount < c.takeLimit) :
    (switchCue l own c p s).cueInv := by
  unfold switchCue
  refine (sameCues_post _ _ _).cueInv
    (cueInv_setLane ((sameCues_afterRelease own _).cueInvBut (cueInvBut_setLane (h.but l) _)) ?_)
  have htable : (afterRelease own (s.setLane l { s.lane l with pinned := some c.number })).table = s.table :=
    touches_afterRelease own _ .table (by decide)
  rw [htable, lane_afterRelease, State.lane_setLane_same]
  obtain ⟨hclosing, -⟩ := h.2 l
  exact fits_pin hc hclosing (inCycle_of_pinned h hown) rfl rfl rfl

theorem cueInv_rearm {s : State} (l : LaneId) (reel p : Nat) (h : s.cueInv) : (rearm l reel p s).cueInv := by
  unfold rearm
  split
  · exact h
  · next own hown =>
    split
    · exact cueInv_letGo l h rfl
    · next c hc =>
      split
      · exact h
      · next hne => exact cueInv_switchCue p h hown (reoffer_pinnable hc hne)

/-! ### The end of a cycle (R89) -/

theorem cueInv_finishCycle {s : State} (l : LaneId) (e : CycleStop) (x : PunchEnd) (advance : Option Position) (c : CycleRecord)
    (h : s.cueInv) : (finishCycle l e x advance c s).cueInv := by
  unfold finishCycle
  dsimp only
  have hclaim := cueInvBut_takeEndClaim l ((sameCues_journalWrite (c.entry l e x) s).cueInv h)
  have hpinned := pinned_takeEndClaim l (journalWrite (c.entry l e x) s).1
  generalize takeEndClaim l (journalWrite (c.entry l e x) s).1 = u at hclaim hpinned ⊢
  have hidle : ∀ n : Notice, ((post .lane n (u.setLane l { u.lane l with readyLatch := false })).setLane l
      { (post .lane n (u.setLane l { u.lane l with readyLatch := false })).lane l with
        cycle := none, closing := false
        mode := ((u.setLane l { u.lane l with readyLatch := false }).lane l).endMode }).cueInv := fun n =>
    cueInv_setLane_idle ((sameCues_post _ _ _).cueInvBut (cueInvBut_setLane hclaim _)) (endMode_not_inCycle _)
      (by simpa [post, postWhere] using hpinned) rfl rfl
  split
  · exact hidle _
  · split
    · exact cueInv_armingAttempt l _ _ (hidle _)
    · exact hidle _

theorem cueInv_endCycle {s : State} (l : LaneId) (e : CycleStop) (told : Bool) (advance : Option Position) (h : s.cueInv) :
    (endCycle l e told advance s).cueInv := by
  unfold endCycle
  split
  · exact h
  · next c _ =>
    have hmarks : (endMarks l told (punchEnd l c e.reason s)).cueInv :=
      ((SameCues.of_touches (touches_punchEnd l c e.reason s)).trans (sameCues_endMarks l told _)).cueInv h
    dsimp only
    split
    · exact hmarks
    · exact cueInv_finishCycle l e _ advance _ hmarks

/-! ### A position advance (R75) -/

theorem cueInv_tailYieldTest {s : State} (l : LaneId) (a : Advance) (h : s.cueInv) : (tailYieldTest l a s).cueInv := by
  unfold tailYieldTest
  split
  · split
    · exact h
    · split
      · exact cueInv_endCycle l _ _ _ h
      · exact h
  · exact h

theorem cueInv_armedAdvance {s : State} (l : LaneId) (a : Advance) (h : s.cueInv) : (armedAdvance l a s).cueInv := by
  have hrearm : (if s.table.confirmed then rearm l a.reel a.frame s else s).cueInv := by
    split
    · exact cueInv_rearm l _ _ h
    · exact h
  unfold armedAdvance
  dsimp only
  generalize (if s.table.confirmed then rearm l a.reel a.frame s else s) = t at hrearm ⊢
  split
  · next c hmode _ =>
    split
    · have hmove := cueInv_setMode (m := .leadin) hrearm (by rw [hmode]; rfl) rfl rfl
      exact ((SameCues.of_touches (touches_handOff _ _)).trans (sameCues_takeBeginTest l a _)).cueInv hmove
    · exact hrearm
  · exact hrearm

/-- A lane with a cycle record is in a cycle. -/
theorem inCycle_of_cycle {s : State} {l : LaneId} {c : CycleRecord} (h : s.cueInv) (hc : (s.lane l).cycle = some c) :
    (s.lane l).mode.inCycle = true := by
  obtain ⟨-, hcue, hmode, -⟩ := (laneInv_iff s l).mp (h.2 l)
  exact hmode.symm.trans (by rw [← hcue]; simp [Lane.view, hc])

theorem cueInv_leadinAdvance {s : State} (l : LaneId) (a : Advance) (h : s.cueInv) : (leadinAdvance l a s).cueInv := by
  have htest := (sameCues_takeBeginTest l a s).cueInv h
  unfold leadinAdvance
  dsimp only
  generalize takeBeginTest l a s = t at htest ⊢
  split
  · exact htest
  · next c hc =>
    split
    · have hmove := cueInv_setMode (m := .take) htest (inCycle_of_cycle htest hc) rfl rfl
      have hcycle : ((t.setLane l { t.lane l with mode := .take }).lane l).cycle = some c := by simpa using hc
      unfold enterTake
      exact (SameCues.ite (fun _ => .refl _) fun _ => sameCues_takeBegin a hcycle).cueInv hmove
    · exact htest

theorem cueInv_takeAdvance {s : State} (l : LaneId) (a : Advance) (h : s.cueInv) : (takeAdvance l a s).cueInv := by
  unfold takeAdvance
  split
  · exact h
  · next c hc =>
    split
    · have hhand : (s.handOff (.stop l true)).cueInv := (SameCues.of_touches (touches_handOff s _)).cueInv h
      dsimp only
      split
      · exact cueInv_endCycle l _ _ _ hhand
      · exact cueInv_tailYieldTest l a (cueInv_setMode hhand (inCycle_of_cycle h hc) rfl rfl)
    · exact h

theorem cueInv_tailAdvance {s : State} (l : LaneId) (a : Advance) (h : s.cueInv) : (tailAdvance l a s).cueInv := by
  unfold tailAdvance
  split
  · exact h
  · split
    · exact cueInv_endCycle l _ _ _ h
    · exact cueInv_tailYieldTest l a h

theorem cueInv_laneAdvance {s : State} (l : LaneId) (a : Advance) (h : s.cueInv) : (laneAdvance l a s).cueInv := by
  have htouch : (modCycle l (fun c => c.touch a) s).cueInv := (sameCues_modCycle (by intro c; rfl) s).cueInv h
  unfold laneAdvance
  dsimp only
  split
  · exact h
  · exact cueInv_armingAttempt l _ _ h
  · exact cueInv_armedAdvance l a htouch
  · exact cueInv_leadinAdvance l a htouch
  · exact cueInv_takeAdvance l a htouch
  · exact cueInv_tailAdvance l a htouch

/-! ### Interruptions and the lanes' requests (R69, R70, R83 to R87) -/

theorem cueInv_laneLost {s : State} (l : LaneId) (h : s.cueInv) : (laneLost l s).cueInv := by
  unfold laneLost
  split
  · exact h
  · exact h
  · exact cueInv_letGo l h (endMode_not_inCycle _)
  · split
    · exact cueInv_endCycle l _ _ _ h
    · exact cueInv_falseStart l h
  · exact cueInv_endCycle l _ _ _ h
  · exact cueInv_endCycle l _ _ _ h

theorem cueInv_laneCancel {s : State} (l : LaneId) (h : s.cueInv) : (laneCancel l s).cueInv := by
  unfold laneCancel
  split
  · exact h
  · exact h
  · exact cueInv_letGo l h rfl
  · split
    · exact cueInv_endCycle l _ _ _ h
    · exact cueInv_falseStart l h
  · exact cueInv_endCycle l _ _ _ h
  · exact cueInv_endCycle l _ _ _ h

/-- The closing flag may change while the lane's state allows it ON. -/
theorem cueInv_setClosing {s : State} {l : LaneId} (b : Bool) (h : s.cueInv) (hm : (s.lane l).mode.running = true) :
    (s.setLane l { s.lane l with closing := b }).cueInv := by
  obtain ⟨-, hrest⟩ := (laneInv_iff s l).mp (h.2 l)
  exact cueInv_setLane (h.but l) ⟨fun _ => hm, hrest⟩

/-- OFF and STANDBY, the states in no cycle, may change into each other. -/
theorem cueInv_setIdleMode {s : State} {l : LaneId} {m : LaneMode} (h : s.cueInv) (hs : (s.lane l).mode.inCycle = false)
    (hrun : (s.lane l).mode.running = false) (hm : m.inCycle = false) : (s.setLane l { s.lane l with mode := m }).cueInv := by
  have hclosing := closing_of_not_running h hrun
  obtain ⟨-, hcue, hmode, hrec⟩ := (laneInv_iff s l).mp (h.2 l)
  exact cueInv_setLane (h.but l) ⟨by simp [Lane.view, hclosing], hcue, hmode.trans (hs.trans hm.symm), hrec⟩

theorem cueInv_laneEnable {s : State} (l : LaneId) (h : s.cueInv) : (laneEnable l s).cueInv := by
  unfold laneEnable
  split
  · next hm => exact cueInv_setIdleMode h (by rw [hm]; rfl) (by rw [hm]; rfl) rfl
  · exact h
  · exact h
  all_goals next hm => exact cueInv_setClosing false h (by rw [hm]; rfl)

theorem cueInv_laneDisable {s : State} (l : LaneId) (h : s.cueInv) : (laneDisable l s).cueInv := by
  unfold laneDisable
  split
  · exact h
  · next hm => exact cueInv_setIdleMode h (by rw [hm]; rfl) (by rw [hm]; rfl) rfl
  · exact cueInv_letGo l h rfl
  all_goals next hm => exact cueInv_setClosing true h (by rw [hm]; rfl)

/-- An operation done for each element of a list keeps what each one keeps. -/
theorem cueInv_foldl {α : Type} {f : State → α → State} (hf : ∀ s x, s.cueInv → (f s x).cueInv) :
    ∀ (xs : List α) {s : State}, s.cueInv → (xs.foldl f s).cueInv
  | [], _, h => h
  | x :: xs, _, h => cueInv_foldl hf xs (hf _ x h)

theorem cueInv_clearStage {s : State} (h : s.cueInv) : (clearStage s).cueInv := by
  have hstop : SameCues s (loopStopActive .clear { s with handoffs := [] }) :=
    (SameCues.of_touches (touches_handoffs s [])).trans (.of_touches (touches_loopStopActive _ _))
  have hcancel := cueInv_foldl (fun s l => cueInv_laneCancel l) allLanes (hstop.cueInv h)
  unfold clearStage
  dsimp only
  generalize allLanes.foldl (fun t l => laneCancel l t) _ = u at hcancel ⊢
  have hlatch := (SameCues.foldl (f := clearLatch) (fun s l => .setLane rfl) allLanes u).cueInv hcancel
  generalize allLanes.foldl clearLatch u = v at hlatch ⊢
  have hmarks := (SameCues.of_touches (touches_clearMarks v)).cueInv hlatch
  generalize clearMarks v = w at hmarks ⊢
  have hpunch : ∀ (f : State → LaneId → State), (∀ s l, TouchesOnly [.punch] s (f s l)) → ∀ {t : State}, t.cueInv →
      (allLanes.foldl f t).cueInv := fun f hf t ht =>
    (SameCues.foldl (fun s l => .of_touches (hf s l)) allLanes t).cueInv ht
  have hready := hpunch clearReady (fun s l => touches_setPunch s l _) hmarks
  generalize allLanes.foldl clearReady w = x at hready ⊢
  have htallied := hpunch clearTallied (fun s l => touches_setPunch s l _) hready
  generalize allLanes.foldl clearTallied x = y at htallied ⊢
  exact SameCues.cueInv (s := y) ⟨rfl, fun _ => rfl⟩ htallied

end Sys2Proof.Machine
end

section
/-! ## Every step keeps the Cue Table and the pins (O58) -/

namespace Sys2Proof.Machine

set_option Elab.async false

/-! ### Edits of the table (R5 to R12) -/

/-- An edit keeps the invariant when the new records do and every pinned record is still among them. -/
theorem cueInv_edited {s : State} {rs : List CueRecord} (h : s.cueInv) (hrs : CuesOk rs)
    (hkeep : ∀ c ∈ s.table.records, s.isPinned c.number = true → c ∈ rs) : (edited rs s).cueInv := by
  refine ⟨hrs, fun k => (laneInv_iff _ k).mpr (((laneInv_iff s k).mp (h.2 k)).of_records fun c hc hpin hl hcount => ?_)⟩
  exact ⟨c, hkeep c hc ((isPinned_eq_true_iff s c.number).mpr ⟨k, hpin⟩), rfl, hl, hcount⟩

theorem record_eq_none_iff (s : State) (n : Nat) : s.record n = none ↔ ∀ c ∈ s.table.records, c.number ≠ n := by
  simp [State.record]

theorem mem_of_record {s : State} {n : Nat} {c : CueRecord} (h : s.record n = some c) : c ∈ s.table.records ∧ c.number = n := by
  unfold State.record at h
  exact ⟨List.mem_of_find?_eq_some h, by simpa using List.find?_some h⟩

theorem mem_dropCue {n : Nat} {c : CueRecord} {rs : List CueRecord} : c ∈ dropCue n rs ↔ c ∈ rs ∧ c.number ≠ n := by
  simp [dropCue]

theorem cueOf_counts {f : CueFields} {count : Nat} {circled : Option Nat} {c : CueRecord} (h : cueOf f count circled = some c) :
    c.takeCount = count := by
  unfold cueOf at h
  split at h
  · split at h
    · cases h; rfl
    · cases h
  · cases h

theorem cueInv_answerInsert {s : State} (body : List Byte) (h : s.cueInv) : (answerInsert body s).1.cueInv := by
  unfold answerInsert
  split
  · exact h
  · next c hc =>
    split
    · exact h
    · next hnew =>
      split
      · exact h
      · next hroom =>
        split
        · exact h
        · next hapart =>
          have hnone : s.record c.number = none := by simpa using hnew
          refine cueInv_edited h (CuesOk.placeCue h.1 (not_le.mp hroom) ((record_eq_none_iff s _).mp hnone) ?_ ?_)
            fun y hy _ => mem_placeCue.mpr (.inr hy)
          · simpa using hapart
          · simp [cueOf_counts hc]

/-- An unpinned record that is amended takes its new place in a table that keeps the others (R8). -/
theorem cueInv_amendFound {s : State} {old c : CueRecord} (h : s.cueInv) (hold : s.record c.number = some old) :
    (amendFound old c s).1.cueInv := by
  obtain ⟨hmem, hnum⟩ := mem_of_record hold
  unfold amendFound
  split
  · exact h
  · next hpin =>
    split
    · exact h
    · next hlimit =>
      split
      · exact h
      · next hapart =>
        have hok : CuesOk s.table.records := h.1
        have hroom : (dropCue old.number s.table.records).length < Config.tableCapacity := by
          refine lt_of_lt_of_le ?_ hok.1
          exact List.length_filter_lt_length_iff_exists.mpr ⟨old, hmem, by simp⟩
        refine cueInv_edited h (CuesOk.placeCue (hok.filter _) hroom ?_ ?_ (not_lt.mp hlimit)) fun y hy hypin => ?_
        · intro y hy
          exact hnum ▸ (mem_dropCue.mp hy).2
        · refine (overlaps_eq_false_iff _ _).mpr fun y hy => ?_
          exact (overlaps_eq_false_iff c _).mp (by simpa using hapart) y (mem_dropCue.mp hy).1
        · refine mem_placeCue.mpr (.inr (mem_dropCue.mpr ⟨hy, fun e => hpin ?_⟩))
          rw [← e]
          exact hypin

theorem cueInv_answerAmend {s : State} (body : List Byte) (h : s.cueInv) : (answerAmend body s).1.cueInv := by
  unfold answerAmend
  split
  · exact h
  · split
    · exact h
    · next hold => exact cueInv_amendFound h hold

theorem cueInv_answerDelete {s : State} (body : List Byte) (h : s.cueInv) : (answerDelete body s).1.cueInv := by
  unfold answerDelete
  dsimp only
  split
  · exact h
  · split
    · exact h
    · split
      · exact h
      · next hpin =>
        refine cueInv_edited h (CuesOk.filter h.1 _) fun y hy hypin => mem_dropCue.mpr ⟨hy, fun e => hpin ?_⟩
        rw [← e]
        exact hypin

theorem cueInv_answerHold {s : State} (body : List Byte) (h : s.cueInv) : (answerHold body s).1.cueInv := by
  unfold answerHold
  dsimp only
  split
  · exact h
  · split
    · exact h
    · split
      · exact h
      · next b _ _ _ _ _ =>
        have hrec := sameCues_changeCue (n := wordAt body 0) (f := fun x => { x with hold := b }) (fun _ => rfl) s
        exact (hrec.trans (.of_touches (touches_setChanged _))).cueInv h

theorem cueInv_answerClearTable {s : State} (h : s.cueInv) : (answerClearTable s).1.cueInv := by
  unfold answerClearTable
  split
  · next hnone =>
    refine cueInv_edited h ⟨by simp, by simp, by simp, by simp⟩ fun y hy hypin => ?_
    have hmem : y ∈ s.pinnedRecords := List.mem_filter.mpr ⟨hy, hypin⟩
    rw [List.isEmpty_iff.mp hnone] at hmem
    exact hmem
  · exact h

/-! ### Requests (R178) -/

theorem cueInv_of_touches {xs : List Part} {s t : State} (h : s.cueInv) (ht : TouchesOnly xs s t)
    (htable : Part.table ∉ xs := by decide) (hlanes : Part.lanes ∉ xs := by decide) : t.cueInv :=
  (SameCues.of_touches ht htable hlanes).cueInv h

theorem touches_writeSettings (p q : PortId) (y : PortSettings) (s : State) :
    TouchesOnly [.punch, .ports] s (writeSettings p q y s) := by
  have hset : ∀ x, TouchesOnly [.punch, .ports] s (s.setPort q x) := fun x => (touches_setPort s q x).mono (by decide)
  exact .ite _ ((hset _).trans ((touches_clearReadyOf q _).mono (by decide))) (hset _)

theorem touches_tallyLane (p : PortId) (l : LaneId) (s : State) : TouchesOnly [.punch] s (tallyLane p l s).1 := by
  unfold tallyLane
  split
  · split
    · exact touches_setPunch s l _
    · exact .refl _ s
  all_goals exact .refl _ s

theorem touches_startLoop (o : LoopOrder) (s : State) : TouchesOnly [.loop, .ports] s (startLoop o s).1 := by
  unfold startLoop
  split
  · exact .refl _ s
  · split
    · exact .refl _ s
    · split
      · exact .refl _ s
      · split
        · exact (touches_setGroup s _ _).andThen (touches_loopLocate _ _ _ _)
        · exact .refl _ s

theorem cueInv_setProfile {s : State} (q : ProfileId) (x : Profile) (h : s.cueInv) : (s.setProfile q x).cueInv :=
  SameCues.cueInv (s := s) ⟨rfl, fun _ => rfl⟩ h

/-- Each kind's block keeps the invariant. -/
theorem cueInv_block (k : Request) (p : PortId) (body : List Byte) {s : State} (h : s.cueInv) : (k.block p body s).1.cueInv := by
  cases k with
  | identify | readParameters | tableStatus | trackerStatus | readJournal | readLines => exact h
  | portStatus | readProfile | readLane | readLoop =>
    dsimp only [Request.block, answerPortStatus, answerReadProfile, answerReadLane, answerReadLoop]
    split <;> exact h
  | readCue =>
    dsimp only [Request.block, answerReadCue]
    split
    · exact h
    · split <;> exact h
  | nextCue =>
    dsimp only [Request.block, answerNextCue]
    split <;> exact h
  | configurePort =>
    dsimp only [Request.block, answerConfigurePort]
    split
    · split
      · exact h
      · exact cueInv_of_touches h (touches_writeSettings p _ _ s)
    · exact h
  | fetchNotices => exact cueInv_of_touches h (touches_setPort s p _)
  | setParameters =>
    dsimp only [Request.block, answerSetParameters]
    split
    · exact h
    · split
      · exact h
      · exact SameCues.cueInv (s := s) ⟨rfl, fun _ => rfl⟩ h
  | requestGrant =>
    dsimp only [Request.block, answerRequestGrant]
    split
    · exact cueInv_of_touches h (touches_giveAtOnce p s)
    · split
      · exact h
      · split
        · exact h
        · exact cueInv_of_touches h (touches_grant s _)
  | releaseGrant =>
    dsimp only [Request.block, answerReleaseGrant]
    split
    · exact (sameCues_releaseByHolder p s).cueInv h
    · split
      · exact cueInv_of_touches h (touches_grant s _)
      · exact h
  | insertCue => exact cueInv_answerInsert body h
  | amendCue => exact cueInv_answerAmend body h
  | deleteCue => exact cueInv_answerDelete body h
  | holdCue => exact cueInv_answerHold body h
  | clearTable => exact cueInv_answerClearTable h
  | setProfile =>
    dsimp only [Request.block, answerSetProfile]
    split
    · split
      · exact cueInv_setProfile _ _ h
      · exact h
    · exact h
  | setLane =>
    dsimp only [Request.block, answerSetLane]
    split
    · split
      · exact (sameCues_writeRouting _ _ s).cueInv h
      · exact h
    · exact h
  | enableLane =>
    dsimp only [Request.block, answerEnable]
    split
    · exact h
    · exact cueInv_laneEnable _ h
  | disableLane =>
    dsimp only [Request.block, answerDisable]
    split
    · exact h
    · exact cueInv_laneDisable _ h
  | cancelLane =>
    dsimp only [Request.block, answerCancel]
    split
    · exact h
    · exact cueInv_laneCancel _ h
  | clearStage => exact cueInv_clearStage h
  | ready =>
    dsimp only [Request.block, answerReady]
    split
    · split
      · exact cueInv_of_touches h (touches_setPunch s _ _)
      · exact h
    · exact h
  | tally =>
    dsimp only [Request.block, answerTally]
    split
    · exact h
    · exact cueInv_of_touches h (touches_tallyLane p _ s)
  | reconfirm => exact cueInv_of_touches h (touches_setLink s p _)
  | startLoop =>
    dsimp only [Request.block, answerStartLoop]
    split
    · exact h
    · exact cueInv_of_touches h (touches_startLoop _ s)
  | stopLoop =>
    dsimp only [Request.block, answerStopLoop]
    split
    · exact h
    · exact cueInv_of_touches h (.ite _ (touches_loopStopActive _ s) (.refl _ s))
  | circleTake =>
    dsimp only [Request.block, answerCircle]
    split
    · exact h
    · split
      · exact h
      · exact (sameCues_circle _ _ s).cueInv h
  | uncircleTake =>
    dsimp only [Request.block, answerUncircle]
    split
    · exact h
    · split
      · exact h
      · exact (sameCues_uncircle _ _ s).cueInv h
  | trimJournal =>
    dsimp only [Request.block, answerTrim]
    split
    · exact h
    · exact cueInv_of_touches h (touches_setEntries s _)
    · exact ((SameCues.of_touches (touches_journal s _)).trans (sameCues_clearAllCircled _)).cueInv h
  | setLine =>
    dsimp only [Request.block, answerSetLine]
    split
    · exact h
    · unfold setInputFrom
      split
      · split
        · exact cueInv_of_touches h (touches_setInputLine _ _ _ _ _ s)
        · exact h
      · exact h
    · unfold setOutputFrom
      split
      · split
        · exact cueInv_of_touches h (touches_setOutputLine _ _ _ _ s)
        · exact h
      · exact h

/-- A request keeps the invariant: taking the item, the refusals, the block, the answer and the idle timer do. -/
theorem cueInv_takeRequest {s : State} (k : Request) (p : PortId) (body : List Byte) (h : s.cueInv) :
    (takeRequest p k body (k.block p body) s).cueInv := by
  have hdrop : (s.dropItem p).cueInv := cueInv_of_touches h (touches_setPort s p _)
  have hjudge : (judge p k body (k.block p body) (s.dropItem p)).1.cueInv := by
    unfold judge
    split
    · exact hdrop
    · split
      · exact hdrop
      · split
        · exact hdrop
        · exact cueInv_block k p body hdrop
  unfold takeRequest
  split
  · exact ((SameCues.of_touches (touches_setPort _ p _)).trans (.of_touches (touches_restartIdle p _))).cueInv hjudge
  · exact h

/-! ### The tracker's events (R42 to R59) -/

theorem cueInv_laneTakesAdvance {s : State} (l : LaneId) (h : s.cueInv) : (laneTakesAdvance l s).cueInv := by
  unfold laneTakesAdvance
  split
  · exact h
  · split
    · exact cueInv_laneAdvance l _ (cueInv_of_touches h (touches_offered s _))
    · exact h

theorem cueInv_laneTakesLost {s : State} (l : LaneId) (h : s.cueInv) : (laneTakesLost l s).cueInv := by
  unfold laneTakesLost
  split
  · exact cueInv_laneLost l (cueInv_of_touches h (touches_offered s _))
  · exact h

theorem cueInv_settle {s : State} (h : s.cueInv) : (settle s).cueInv := by
  have hlanes : (allLanes.foldl laneTakes s).cueInv :=
    cueInv_foldl (fun s l hs => cueInv_laneTakesLost l (cueInv_laneTakesAdvance l hs)) allLanes h
  exact ((sameCues_runHandoffs _).trans ((sameCues_marksTakeAdvance _).trans ((sameCues_punchTakesAdvance _).trans
    ((sameCues_loopTakesAdvance _).trans ((sameCues_loopTakesRelock _).trans (sameCues_loopTakesLost _)))))).cueInv hlanes

theorem cueInv_trackerApply {s : State} (x : TrackerStep) (h : s.cueInv) : (trackerApply x s).cueInv := by
  unfold trackerApply
  split
  · exact cueInv_of_touches h (touches_trackerChange x s)
  · exact ((SameCues.of_touches (touches_trackerChange x _)).trans (.of_touches (touches_offered _ _))).cueInv (cueInv_settle h)

theorem cueInv_posinByte {s : State} (b : Byte) (h : s.cueInv) : (posinByte s b).cueInv := by
  have hrec : ∀ r, (s.setReceiver r).cueInv := fun r => cueInv_of_touches h (touches_setReceiver s r)
  unfold posinByte
  split
  · split
    · exact hrec _
    · exact h
  · split
    · exact hrec _
    · unfold takeWord
      split
      · exact cueInv_of_touches (hrec none) (touches_countBadWord _)
      · exact cueInv_trackerApply _ (hrec none)

theorem cueInv_posinBytes {s : State} (bytes : List Byte) (h : s.cueInv) : (bytes.foldl posinByte s).cueInv :=
  cueInv_foldl (fun _ b => cueInv_posinByte b) bytes h

theorem cueInv_waitExpiry {s : State} (h : s.cueInv) : (waitExpiry s).cueInv := by
  unfold waitExpiry
  split
  · exact cueInv_trackerApply _ h
  · exact h

theorem cueInv_stepExpiry {s : State} (h : s.cueInv) : (stepExpiry s).cueInv := by
  unfold stepExpiry
  split
  · exact cueInv_trackerApply _ h
  · exact h

/-! ### Every command, and the millisecond -/

/-- After device reset the table is empty and every lane is OFF with nothing pinned (R25, R93). -/
theorem cueInv_deviceReset (held : Bool) (x : Straps) (queue : List Instr) : (State.deviceReset held x queue).cueInv := by
  refine ⟨⟨Nat.zero_le _, .nil, .nil, fun c hc => absurd hc (List.not_mem_nil)⟩, fun l => ?_⟩
  unfold State.laneInv
  fin_cases l <;> exact ⟨fun e => (by cases e), rfl, rfl⟩

/-- The state a command answers keeps a property when the command's effect while RESET is released keeps it. -/
theorem cueInv_of_live {f : State → State} {s t : State} (h : s.cueInv) (hf : (f s).cueInv) (ht : live f s = .next t) :
    t.cueInv := by
  cases ht
  split
  · exact h
  · exact hf

theorem cueInv_command (k : Request) {p : PortId} {body : List Byte} {s t : State} (h : s.cueInv)
    (ht : exec (k.command p body) s = .next t) : t.cueInv := by
  rw [exec_command] at ht
  cases ht
  exact cueInv_takeRequest k p body h

/-- Every command keeps the invariant. -/
theorem cueInv_exec (c : Instr) {s t : State} (h : s.cueInv) (ht : exec c s = .next t) : t.cueInv := by
  cases c with
  | resetAssert => cases ht; exact cueInv_deviceReset _ _ _
  | resetRelease o2 o1 o0 =>
    cases ht
    unfold releaseReset
    split
    · exact cueInv_deviceReset _ _ _
    · exact h
  | positionWord bytes => exact cueInv_of_live (f := fun u => bytes.foldl posinByte u) h (cueInv_posinBytes bytes h) ht
  | wordGapTimeout bytes | wordByteWithoutStopBit bytes =>
    exact cueInv_of_live (f := fun u => abandonWord (bytes.foldl posinByte u)) h
      (cueInv_of_touches (cueInv_posinBytes bytes h) (touches_abandonWord _)) ht
  | wordWaitExpiry => exact cueInv_of_live h (cueInv_waitExpiry h) ht
  | freewheelStepExpiry => exact cueInv_of_live h (cueInv_stepExpiry h) ht
  | lanePositionAdvance l => exact cueInv_of_live h (cueInv_laneTakesAdvance l h) ht
  | laneRollLost l => exact cueInv_of_live h (cueInv_laneTakesLost l h) ht
  | punchPositionAdvance => exact cueInv_of_live h ((sameCues_punchTakesAdvance s).cueInv h) ht
  | markStartHandoff l => exact cueInv_of_live h ((sameCues_takeStartHandoff l s).cueInv h) ht
  | markEndHandoff l => exact cueInv_of_live h ((sameCues_takeEndHandoff l s).cueInv h) ht
  | markPositionAdvance => exact cueInv_of_live h ((sameCues_marksTakeAdvance s).cueInv h) ht
  | overlayWord => exact cueInv_of_live h (cueInv_of_touches h (touches_sendOverlayWord s)) ht
  | loopPositionAdvance => exact cueInv_of_live h ((sameCues_loopTakesAdvance s).cueInv h) ht
  | loopLockEntry => exact cueInv_of_live h ((sameCues_loopTakesLock s).cueInv h) ht
  | loopRollLost => exact cueInv_of_live h ((sameCues_loopTakesLost s).cueInv h) ht
  | locateTimerExpiry => exact cueInv_of_live h (cueInv_of_touches h (touches_locateExpiry s)) ht
  | grantIdleExpiry => exact cueInv_of_live h ((sameCues_idleExpiry s).cueInv h) ht
  | inputLineChange i => exact cueInv_of_live h ((sameCues_acceptChange i s).cueInv h) ht
  | portAttach p => exact cueInv_of_live h (cueInv_of_touches h (touches_attachPort p s)) ht
  | portDetach p => exact cueInv_of_live h ((sameCues_detachPort p s).cueInv h) ht
  | receiveFrame p chars => exact cueInv_of_live h (cueInv_of_touches h (touches_hearAll p chars s)) ht
  | interByteTimeout p bytes =>
    exact cueInv_of_live
      (f := fun u => (hearAll p (bytes.map wholeByte) u).setPort p ((hearAll p (bytes.map wholeByte) u).port p).silence) h
      (cueInv_of_touches h ((touches_hearAll p _ s).trans (touches_setPort _ p _))) ht
  | frameError p => exact cueInv_of_live h (cueInv_of_touches h (touches_takeFrameError p s)) ht
  | unknownKind p kind body => exact cueInv_of_live h (cueInv_of_touches h (touches_takeUnknown p kind body s)) ht
  | transmitTake p => exact cueInv_of_live h (cueInv_of_touches h (touches_transmitNext p s)) ht
  | transmitComplete p => exact cueInv_of_live h (cueInv_of_touches h (touches_transmitEnd p s)) ht
  | inputSample i v => exact cueInv_of_live h ((sameCues_sampleInput i v s).cueInv h) ht
  | presentSample p v => exact cueInv_of_live h ((sameCues_samplePresent p v s).cueInv h) ht
  | identify p body => exact cueInv_command .identify h ht
  | portStatus p body => exact cueInv_command .portStatus h ht
  | configurePort p body => exact cueInv_command .configurePort h ht
  | fetchNotices p body => exact cueInv_command .fetchNotices h ht
  | setParameters p body => exact cueInv_command .setParameters h ht
  | readParameters p body => exact cueInv_command .readParameters h ht
  | requestGrant p body => exact cueInv_command .requestGrant h ht
  | releaseGrant p body => exact cueInv_command .releaseGrant h ht
  | tableStatus p body => exact cueInv_command .tableStatus h ht
  | insertCue p body => exact cueInv_command .insertCue h ht
  | amendCue p body => exact cueInv_command .amendCue h ht
  | deleteCue p body => exact cueInv_command .deleteCue h ht
  | holdCue p body => exact cueInv_command .holdCue h ht
  | clearTable p body => exact cueInv_command .clearTable h ht
  | readCue p body => exact cueInv_command .readCue h ht
  | nextCue p body => exact cueInv_command .nextCue h ht
  | setProfile p body => exact cueInv_command .setProfile h ht
  | readProfile p body => exact cueInv_command .readProfile h ht
  | setLane p body => exact cueInv_command .setLane h ht
  | readLane p body => exact cueInv_command .readLane h ht
  | enableLane p body => exact cueInv_command .enableLane h ht
  | disableLane p body => exact cueInv_command .disableLane h ht
  | cancelLane p body => exact cueInv_command .cancelLane h ht
  | clearStage p body => exact cueInv_command .clearStage h ht
  | trackerStatus p body => exact cueInv_command .trackerStatus h ht
  | ready p body => exact cueInv_command .ready h ht
  | tally p body => exact cueInv_command .tally h ht
  | reconfirm p body => exact cueInv_command .reconfirm h ht
  | startLoop p body => exact cueInv_command .startLoop h ht
  | stopLoop p body => exact cueInv_command .stopLoop h ht
  | readLoop p body => exact cueInv_command .readLoop h ht
  | readJournal p body => exact cueInv_command .readJournal h ht
  | circleTake p body => exact cueInv_command .circleTake h ht
  | uncircleTake p body => exact cueInv_command .uncircleTake h ht
  | trimJournal p body => exact cueInv_command .trimJournal h ht
  | setLine p body => exact cueInv_command .setLine h ht
  | readLines p body => exact cueInv_command .readLines h ht

theorem cueInv_whenDown {s : State} (x : Timer) {f : State → State} (hf : ∀ {u : State}, u.cueInv → (f u).cueInv) (h : s.cueInv) :
    (whenDown x f s).cueInv := by
  unfold whenDown
  split
  · exact hf h
  · exact h

/-- One millisecond keeps the invariant: counting down reads neither table nor lanes, and the expiries keep it. -/
theorem cueInv_tick {s : State} (h : s.cueInv) : (tick s).cueInv := by
  unfold tick
  split
  · exact h
  · have hcount : (countDown s).cueInv := SameCues.cueInv (s := s) ⟨rfl, fun _ => rfl⟩ h
    unfold expire
    refine cueInv_whenDown _ (fun hu => cueInv_of_touches hu (touches_locateExpiry _)) ?_
    refine cueInv_whenDown _ (fun hu => (sameCues_idleExpiry _).cueInv hu) ?_
    exact cueInv_whenDown _ cueInv_stepExpiry (cueInv_whenDown _ cueInv_waitExpiry hcount)

/-- Settles O58: the step is a millisecond, or the front command on the state with the queue's rest. -/
theorem stepKeepsTheCues : Obligations.StepKeepsTheCues := by
  unfold Obligations.StepKeepsTheCues
  intro s t h ht
  unfold step at ht
  split at ht
  · cases ht
    exact cueInv_tick h
  · next rest _ =>
    have hrest : State.cueInv { s with pending := rest } := SameCues.cueInv (s := s) ⟨rfl, fun _ => rfl⟩ h
    exact cueInv_exec _ hrest ht

end Sys2Proof.Machine
end

section
/-! ## Device reset (O5, O6)

What every block reads after device reset, for any straps (R25, R40, R64, R93, R112, R132, R148, R160, R172, R186), and that this
state meets every invariant. -/

namespace Sys2Proof.Machine

set_option Elab.async false

section
variable (held : Bool) (x : Straps) (queue : List Instr)

theorem deviceReset_port (p : PortId) : (State.deviceReset held x queue).port p = defaultPort x := by
  simp [State.port, State.deviceReset]

theorem deviceReset_link (p : PortId) : (State.deviceReset held x queue).link p = .normal := by
  simp [State.link, State.deviceReset]

theorem deviceReset_profile (q : ProfileId) : (State.deviceReset held x queue).profile q = defaultProfile x.frameRate := by
  simp [State.profile, State.deviceReset, defaultTable]

theorem deviceReset_lane (l : LaneId) : (State.deviceReset held x queue).lane l = defaultLane l.val := by
  fin_cases l <;> rfl

theorem deviceReset_markLane (l : LaneId) : (State.deviceReset held x queue).markLane l = idleMarkLane := by
  simp [State.markLane, State.deviceReset, defaultMarks]

theorem deviceReset_channel (c : ChannelId) : (State.deviceReset held x queue).channel c = defaultChannel := by
  simp [State.channel, State.deviceReset, defaultMarks]

theorem deviceReset_collisions (t : ToneId) : (State.deviceReset held x queue).marks.collisions[t] = 0 := by
  simp [State.deviceReset, defaultMarks]

theorem deviceReset_punchOf (l : LaneId) : (State.deviceReset held x queue).punchOf l = defaultPunch := by
  simp [State.punchOf, State.deviceReset]

theorem deviceReset_group (g : GroupId) : (State.deviceReset held x queue).group g = defaultGroup := by
  simp [State.group, State.deviceReset, defaultLoop]

theorem deviceReset_input (i : LineId) : (State.deviceReset held x queue).input i = defaultInput := by
  simp [State.input, State.deviceReset, defaultLines]

theorem deviceReset_output (o : LineId) : (State.deviceReset held x queue).output o = defaultOutput := by
  simp [State.output, State.deviceReset, defaultLines]

/-- Every output line has no function and is driven LOW; O0 to O2 are high-impedance while RESET is held (R167, R168). -/
theorem deviceReset_outputPin (o : LineId) :
    (State.deviceReset held x queue).outputPin o = if held && decide (o.val ≤ 2) then none else some .low := by
  have hlevel : (State.deviceReset held x queue).outputLevel o = .low := by
    unfold State.outputLevel State.outputActive
    rw [deviceReset_output]
    rfl
  unfold State.outputPin
  rw [hlevel]
  rfl

/-! ### The invariants -/

theorem trackerInv_deviceReset : (State.deviceReset held x queue).trackerInv := by
  have hrate : isFrameRate x.frameRate = true := by
    obtain ⟨_, o1, o0⟩ := x
    cases o1 <;> cases o0 <;> rfl
  refine ⟨⟨hrate, ?_⟩, ?_⟩
  · simp [State.deviceReset, defaultParams]
  · simp [Tracker.wf, State.deviceReset, defaultTracker, Timer.isRunning]

theorem grantInv_deviceReset : (State.deviceReset held x queue).grantInv := by
  simp [State.grantInv, State.deviceReset, defaultGrant]

theorem journalInv_deviceReset : (State.deviceReset held x queue).journalInv := by
  simp [State.journalInv, State.deviceReset, defaultJournal, Config.lastSequence]

theorem portsInv_deviceReset : (State.deviceReset held x queue).portsInv := by
  intro p
  rw [deviceReset_port]
  simp [Port.wf, defaultPort, Config.presentDebounce]

theorem loopInv_deviceReset : (State.deviceReset held x queue).loopInv := by
  unfold State.loopInv
  simp only [deviceReset_group]
  simp [State.deviceReset, defaultGroup, defaultLoop, LoopMode.isActive, Timer.isRunning]

theorem punchInv_deviceReset : (State.deviceReset held x queue).punchInv := by
  unfold State.punchInv
  simp only [deviceReset_port, deviceReset_punchOf]
  simp [defaultPort, defaultPunch]

theorem overlayInv_deviceReset : (State.deviceReset held x queue).overlayInv := by
  unfold State.overlayInv
  simp only [deviceReset_channel, deviceReset_markLane]
  simp [defaultChannel, idleMarkLane]

end

/-- Settles O6: the state after reset is a device reset with the straps LOW. -/
theorem resetStateMeetsTheInvariants : Obligations.ResetStateMeetsTheInvariants := by
  unfold Obligations.ResetStateMeetsTheInvariants State.reset
  exact ⟨trackerInv_deviceReset _ _ _, grantInv_deviceReset _ _ _, journalInv_deviceReset _ _ _, portsInv_deviceReset _ _ _,
    loopInv_deviceReset _ _ _, cueInv_deviceReset _ _ _, punchInv_deviceReset _ _ _, overlayInv_deviceReset _ _ _⟩

/-- RESET_RELEASE while RESET is held is a device reset under the sampled straps (R169). -/
theorem exec_resetRelease {s : State} (o2 o1 o0 : Level) (h : s.resetHeld = true) :
    exec (.resetRelease o2 o1 o0) s = .next (State.deviceReset false { o2 := o2, o1 := o1, o0 := o0 } s.pending) := by
  show Host.Outcome.next (releaseReset _ s) = _
  rw [releaseReset, if_pos h]

/-- Settles O5: each block's values are read off the device reset. -/
theorem resetReleaseStartsThePart : Obligations.ResetReleaseStartsThePart := by
  unfold Obligations.ResetReleaseStartsThePart
  intro o2 o1 o0 s hs nf baud
  have hnf : ({ o2 := o2, o1 := o1, o0 := o0 } : Straps).frameRate = nf := rfl
  have hbaud : ({ o2 := o2, o1 := o1, o0 := o0 } : Straps).baud = baud := rfl
  refine ⟨_, exec_resetRelease o2 o1 o0 hs, rfl, rfl, rfl, hnf, fun p => ?ports, fun q => ?profiles, fun o => ?pins,
    fun c => ?channels, ⟨rfl, rfl, rfl, rfl, rfl, rfl, rfl⟩, ⟨rfl, rfl, rfl⟩, ⟨rfl, rfl, rfl, rfl⟩,
    ⟨rfl, rfl, rfl, rfl, rfl, rfl, rfl, rfl, rfl, rfl, rfl, rfl⟩, fun l => ⟨?lanes, ?marks, ?punch⟩,
    ⟨rfl, deviceReset_collisions _ _ _⟩, fun g => ?groups, ⟨rfl, rfl⟩, ⟨rfl, rfl, rfl⟩, fun i => ⟨?inputs, ?outputs⟩, rfl,
    fun p => ⟨deviceReset_link _ _ _ p, ?rest⟩⟩
  case ports => rw [deviceReset_port]; exact ⟨hbaud, hbaud⟩
  case profiles => rw [deviceReset_profile, hnf]; rfl
  case pins => rw [deviceReset_outputPin]; rfl
  case channels => rw [deviceReset_channel]; exact ⟨rfl, rfl, rfl⟩
  case lanes => exact deviceReset_lane _ _ _ l
  case marks => exact deviceReset_markLane _ _ _ l
  case punch => exact deviceReset_punchOf _ _ _ l
  case groups => exact deviceReset_group _ _ _ g
  case inputs => exact deviceReset_input _ _ _ i
  case outputs => exact deviceReset_output _ _ _ i
  case rest => rw [deviceReset_port]; exact ⟨rfl, rfl, rfl, rfl, rfl, rfl, rfl, rfl, rfl, rfl, rfl, rfl, rfl, rfl⟩

end Sys2Proof.Machine
end

section
/-! ## The offer and the lanes' claims at an advance (O16, O17, O18) -/

namespace Sys2Proof.Machine

set_option Elab.async false

/-! ### Eligibility and the offer (R19, R21) -/

/-- The loop-group test, written out (R19). -/
theorem groupAllows_iff (s : State) (c : CueRecord) :
    s.groupAllows c = true ↔ ∀ g : GroupId, s.activeGroup = some g → c.group = some g := by
  unfold State.groupAllows
  cases s.activeGroup <;> simp

/-- Eligibility, written out with the record's own lane's advance in place of the lane's (R4, R19). -/
theorem eligible_iff (s : State) (l : LaneId) (reel p : Nat) (r : CueRecord) :
    s.eligible l reel p r = true ↔
      (r.lane = l ∧ r.reel = reel ∧ r.takeCount < r.takeLimit ∧ ∀ g : GroupId, s.activeGroup = some g → r.group = some g) ∧
        (∀ k : LaneId, (s.lane k).pinned ≠ some r.number) ∧ r.hold = false ∧
        p < r.inFrame - max (max ((s.profile r.profile).wipe + (s.lane l).routing.advance)
          ((s.profile r.profile).pips * (s.profile r.profile).spacing + (s.lane l).routing.advance))
          (max (s.profile r.profile).recordLead 1) := by
  have hlead : r.lane = l → (s.frames r).leadIn =
      r.inFrame - max (max ((s.profile r.profile).wipe + (s.lane l).routing.advance)
        ((s.profile r.profile).pips * (s.profile r.profile).spacing + (s.lane l).routing.advance))
        (max (s.profile r.profile).recordLead 1) := by
    rintro rfl
    rfl
  simp only [State.eligible, Bool.and_eq_true, Bool.not_eq_true', isPinned_eq_false_iff, beq_iff_eq, decide_eq_true_eq,
    groupAllows_iff]
  constructor
  · rintro ⟨⟨⟨⟨⟨⟨hpin, hl⟩, hreel⟩, hhold⟩, hcount⟩, hframe⟩, hgroup⟩
    exact ⟨⟨hl, hreel, hcount, hgroup⟩, hpin, hhold, hlead hl ▸ hframe⟩
  · rintro ⟨⟨hl, hreel, hcount, hgroup⟩, hpin, hhold, hframe⟩
    exact ⟨⟨⟨⟨⟨⟨hpin, hl⟩, hreel⟩, hhold⟩, hcount⟩, (hlead hl).symm ▸ hframe⟩, hgroup⟩

/-- What counts for a re-arming claim: the eligible records, and the lane's own one when it could be pinned afresh (R21). -/
theorem reofferTest_iff (s : State) (l : LaneId) (reel p own : Nat) (r : CueRecord) :
    (if r.number == own then r.lane == l && r.reel == reel && decide (r.takeCount < r.takeLimit) && s.groupAllows r
      else s.eligible l reel p r) = true ↔
      s.eligible l reel p r = true ∨ (r.number = own ∧ r.lane = l ∧ r.reel = reel ∧ r.takeCount < r.takeLimit ∧
        ∀ g : GroupId, s.activeGroup = some g → r.group = some g) := by
  by_cases hown : r.number = own
  · rw [if_pos (beq_iff_eq.mpr hown)]
    simp only [Bool.and_eq_true, beq_iff_eq, decide_eq_true_eq, groupAllows_iff, and_assoc]
    constructor
    · exact fun h => .inr ⟨hown, h⟩
    · rintro (h | ⟨-, h⟩)
      · exact ((eligible_iff s l reel p r).mp h).1
      · exact h
  · rw [if_neg (by simpa using hown)]
    simp [hown]

/-- The first member of a list that meets a test. -/
theorem find?_first {α : Type} {f : α → Bool} {good : α → Prop} (hf : ∀ x, f x = true ↔ good x) (xs : List α) (c : α) :
    (xs.find? f = some c ↔ ∃ before after : List α, xs = before ++ c :: after ∧ good c ∧ ∀ x ∈ before, ¬good x) ∧
      (xs.find? f = none ↔ ∀ x ∈ xs, ¬good x) := by
  constructor
  · rw [List.find?_eq_some_iff_append]
    simp only [hf, Bool.not_eq_true', ← Bool.not_eq_true]
    constructor
    · rintro ⟨hc, before, after, hxs, hbefore⟩
      exact ⟨before, after, hxs, hc, hbefore⟩
    · rintro ⟨before, after, hxs, hc, hbefore⟩
      exact ⟨hc, before, after, hxs, hbefore⟩
  · simp only [List.find?_eq_none, hf]

/-- Settles O16: both offers find the first record that meets a test, and the tests are written out above. -/
theorem offerIsTheFirstEligibleCue : Obligations.OfferIsTheFirstEligibleCue := by
  unfold Obligations.OfferIsTheFirstEligibleCue
  intro s l reel p c allowed eligible first
  have heligible : ∀ r, s.eligible l reel p r = true ↔ eligible r := eligible_iff s l reel p
  have hown : ∀ own r, _ ↔ eligible r ∨ (r.number = own ∧ allowed r) := fun own r =>
    (reofferTest_iff s l reel p own r).trans (or_congr (heligible r) Iff.rfl)
  exact ⟨find?_first heligible s.table.records c, fun own => find?_first (hown own) s.table.records c⟩

/-! ### An advance at a lane, by its state (R75) -/

section
variable {l : LaneId} {a : Advance} {s : State}

theorem laneAdvance_off (h : (s.lane l).mode = .off) : laneAdvance l a s = s := by simp [laneAdvance, h]

theorem laneAdvance_standby (h : (s.lane l).mode = .standby) : laneAdvance l a s = armingAttempt l a.reel a.frame s := by
  simp [laneAdvance, h]

theorem laneAdvance_armed (h : (s.lane l).mode = .armed) :
    laneAdvance l a s = armedAdvance l a (modCycle l (fun c => c.touch a) s) := by
  simp [laneAdvance, h]

/-- A lane to which no advance is offered takes none (log 1). -/
theorem laneTakesAdvance_of_none (h : (∀ a : Advance, s.offered.event ≠ some (.advance a)) ∨ s.offered.lanes[l] = false) :
    laneTakesAdvance l s = s := by
  unfold laneTakesAdvance
  split
  · rfl
  · next b hb =>
    rcases h with h | h
    · refine absurd ?_ (h b)
      unfold State.offeredAdvance at hb
      split at hb
      · next e => rw [e, Option.some.inj hb]
      all_goals cases hb
    · rw [if_neg]
      simp [State.laneDue, h]

end

/-! ### Arming (R71 to R73) -/

/-- The ready level, written out (R71, R163). -/
theorem readyLevel_iff (s : State) (l : LaneId) :
    s.readyLevel l = true ↔
      ∃ i : LineId, (s.input i).function = .actorReady l ∧ (s.input i).trigger = .level ∧
        (s.input i).level = (s.input i).polarity := by
  have hall : ∀ i : LineId, i ∈ allLines := by decide
  unfold State.readyLevel InputLine.active
  simp only [List.any_eq_true, Bool.and_eq_true, beq_iff_eq, and_assoc]
  exact ⟨fun ⟨i, _, h⟩ => ⟨i, h⟩, fun ⟨i, h⟩ => ⟨i, hall i, h⟩⟩

theorem armingAttempt_of_offer {s : State} {l : LaneId} {reel p : Nat} {c : CueRecord} (hmay : s.armingAllowed l)
    (hc : s.offer l reel p = some c) : armingAttempt l reel p s = armCue l c p s := by
  simp [armingAttempt, (mayArm_iff s l).mpr hmay, hc]

theorem armingAttempt_of_not {s : State} {l : LaneId} {reel p : Nat} (h : ¬s.armingAllowed l ∨ s.offer l reel p = none) :
    armingAttempt l reel p s = s := by
  rw [← mayArm_iff] at h
  unfold armingAttempt
  rcases h with h | h
  · rw [if_neg h]
  · rw [h]
    exact ite_self s

/-- Settles O17: a lane that has taken the event sees the table, the lines and itself as before. -/
theorem standbyLaneArms : Obligations.StandbyLaneArms := by
  unfold Obligations.StandbyLaneArms
  intro l s hs
  refine ⟨fun a ha => ?_, fun hnone => ?_, readyLevel_iff s l⟩
  · rw [exec_lanePositionAdvance ha]
    refine ⟨fun hoff => ?_, fun hstandby => ?_⟩
    · rw [laneAdvance_off (s := s.laneTook l) hoff]
    · rw [laneAdvance_standby (s := s.laneTook l) hstandby]
      refine ⟨fun c hmay hc => ?_, fun hnot => ?_⟩
      · rw [armingAttempt_of_offer (s := s.laneTook l) hmay hc]
        rfl
      · rw [armingAttempt_of_not (s := s.laneTook l) hnot]
  · show live _ s = _
    rw [live_of_released hs, laneTakesAdvance_of_none hnone]

/-! ### Re-arming (R21, R74, R76) -/

/-- What a lane's record is read for by the table's queries is its pin and its advance. -/
theorem isPinned_setLane (s : State) (l : LaneId) (x : Lane) (hp : x.pinned = (s.lane l).pinned) (n : Nat) :
    (s.setLane l x).isPinned n = s.isPinned n := by
  rw [Bool.eq_iff_iff, isPinned_eq_true_iff, isPinned_eq_true_iff]
  refine exists_congr fun k => ?_
  rw [State.lane_setLane]
  split
  · next hk => rw [hp, hk]
  · rfl

theorem frames_setLane (s : State) (l : LaneId) (x : Lane) (hr : x.routing = (s.lane l).routing) (c : CueRecord) :
    (s.setLane l x).frames c = s.frames c := by
  unfold State.frames
  rw [State.lane_setLane]
  split
  · next hk => rw [hr, hk]; rfl
  · rfl

theorem eligible_setLane (s : State) (l : LaneId) (x : Lane) (hp : x.pinned = (s.lane l).pinned)
    (hr : x.routing = (s.lane l).routing) (k : LaneId) (reel p : Nat) (c : CueRecord) :
    (s.setLane l x).eligible k reel p c = s.eligible k reel p c := by
  unfold State.eligible
  rw [isPinned_setLane s l x hp, frames_setLane s l x hr]
  rfl

theorem reoffer_setLane (s : State) (l : LaneId) (x : Lane) (hp : x.pinned = (s.lane l).pinned)
    (hr : x.routing = (s.lane l).routing) (k : LaneId) (reel p own : Nat) :
    (s.setLane l x).reoffer k reel p own = s.reoffer k reel p own := by
  unfold State.reoffer
  simp only [eligible_setLane s l x hp hr]
  rfl

theorem reoffer_setCycle (s : State) (l : LaneId) (y : Option CycleRecord) (k : LaneId) (reel p own : Nat) :
    (s.setLane l { s.lane l with cycle := y }).reoffer k reel p own = s.reoffer k reel p own :=
  reoffer_setLane s l { s.lane l with cycle := y } rfl rfl k reel p own

theorem frames_setCycle (s : State) (l : LaneId) (y : Option CycleRecord) (c : CueRecord) :
    (s.setLane l { s.lane l with cycle := y }).frames c = s.frames c :=
  frames_setLane s l { s.lane l with cycle := y } rfl c

/-- The lane's mark setup does not hang on its cycle record or the last frame. -/
theorem markSetupOf_setCycle (s : State) (l : LaneId) (y : Option CycleRecord) (c : CycleRecord) (p : Nat) :
    (s.setLane l { s.lane l with cycle := y }).markSetupOf l { c with last := p } = s.markSetupOf l c := by
  unfold State.markSetupOf
  rw [State.lane_setLane_same]
  rfl

/-- A cycle whose take has not begun takes from an advance its last frame only (R82). -/
theorem modCycle_touch {s : State} {l : LaneId} {c : CycleRecord} (a : Advance) (hc : (s.lane l).cycle = some c)
    (hbegun : c.begun = false) :
    modCycle l (fun c => c.touch a) s = s.setLane l { s.lane l with cycle := some { c with last := a.frame } } := by
  simp [modCycle, hc, CycleRecord.touch, hbegun]

section
variable {l : LaneId} {a : Advance} {c : CycleRecord} {n : Nat} {s : State}

/-- An ARMED lane that keeps its cue goes on to the lead-in test (R74, R76). -/
theorem armedAdvance_keeps (hmode : (s.lane l).mode = .armed) (hpin : (s.lane l).pinned = some n)
    (hc : (s.lane l).cycle = some c)
    (hkeep : s.table.confirmed = false ∨ ∃ r : CueRecord, s.reoffer l a.reel a.frame n = some r ∧ r.number = n) :
    armedAdvance l a s = if c.leadIn ≤ a.frame then enterLeadin l c a s else s := by
  have hstay : (if s.table.confirmed then rearm l a.reel a.frame s else s) = s := by
    rcases hkeep with hk | ⟨r, hr, hnum⟩
    · simp [hk]
    · have : rearm l a.reel a.frame s = s := by simp [rearm, hpin, hr, hnum]
      rw [this]
      exact ite_self s
  unfold armedAdvance
  dsimp only
  rw [hstay, hmode, hc]

/-- The take of an unbegun cycle begins in LEADIN only with record ON and from the punch-in point (R77). -/
theorem takeBeginTest_of_not (hc : (s.lane l).cycle = some c) (h : c.record = false ∨ a.frame < c.punchIn) :
    takeBeginTest l a s = s := by
  unfold takeBeginTest
  rw [hc]
  refine if_neg ?_
  rintro ⟨hrec, -, hpunch⟩
  rcases h with h | h
  · exact absurd (hrec.symm.trans h) (by decide)
  · exact absurd hpunch (not_le.mpr h)

theorem takeBeginTest_of_begins (hc : (s.lane l).cycle = some c) (hrec : c.record = true) (hbegun : c.begun = false)
    (hpunch : c.punchIn ≤ a.frame) : takeBeginTest l a s = takeBegin l c a s := by
  unfold takeBeginTest
  rw [hc]
  exact if_pos ⟨hrec, hbegun, hpunch⟩

/-- The cycle record of a take that begins, written out (R77, R82). -/
theorem begunCycle_eq {r : CueRecord} (a : Advance) (h : s.record c.cue = some r) :
    s.begunCycle { c with last := a.frame } a = s.begunRecord c r a := by
  unfold State.begunCycle State.begunRecord State.loopPassOf
  rewrite [h]
  cases s.activeGroup <;> rfl

/-- The lane of a take that begins. -/
theorem lanes_takeBegin : (takeBegin l c a s).lanes = s.lanes.set l { s.lane l with cycle := some (s.begunCycle c a) } := by
  unfold takeBegin
  dsimp only
  split
  · exact touches_punchDecision l _ _ .lanes (by decide)
  · rfl

/-- The take of a lane that has just been written and has handed over its marks begins on the table and the groups as they were. -/
theorem lanes_takeBegin_entered (x : Lane) (m : Handoff) :
    (takeBegin l c a ((s.setLane l x).handOff m)).lanes = s.lanes.set l { x with cycle := some (s.begunCycle c a) } := by
  have hbegun : ((s.setLane l x).handOff m).begunCycle c a = s.begunCycle c a := rfl
  rw [lanes_takeBegin, hbegun, State.lane_handOff_other, State.lane_setLane_same]
  exact Vector.set_set _ _

/-- An ARMED lane with nothing on offer lets its cue go (R74). -/
theorem rearm_of_none (hpin : (s.lane l).pinned = some n) (hdrain : s.notDraining)
    (hnone : s.reoffer l a.reel a.frame n = none) :
    rearm l a.reel a.frame s =
      s.setLane l { s.lane l with mode := .standby, pinned := none, cycle := none, closing := false } := by
  have hrelease : afterRelease n (s.setLane l { s.lane l with pinned := none }) =
      s.setLane l { s.lane l with pinned := none } := afterRelease_of_notDraining hdrain
  simp only [rearm, hpin, hnone, letGo, releaseClaim, hrelease, State.unpin, State.setLane_twice, State.lane_setLane_same]

/-- An ARMED lane switches to an earlier cue (R21, R74). -/
theorem rearm_of_other {r : CueRecord} (hpin : (s.lane l).pinned = some n) (hdrain : s.notDraining)
    (hr : s.reoffer l a.reel a.frame n = some r) (hne : r.number ≠ n) :
    rearm l a.reel a.frame s =
      post .lane (s.armedNotice l r (some n))
        (s.setLane l { s.lane l with pinned := some r.number, cycle := some (s.freshCycle r a.frame) }) := by
  have hrelease : afterRelease n (s.setLane l { s.lane l with pinned := some r.number }) =
      s.setLane l { s.lane l with pinned := some r.number } := afterRelease_of_notDraining hdrain
  simp only [rearm, hpin, hr, hne, if_false, switchCue, hrelease, State.setLane_twice, State.lane_setLane_same]

/-- A record that a re-arming claim offers in place of the lane's own starts its lead-in after the frame (R19). -/
theorem leadIn_of_reoffer {r : CueRecord} {reel p : Nat} (hr : s.reoffer l reel p n = some r) (hne : r.number ≠ n) :
    p < (s.frames r).leadIn := by
  have h := List.find?_some hr
  simp only [beq_iff_eq, hne, if_false] at h
  simp only [State.eligible, Bool.and_eq_true, decide_eq_true_eq] at h
  exact h.1.2

/-- The cue a lane switches to is not yet due: the lane stays ARMED (R74, R76). -/
theorem armedAdvance_switches {r : CueRecord} (hpin : (s.lane l).pinned = some n) (hconfirmed : s.table.confirmed = true)
    (hdrain : s.notDraining) (hr : s.reoffer l a.reel a.frame n = some r) (hne : r.number ≠ n) :
    armedAdvance l a s =
      post .lane (s.armedNotice l r (some n))
        (s.setLane l { s.lane l with pinned := some r.number, cycle := some (s.freshCycle r a.frame) }) := by
  have hlead : ¬(s.freshCycle r a.frame).leadIn ≤ a.frame := not_le.mpr (leadIn_of_reoffer hr hne)
  unfold armedAdvance
  dsimp only
  rw [hconfirmed, if_pos rfl, rearm_of_other hpin hdrain hr hne]
  generalize hu : post .lane _ _ = u
  have hcycle : (u.lane l).cycle = some (s.freshCycle r a.frame) := by
    rw [← hu]
    exact congrArg Lane.cycle (State.lane_setLane_same s l _)
  rw [hcycle]
  split
  · next c _ hc =>
    rw [← Option.some.inj hc]
    exact if_neg hlead
  · rfl

theorem armedAdvance_letsGo (hpin : (s.lane l).pinned = some n) (hconfirmed : s.table.confirmed = true)
    (hdrain : s.notDraining) (hnone : s.reoffer l a.reel a.frame n = none) :
    armedAdvance l a s =
      s.setLane l { s.lane l with mode := .standby, pinned := none, cycle := none, closing := false } := by
  unfold armedAdvance
  dsimp only
  rw [hconfirmed, if_pos rfl, rearm_of_none hpin hdrain hnone, State.lane_setLane_same]

/-! ### An ARMED lane at an advance (R74 to R77) -/

/-- The advance leaves its frame in the cycle record of an ARMED lane, and the lane then tests its cue (R74, R82). -/
theorem laneAdvance_armed_eq (hmode : (s.lane l).mode = .armed) (hc : (s.lane l).cycle = some c) (hbegun : c.begun = false) :
    laneAdvance l a s =
      armedAdvance l a (s.setLane l { s.lane l with cycle := some { c with last := a.frame } }) := by
  rw [laneAdvance_armed hmode, modCycle_touch a hc hbegun]

theorem laneAdvance_armed_keeps (hmode : (s.lane l).mode = .armed) (hpin : (s.lane l).pinned = some n)
    (hc : (s.lane l).cycle = some c) (hbegun : c.begun = false)
    (hkeep : s.table.confirmed = false ∨ ∃ r : CueRecord, s.reoffer l a.reel a.frame n = some r ∧ r.number = n) :
    laneAdvance l a s =
      if c.leadIn ≤ a.frame then
        takeBeginTest l a
          ((s.setLane l { s.lane l with mode := .leadin, cycle := some { c with last := a.frame } }).handOff
            (.start l (s.markSetupOf l c) a.frame))
      else s.setLane l { s.lane l with cycle := some { c with last := a.frame } } := by
  rw [laneAdvance_armed_eq hmode hc hbegun]
  refine (armedAdvance_keeps (n := n) (c := { c with last := a.frame }) ?_ ?_ ?_ ?_).trans ?_
  · rw [State.lane_setLane_same]; exact hmode
  · rw [State.lane_setLane_same]; exact hpin
  · rw [State.lane_setLane_same]
  · rw [reoffer_setCycle]; exact hkeep
  · unfold enterLeadin
    dsimp only
    rw [State.setLane_twice, markSetupOf_setCycle, State.lane_setLane_same]

theorem laneAdvance_armed_letsGo (hmode : (s.lane l).mode = .armed) (hpin : (s.lane l).pinned = some n)
    (hc : (s.lane l).cycle = some c) (hbegun : c.begun = false) (hconfirmed : s.table.confirmed = true)
    (hdrain : s.notDraining) (hnone : s.reoffer l a.reel a.frame n = none) :
    laneAdvance l a s =
      s.setLane l { s.lane l with mode := .standby, pinned := none, cycle := none, closing := false } := by
  rw [laneAdvance_armed_eq hmode hc hbegun]
  refine (armedAdvance_letsGo (n := n) ?_ ?_ ?_ ?_).trans ?_
  · rw [State.lane_setLane_same]; exact hpin
  · exact hconfirmed
  · exact hdrain
  · rw [reoffer_setCycle]; exact hnone
  · rw [State.setLane_twice, State.lane_setLane_same]

theorem laneAdvance_armed_switches {r : CueRecord} (hmode : (s.lane l).mode = .armed) (hpin : (s.lane l).pinned = some n)
    (hc : (s.lane l).cycle = some c) (hbegun : c.begun = false) (hconfirmed : s.table.confirmed = true)
    (hdrain : s.notDraining) (hr : s.reoffer l a.reel a.frame n = some r) (hne : r.number ≠ n) :
    laneAdvance l a s =
      post .lane (s.armedNotice l r (some n))
        (s.setLane l { s.lane l with pinned := some r.number, cycle := some (s.freshCycle r a.frame) }) := by
  rw [laneAdvance_armed_eq hmode hc hbegun]
  refine (armedAdvance_switches (n := n) (r := r) ?_ ?_ ?_ ?_ hne).trans ?_
  · rw [State.lane_setLane_same]; exact hpin
  · exact hconfirmed
  · exact hdrain
  · rw [reoffer_setCycle]; exact hr
  · unfold State.armedNotice State.freshCycle
    rw [State.setLane_twice, State.lane_setLane_same, frames_setCycle]

end

/-- Settles O18, with the branches above at the state in which the lane has taken the event. -/
theorem armedLaneAdvances : Obligations.ArmedLaneAdvances := by
  unfold Obligations.ArmedLaneAdvances
  intro l a c n s ha hmode hpin hc hbegun
  rw [exec_lanePositionAdvance ha]
  have hkeeps := laneAdvance_armed_keeps (a := a) (s := s.laneTook l) hmode hpin hc hbegun
  have hgo := laneAdvance_armed_letsGo (a := a) (s := s.laneTook l) hmode hpin hc hbegun
  have hswitch := fun r => laneAdvance_armed_switches (a := a) (s := s.laneTook l) (r := r) hmode hpin hc hbegun
  have hcycle : ∀ (x : Lane) (m : Handoff), ((((s.laneTook l).setLane l x).handOff m).lane l).cycle = x.cycle := fun x m => by
    rw [State.lane_handOff_other, State.lane_setLane_same]
  intro keeps y q start answer
  refine ⟨fun hk hlead => ?waits, fun hk hlead hnot => ?enters, fun r hk hlead hrec hpunch hr => ?begins,
    fun hconfirmed hdrain hnone => ?letsGo, fun r hconfirmed hdrain hr hne => ?switches⟩
  case waits => exact congrArg _ ((hkeeps hk).trans (if_neg (not_le.mpr hlead)))
  case enters =>
    exact congrArg _ ((hkeeps hk).trans ((if_pos hlead).trans (takeBeginTest_of_not (c := y) (hcycle _ _) hnot)))
  case begins =>
    refine ⟨_, congrArg _ ((hkeeps hk).trans ((if_pos hlead).trans
      (takeBeginTest_of_begins (c := y) (hcycle _ _) hrec hbegun hpunch))), ?_, ?_, ?_⟩
    · exact touches_takeBegin l _ a _ .handoffs (by decide)
    · rw [lanes_takeBegin_entered]
      have hrecord : (s.laneTook l).begunCycle { c with last := a.frame } a = s.begunRecord c r a :=
        begunCycle_eq (s := s.laneTook l) a hr
      rw [hrecord]
      rfl
    · exact ((touches_offered s _).andThen ((touches_setLane _ l _).andThen (touches_handOff _ _)
        (zs := [.lanes, .handoffs])) (zs := [.offered, .lanes, .handoffs])).andThen (touches_takeBegin l _ a _)
  case letsGo => exact congrArg _ (hgo hconfirmed hdrain hnone)
  case switches => exact congrArg _ (hswitch r hconfirmed hdrain hr hne)

end Sys2Proof.Machine
end

section
/-! ## Bodies of the table's requests, and the edits other than INSERT and AMEND (O43) -/

namespace Sys2Proof.Machine

set_option Elab.async false

/-! ### Numbers in a body (R187) -/

@[simp] theorem byteAt_cons_zero (b : Byte) (bs : List Byte) : byteAt (b :: bs) 0 = b.toNat := rfl
@[simp] theorem byteAt_cons_succ (b : Byte) (bs : List Byte) (i : Nat) : byteAt (b :: bs) (i + 1) = byteAt bs i := rfl

theorem byteAt_lt (b : List Byte) (i : Nat) : byteAt b i < 256 := (b.getD i 0).isLt

/-- A number in its range is read back from its two bytes. -/
theorem wordAt_num2_append {n : Nat} (h : n ≤ 65535) (rest : List Byte) : wordAt (num2 n ++ rest) 0 = n := by
  show 256 * (BitVec.ofNat 8 (n / 256)).toNat + (BitVec.ofNat 8 n).toNat = n
  rw [BitVec.toNat_ofNat, BitVec.toNat_ofNat]
  omega

theorem wordAt_num2 {n : Nat} (h : n ≤ 65535) : wordAt (num2 n) 0 = n := by
  simpa using wordAt_num2_append h []

theorem boolOf_toNat {b : Byte} (h : b.toNat ≤ 1) : boolOf b.toNat = some (decide (b = 1)) := by
  have hb : b = 0 ∨ b = 1 := by
    rcases Nat.le_one_iff_eq_zero_or_eq_one.mp h with h | h
    · exact .inl (BitVec.eq_of_toNat_eq h)
    · exact .inr (BitVec.eq_of_toNat_eq h)
  rcases hb with rfl | rfl <;> rfl

theorem boolOf_eq_none {n : Nat} (h : 1 < n) : boolOf n = none := by
  unfold boolOf
  split
  · omega
  · omega
  · rfl

theorem encBool_eq (b : Bool) : encBool b = [if b = true then 1 else 0] := by cases b <;> rfl

/-! ### Answers (R187) -/

/-- A block that answers a status alone. -/
theorem answers_bare {s t : State} {p : PortId} {k : Request} {body : List Byte} {x : Status} (h : s.admits p k body)
    (hb : k.block p body (s.dropItem p) = (t, .bare x)) : Answers k p body s t (num1 x.code) :=
  answers_of_block (fields := []) h hb

/-- A block that answers OK with fields. -/
theorem answers_ok {s t : State} {p : PortId} {k : Request} {body fields : List Byte} (h : s.admits p k body)
    (hb : k.block p body (s.dropItem p) = (t, .okWith fields)) : Answers k p body s t ([0x00] ++ fields) :=
  answers_of_block h hb

/-! ### The edits (R9 to R11) -/

theorem record_ne_none_iff (s : State) (n : Nat) : s.record n ≠ none ↔ (s.record n).isNone = false := by
  cases s.record n <;> simp

/-- DELETE CUE, test by test (R9). -/
theorem answerDelete_num2 {n : Nat} (hn : n ≤ 65535) (s : State) :
    answerDelete (num2 n) s =
      if n = 0 then (s, .bare .range)
      else if (s.record n).isNone then (s, .bare .noCue)
      else if s.isPinned n then (s, .bare .pinned)
      else (edited (dropCue n s.table.records) s, .okWith []) := by
  unfold answerDelete
  rw [wordAt_num2 hn]

/-- The bytes of a HOLD CUE name the cue and the hold (R10). -/
theorem wordAt_holdBody {n : Nat} (hn : n ≤ 65535) (b : Byte) :
    wordAt (num2 n ++ [b]) 0 = n ∧ byteAt (num2 n ++ [b]) 2 = b.toNat := ⟨wordAt_num2_append hn [b], rfl⟩

theorem answerHold_range {n : Nat} {b : Byte} (hn : n ≤ 65535) (h : n = 0 ∨ 1 < b.toNat) (s : State) :
    answerHold (num2 n ++ [b]) s = (s, .bare .range) := by
  obtain ⟨hword, hbyte⟩ := wordAt_holdBody hn b
  unfold answerHold
  rw [hword, hbyte]
  rcases h with h0 | hb
  · split
    · rfl
    · exact if_pos h0
  · rw [boolOf_eq_none hb]

theorem answerHold_noCue {n : Nat} {b : Byte} (hn : n ≤ 65535) (h0 : n ≠ 0) (hb : b.toNat ≤ 1) {s : State}
    (hr : s.record n = none) : answerHold (num2 n ++ [b]) s = (s, .bare .noCue) := by
  obtain ⟨hword, hbyte⟩ := wordAt_holdBody hn b
  unfold answerHold
  rw [hword, hbyte, boolOf_toNat hb]
  simp only [h0, if_false, hr]

theorem answerHold_found {n : Nat} {b : Byte} (hn : n ≤ 65535) (h0 : n ≠ 0) (hb : b.toNat ≤ 1) {s : State} {c : CueRecord}
    (hr : s.record n = some c) :
    answerHold (num2 n ++ [b]) s =
      (edited (changeCue n (fun x => { x with hold := decide (b = 1) }) s.table.records) s,
        .okWith (num1 (CueRecord.status { c with hold := decide (b = 1) }).code)) := by
  obtain ⟨hword, hbyte⟩ := wordAt_holdBody hn b
  unfold answerHold
  rw [hword, hbyte, boolOf_toNat hb]
  simp only [h0, if_false, hr]

theorem changeCue_eq_map (n : Nat) (f : CueRecord → CueRecord) (rs : List CueRecord) :
    changeCue n f rs = rs.map fun y => if y.number = n then f y else y := by
  simp [changeCue]

/-- The derived status as its code (R3, 11.4). -/
theorem num1_status (c : CueRecord) :
    num1 c.status.code = [if c.hold = true then 1 else if c.takeCount = c.takeLimit then 2 else 0] := by
  unfold CueRecord.status
  split
  · rfl
  · split <;> rfl

theorem pinnedRecords_isEmpty_iff (s : State) :
    s.pinnedRecords.isEmpty = true ↔ ∀ c ∈ s.table.records, ¬∃ l : LaneId, (s.lane l).pinned = some c.number := by
  simp only [State.pinnedRecords, List.isEmpty_iff, List.filter_eq_nil_iff, isPinned_eq_true_iff]

/-- A profile is in use while a pinned record names it (R16). -/
theorem profileUsers_eq_zero_iff (s : State) (q : ProfileId) :
    s.profileUsers q = 0 ↔ ∀ c ∈ s.table.records, (∃ l : LaneId, (s.lane l).pinned = some c.number) → c.profile ≠ q := by
  simp only [State.profileUsers, State.pinnedRecords, List.length_eq_zero_iff, List.filter_eq_nil_iff, List.mem_filter,
    isPinned_eq_true_iff, and_imp, beq_iff_eq, ne_eq]

theorem profileOf_val (q : ProfileId) : profileOf q.val = some q := by
  unfold profileOf
  rw [dif_pos q.isLt]

theorem profileOf_eq_none {n : Nat} (h : 7 < n) : profileOf n = none := by
  unfold profileOf
  exact dif_neg (by omega)

/-- DELETE CUE at its port (R9). -/
theorem answers_deleteCue {s : State} {p : PortId} {n : Nat} (hn : n ≤ 65535) (h : s.admits p .deleteCue (num2 n)) :
    (n = 0 → Answers .deleteCue p (num2 n) s (s.dropItem p) [0x06]) ∧
      (n ≠ 0 → s.record n = none → Answers .deleteCue p (num2 n) s (s.dropItem p) [0x07]) ∧
      (n ≠ 0 → s.record n ≠ none → (∃ l : LaneId, (s.lane l).pinned = some n) →
        Answers .deleteCue p (num2 n) s (s.dropItem p) [0x0B]) ∧
      (n ≠ 0 → s.record n ≠ none → (¬∃ l : LaneId, (s.lane l).pinned = some n) →
        Answers .deleteCue p (num2 n) s (edited (s.table.records.filter fun c => c.number != n) (s.dropItem p)) [0x00]) := by
  have hblock := answerDelete_num2 hn (s.dropItem p)
  rw [dropItem_record, dropItem_isPinned] at hblock
  simp only [← isPinned_eq_true_iff]
  refine ⟨fun h0 => ?_, fun h0 hr => ?_, fun h0 hr hpin => ?_, fun h0 hr hpin => ?_⟩
  · exact answers_bare (x := .range) h (hblock.trans (by rw [if_pos h0]))
  · exact answers_bare (x := .noCue) h (hblock.trans (by rw [if_neg h0, hr]; rfl))
  · rw [record_ne_none_iff] at hr
    exact answers_bare (x := .pinned) h (hblock.trans (by rw [if_neg h0, hr, hpin]; rfl))
  · rw [record_ne_none_iff] at hr
    exact answers_ok (fields := []) h (hblock.trans (by rw [if_neg h0, hr, if_neg hpin]; rfl))

/-- HOLD CUE at its port (R10). -/
theorem answers_holdCue {s : State} {p : PortId} {n : Nat} {b : Byte} (hn : n ≤ 65535)
    (h : s.admits p .holdCue (num2 n ++ [b])) :
    (n = 0 ∨ 1 < b.toNat → Answers .holdCue p (num2 n ++ [b]) s (s.dropItem p) [0x06]) ∧
      (n ≠ 0 → b.toNat ≤ 1 → s.record n = none → Answers .holdCue p (num2 n ++ [b]) s (s.dropItem p) [0x07]) ∧
      ∀ c : CueRecord, n ≠ 0 → b.toNat ≤ 1 → s.record n = some c →
        Answers .holdCue p (num2 n ++ [b]) s
          (edited (s.table.records.map fun y => if y.number = n then { y with hold := decide (b = 1) } else y) (s.dropItem p))
          [0x00, if b = 1 then 1 else if c.takeCount = c.takeLimit then 2 else 0] := by
  refine ⟨fun hrange => answers_bare (x := .range) h (answerHold_range hn hrange _), fun h0 hb hr =>
    answers_bare (x := .noCue) h (answerHold_noCue hn h0 hb hr), fun c h0 hb hr => ?_⟩
  have hok := answers_ok h (answerHold_found (s := s.dropItem p) hn h0 hb hr)
  rw [num1_status, changeCue_eq_map] at hok
  simpa using hok

/-- CLEAR TABLE at its port (R11). -/
theorem answers_clearTable {s : State} {p : PortId} (h : s.admits p .clearTable []) :
    ((∃ c ∈ s.table.records, ∃ l : LaneId, (s.lane l).pinned = some c.number) →
        Answers .clearTable p [] s (s.dropItem p) [0x0B]) ∧
      ((∀ c ∈ s.table.records, ¬∃ l : LaneId, (s.lane l).pinned = some c.number) →
        Answers .clearTable p [] s (edited [] (s.dropItem p)) ([0x00] ++ num2 s.table.records.length)) := by
  have hempty := pinnedRecords_isEmpty_iff (s.dropItem p)
  simp only [dropItem_table, dropItem_lane] at hempty
  constructor
  · rintro ⟨c, hc, hpin⟩
    refine answers_bare (x := .pinned) h ?_
    exact if_neg fun he => hempty.mp he c hc hpin
  · exact fun hnone => answers_ok h (if_pos (hempty.mpr hnone))

theorem profileValues_of_not {b : List Byte}
    (h : ¬(byteAt b 1 ≤ 240 ∧ byteAt b 2 ≤ 4 ∧ 1 ≤ byteAt b 3 ∧ byteAt b 3 ≤ 60 ∧ 1 ≤ byteAt b 4 ∧ byteAt b 4 ≤ 8 ∧
      byteAt b 4 ≤ byteAt b 3 ∧ byteAt b 5 ≤ 8 ∧ byteAt b 6 ≤ 120 ∧ byteAt b 7 ≤ 240)) : profileValues b = none := if_neg h

/-- SET PROFILE with a profile number or a value out of range (R16, R17). -/
theorem answerSetProfile_range {b : List Byte} (h : 7 < byteAt b 0 ∨ profileValues b = none) (s : State) :
    answerSetProfile b s = (s, .bare .range) := by
  unfold answerSetProfile
  split
  · next hq hx =>
    rcases h with h | h
    · rw [profileOf_eq_none h] at hq
      cases hq
    · rw [h] at hx
      cases hx
  · rfl

/-- SET PROFILE with everything in range (R16, R17). -/
theorem answerSetProfile_inRange {b : List Byte} {q : ProfileId} {x : Profile} (hq : byteAt b 0 = q.val)
    (hx : profileValues b = some x) (s : State) :
    answerSetProfile b s = if s.profileUsers q = 0 then (s.setProfile q x, .okWith []) else (s, .bare .busy) := by
  unfold answerSetProfile
  rw [hq, profileOf_val, hx]

/-- Settles O43: the four edits, each by its tests in their order. -/
theorem otherTableEdits : Obligations.OtherTableEdits := by
  unfold Obligations.OtherTableEdits
  intro p s u pinned written
  refine ⟨fun n hn h => answers_deleteCue hn h, fun n b hn h => answers_holdCue hn h, fun h => answers_clearTable h,
    fun b h => ⟨fun hrange => ?_, fun q hq hx => ⟨?_, ?_⟩⟩⟩
  · have hout : 7 < byteAt b 0 ∨ profileValues b = none := hrange.imp id profileValues_of_not
    exact answers_bare (x := .range) h (answerSetProfile_range hout _)
  · rintro ⟨c, hc, hpin, hprofile⟩
    refine answers_bare (x := .busy) h ((answerSetProfile_inRange hq (if_pos hx) _).trans (if_neg fun hz => ?_))
    exact (profileUsers_eq_zero_iff u q).mp hz c hc hpin hprofile
  · intro hfree
    exact answers_ok (fields := []) h
      ((answerSetProfile_inRange hq (if_pos hx) _).trans (if_pos ((profileUsers_eq_zero_iff u q).mpr hfree)))

end Sys2Proof.Machine
end

section
/-! ## The table's reads (O41) -/

namespace Sys2Proof.Machine

set_option Elab.async false

/-! ### Pinned records (R15, R20) -/

theorem isPinned_eq_any (s : State) (n : Nat) : s.isPinned n = allLanes.any fun l => (s.lane l).pinned == some n := by
  rw [Bool.eq_iff_iff]
  unfold State.isPinned State.pinnedBy
  rw [List.find?_isSome, List.any_eq_true]

/-- The record a lane pins is in the table under that lane's number, so that each lane pins at most one (R20, R22). -/
theorem lane_of_pinned {s : State} {l : LaneId} {c : CueRecord} (h : s.cueInv) (hc : c ∈ s.table.records)
    (hpin : (s.lane l).pinned = some c.number) : c.lane = l := by
  obtain ⟨-, -, -, hrec⟩ := (laneInv_iff s l).mp (h.2 l)
  obtain ⟨d, hd, hnum, hlane, -⟩ := hrec c.number hpin
  have hok : CuesOk s.table.records := h.1
  rw [hok.eq_of_number hc hd hnum.symm, hlane]

theorem pinned_of_mem {s : State} {c : CueRecord} (h : s.cueInv) (hc : c ∈ s.pinnedRecords) :
    (s.lane c.lane).pinned = some c.number := by
  obtain ⟨hmem, hpin⟩ := List.mem_filter.mp hc
  obtain ⟨l, hl⟩ := (isPinned_eq_true_iff s c.number).mp hpin
  rw [lane_of_pinned h hmem hl]
  exact hl

/-- At most eight records are pinned: different ones are pinned by different lanes (R15, R20). -/
theorem length_pinnedRecords_le {s : State} (h : s.cueInv) : s.pinnedRecords.length ≤ 8 := by
  have hok : CuesOk s.table.records := h.1
  have hnum : (s.pinnedRecords.map CueRecord.number).Nodup :=
    List.pairwise_map.mpr ((hok.filter _).2.2.1.imp And.left)
  have hlanes : (s.pinnedRecords.map CueRecord.lane).Nodup := by
    refine (List.nodup_map_iff_inj_on hnum.of_map).mpr fun c hc d hd hlane => ?_
    have hc' := pinned_of_mem h hc
    rw [hlane, pinned_of_mem h hd] at hc'
    exact List.inj_on_of_nodup_map hnum hc hd (Option.some.inj hc').symm
  simpa using hlanes.length_le_card

theorem countP_isPinned (s : State) : s.table.records.countP (fun c => s.isPinned c.number) = s.pinnedRecords.length :=
  List.countP_eq_length_filter

theorem profileUsers_eq (s : State) (q : ProfileId) :
    s.profileUsers q = s.table.records.countP fun c => s.isPinned c.number && c.profile == q := by
  unfold State.profileUsers State.pinnedRecords
  rw [List.filter_filter, List.countP_eq_length_filter]
  simp only [Bool.and_comm]

/-! ### READ CUE (R13, 11.5) -/

/-- The fields of READ CUE, written out, with the bytes that stand for the group and for the lane that pins the cue (R13, 11.5). -/
theorem cueAnswer_eq (s : State) (c : CueRecord) {group lane : Byte} (hgroup : encGroup c.group = [group])
    (hlane : encIndex (s.pinnedBy c.number) = [lane]) :
    s.cueAnswer c =
      num2 c.number ++ num1 c.lane.val ++ num1 c.reel ++ num3 c.inFrame ++ num3 c.outFrame ++ num1 c.profile.val ++ [group] ++
        num1 c.character ++ [if c.record = true then 1 else 0] ++ [if c.hold = true then 1 else 0] ++ num1 c.takeLimit ++
        num1 c.slate.length ++ c.slate ++ num1 c.takeCount ++ num1 (c.circled.getD 0) ++
        [if c.hold = true then 1 else if c.takeCount = c.takeLimit then 2 else 0] ++ [lane] ++
        num3 (c.inFrame - max (max ((s.profile c.profile).wipe + (s.lane c.lane).routing.advance)
          ((s.profile c.profile).pips * (s.profile c.profile).spacing + (s.lane c.lane).routing.advance))
          (max (s.profile c.profile).recordLead 1)) ++
        num3 (c.inFrame - (s.profile c.profile).recordLead) ++ num3 (c.inFrame - (s.lane c.lane).routing.advance) ++
        num3 (min (c.outFrame + (s.profile c.profile).tail) 1048575) := by
  unfold State.cueAnswer CueRecord.supplied encText encSmall State.frames framesOf Config.lastFrame
  rw [hgroup, hlane, num1_status, encBool_eq, encBool_eq]
  simp only [List.append_assoc]

theorem answerReadCue_num2 {n : Nat} (hn : n ≤ 65535) (s : State) :
    (n = 0 → answerReadCue (num2 n) s = (s, .bare .range)) ∧
      (n ≠ 0 → s.record n = none → answerReadCue (num2 n) s = (s, .bare .noCue)) ∧
      ∀ c, n ≠ 0 → s.record n = some c → answerReadCue (num2 n) s = (s, .okWith (s.cueAnswer c)) := by
  unfold answerReadCue
  rw [wordAt_num2 hn]
  refine ⟨fun h0 => if_pos h0, fun h0 hr => ?_, fun c h0 hr => ?_⟩ <;> simp only [h0, if_false, hr]

/-! ### NEXT CUE (R14) -/

/-- After a record that is the first of its number comes the rest of the table (R14). -/
theorem nextInOrder_append {n : Nat} {first rest : List CueRecord} {d : CueRecord} (hd : d.number = n)
    (hfirst : ∀ c ∈ first, c.number ≠ n) : nextInOrder n (first ++ d :: rest) = some rest.head? := by
  induction first with
  | nil => simp [nextInOrder, hd]
  | cons c first ih =>
    have hc : c.number ≠ n := hfirst c (by simp)
    simpa [nextInOrder, hc] using ih fun x hx => hfirst x (List.mem_cons_of_mem c hx)

theorem nextInOrder_of_not {n : Nat} {rs : List CueRecord} (h : ∀ c ∈ rs, c.number ≠ n) : nextInOrder n rs = none := by
  induction rs with
  | nil => rfl
  | cons c rs ih =>
    have hc : c.number ≠ n := h c (by simp)
    simpa [nextInOrder, hc] using ih fun x hx => h x (List.mem_cons_of_mem c hx)

/-- NEXT CUE once the start is known: the END marker, or the first of the records that follow (R14, 11.5). -/
theorem answerNextCue_of_after {n : Nat} (hn : n ≤ 65535) {s : State} {rest : List CueRecord}
    (h : s.cueAfter n = some rest.head?) :
    (rest = [] → answerNextCue (num2 n) s = (s, .okWith (num2 s.table.generation.toNat ++ num1 0))) ∧
      ∀ c more, rest = c :: more →
        answerNextCue (num2 n) s = (s, .okWith (num2 s.table.generation.toNat ++ num1 1 ++ s.cueAnswer c)) := by
  unfold answerNextCue
  rw [wordAt_num2 hn, h]
  refine ⟨?_, ?_⟩
  · rintro rfl
    rfl
  · rintro c more rfl
    rfl

theorem answerNextCue_of_none {n : Nat} (hn : n ≤ 65535) {s : State} (h : s.cueAfter n = none) :
    answerNextCue (num2 n) s = (s, .bare .noCue) := by
  unfold answerNextCue
  rw [wordAt_num2 hn, h]

/-- NEXT CUE at its port, once the start is known. -/
theorem answers_nextCue {s : State} {p : PortId} {n : Nat} {rest : List CueRecord} (hn : n ≤ 65535)
    (hs : s.admits p .nextCue (num2 n)) (h : s.cueAfter n = some rest.head?) :
    (rest = [] → Answers .nextCue p (num2 n) s (s.dropItem p) ([0x00] ++ num2 s.table.generation.toNat ++ [0x00])) ∧
      ∀ (c : CueRecord) (more : List CueRecord), rest = c :: more →
        Answers .nextCue p (num2 n) s (s.dropItem p)
          ([0x00] ++ num2 s.table.generation.toNat ++ [0x01] ++ s.cueAnswer c) := by
  obtain ⟨hend, hcue⟩ := answerNextCue_of_after (s := s.dropItem p) hn h
  constructor
  · intro hrest
    exact answers_ok hs (hend hrest)
  · intro c more hrest
    exact answers_ok hs (hcue c more hrest)

/-! ### READ PROFILE (R18) -/

theorem byteAt_ofNat {n : Nat} (h : n < 256) : byteAt [BitVec.ofNat 8 n] 0 = n := by
  show (BitVec.ofNat 8 n).toNat = n
  rw [BitVec.toNat_ofNat]
  omega

theorem answerReadProfile_of {b : List Byte} {q : ProfileId} (h : byteAt b 0 = q.val) (s : State) :
    answerReadProfile b s =
      (s, .okWith (num1 (s.profile q).wipe ++ num1 (s.profile q).pips ++ num1 (s.profile q).spacing ++
        num1 (s.profile q).pipLength ++ num1 (s.profile q).flash ++ num1 (s.profile q).recordLead ++
        num1 (s.profile q).tail ++ num1 (s.profileUsers q))) := by
  unfold answerReadProfile
  rw [h, profileOf_val]

theorem answerReadProfile_range {b : List Byte} (h : 7 < byteAt b 0) (s : State) :
    answerReadProfile b s = (s, .bare .range) := by
  unfold answerReadProfile
  rw [profileOf_eq_none h]

/-- Settles O41: each read answers what its block computes from the state without the item. -/
theorem tableReadsAnswer : Obligations.TableReadsAnswer := by
  unfold Obligations.TableReadsAnswer
  intro p s u isPinned status lane group cue generation
  have hpinned : isPinned = fun c => s.isPinned c.number := funext fun c => (isPinned_eq_any s c.number).symm
  have hcount : s.table.records.countP isPinned = s.pinnedRecords.length := by rw [hpinned, countP_isPinned]
  have hcue : ∀ c, u.cueAnswer c = cue c := by
    intro c
    have hgroup : encGroup c.group = [group c] := by
      dsimp only [group]
      cases c.group <;> rfl
    have hlane : encIndex (s.pinnedBy c.number) = [lane c] := by
      dsimp only [lane]
      unfold State.pinnedBy
      cases allLanes.find? fun l => (s.lane l).pinned == some c.number <;> rfl
    exact cueAnswer_eq u c hgroup hlane
  refine ⟨fun h => ?status, fun hinv => ⟨hinv.1.1, hcount ▸ length_pinnedRecords_le hinv⟩, fun n hn h => ?readCue,
    fun n hn h => ⟨?fromStart, ?fromCue, ?noStart⟩, fun q h => ⟨?profile, ?users⟩, fun b hb h => ?noProfile⟩
  case status =>
    have hok := answers_ok h (rfl : answerTableStatus u = _)
    rw [encBool_eq] at hok
    rw [hcount]
    simp only [List.append_assoc] at hok ⊢
    exact hok
  case readCue =>
    obtain ⟨hrange, hnone, hfound⟩ := answerReadCue_num2 hn u
    refine ⟨fun h0 => answers_bare (x := .range) h (hrange h0), fun h0 hr => answers_bare (x := .noCue) h (hnone h0 hr),
      fun c h0 hr => ?_⟩
    rw [← hcue]
    exact answers_ok h (hfound c h0 hr)
  case fromStart =>
    intro h0
    have hnext := answers_nextCue (rest := s.table.records) hn h (by rw [State.cueAfter, if_pos h0])
    exact ⟨hnext.1, fun c more hrest => hcue c ▸ hnext.2 c more hrest⟩
  case fromCue =>
    intro first rest d h0 hrecords hd hfirst
    have hafter : s.cueAfter n = some rest.head? := by
      rw [State.cueAfter, if_neg h0, hrecords, nextInOrder_append hd hfirst]
    have hnext := answers_nextCue hn h hafter
    exact ⟨hnext.1, fun c more hrest => hcue c ▸ hnext.2 c more hrest⟩
  case noStart =>
    intro h0 hnone
    have hafter : u.cueAfter n = none := by
      rw [State.cueAfter, if_neg h0]
      exact nextInOrder_of_not hnone
    exact answers_bare (x := .noCue) h (answerNextCue_of_none hn hafter)
  case profile =>
    have husers : u.profileUsers q = s.table.records.countP fun c => isPinned c && c.profile == q := by
      rw [hpinned]
      exact profileUsers_eq u q
    have hbyte := byteAt_ofNat (n := q.val) (by omega)
    have hok := answers_ok h (answerReadProfile_of hbyte u)
    rw [husers] at hok
    simp only [List.append_assoc] at hok ⊢
    exact hok
  case users =>
    intro hinv
    refine le_trans (List.countP_mono_left fun c _ hc => ?_) (hcount ▸ length_pinnedRecords_le hinv)
    exact (Bool.and_eq_true_iff.mp hc).1
  case noProfile =>
    exact answers_bare (x := .range) h (answerReadProfile_range (b := [b]) hb u)

end Sys2Proof.Machine
end

section
/-! ## INSERT CUE and AMEND CUE (O42) -/

namespace Sys2Proof.Machine

set_option Elab.async false

/-! ### The place of a record (R2) -/

/-- Among records in table order, of other numbers, a record stands behind the earlier ones and before the later ones (R2). -/
theorem placeCue_between {c : CueRecord} {rs before after : List CueRecord} (hrs : rs = before ++ after)
    (hbefore : ∀ y ∈ before, ¬cueBefore c y = true) (hafter : ∀ y ∈ after.head?, cueBefore c y = true)
    (horder : rs.Pairwise fun a b => cueBefore a b = true) (hnew : ∀ y ∈ rs, y.number ≠ c.number) :
    (∀ y ∈ before, cueBefore y c = true) ∧ ∀ y ∈ after, cueBefore c y = true := by
  subst hrs
  constructor
  · intro y hy
    exact cueBefore_of_not (hnew y (List.mem_append_left _ hy)).symm (hbefore y hy)
  · cases after with
    | nil => simp
    | cons x xs =>
      have hx : cueBefore c x = true := hafter x rfl
      obtain ⟨-, hpair, -⟩ := List.pairwise_append.mp horder
      intro y hy
      rcases List.mem_cons.mp hy with rfl | hy
      · exact hx
      · exact cueBefore_trans hx ((List.pairwise_cons.mp hpair).1 y hy)

/-! ### Bytes and numbers (R187) -/

theorem ofNat_eq_of_mod {x : Byte} {n : Nat} (h : n % 256 = x.toNat) : BitVec.ofNat 8 n = x :=
  BitVec.eq_of_toNat_eq ((BitVec.toNat_ofNat n 8).trans h)

/-- What is left of a body from a place on begins with the byte there. -/
theorem drop_eq_num1 {b : List Byte} {i : Nat} (h : i < b.length) : b.drop i = num1 (byteAt b i) ++ b.drop (i + 1) := by
  have hx := (b.getD i 0).isLt
  have hbyte : BitVec.ofNat 8 (byteAt b i) = b.getD i 0 := ofNat_eq_of_mod (Nat.mod_eq_of_lt hx)
  unfold num1
  rw [hbyte, List.getD_eq_getElem _ _ h]
  exact List.drop_eq_getElem_cons h

/-- A number of two bytes is its bytes, high byte first. -/
theorem num2_wordAt (b : List Byte) (i : Nat) : num2 (wordAt b i) = num1 (byteAt b i) ++ num1 (byteAt b (i + 1)) := by
  have hy := byteAt_lt b (i + 1)
  have hhigh : wordAt b i / 256 = byteAt b i := by unfold wordAt; omega
  have hmod : wordAt b i % 256 = byteAt b (i + 1) := by unfold wordAt; omega
  have hlow : BitVec.ofNat 8 (wordAt b i) = b.getD (i + 1) 0 := ofNat_eq_of_mod hmod
  have hlow' : BitVec.ofNat 8 (byteAt b (i + 1)) = b.getD (i + 1) 0 := ofNat_eq_of_mod (Nat.mod_eq_of_lt hy)
  unfold num2 num1
  rw [hhigh, hlow, hlow']
  rfl

/-- A number of three bytes is its bytes, high byte first. -/
theorem num3_frameAt (b : List Byte) (i : Nat) :
    num3 (frameAt b i) = num1 (byteAt b i) ++ num2 (wordAt b (i + 1)) := by
  have hy := byteAt_lt b (i + 1)
  have hz := byteAt_lt b (i + 2)
  have hword : wordAt b (i + 1) = 256 * byteAt b (i + 1) + byteAt b (i + 2) := rfl
  have hhigh : frameAt b i / 65536 = byteAt b i := by unfold frameAt; omega
  have hmid : BitVec.ofNat 8 (frameAt b i / 256) = BitVec.ofNat 8 (wordAt b (i + 1) / 256) :=
    BitVec.eq_of_toNat_eq (by rw [BitVec.toNat_ofNat, BitVec.toNat_ofNat, hword]; unfold frameAt; omega)
  have hlow : BitVec.ofNat 8 (frameAt b i) = BitVec.ofNat 8 (wordAt b (i + 1)) :=
    BitVec.eq_of_toNat_eq (by rw [BitVec.toNat_ofNat, BitVec.toNat_ofNat, hword]; unfold frameAt; omega)
  unfold num3 num2 num1
  rw [hhigh, hmid, hlow]
  rfl

theorem drop_eq_num2 {b : List Byte} {i : Nat} (h : i + 1 < b.length) : b.drop i = num2 (wordAt b i) ++ b.drop (i + 2) := by
  rw [drop_eq_num1 (Nat.lt_of_succ_lt h), drop_eq_num1 h, num2_wordAt, List.append_assoc]

theorem drop_eq_num3 {b : List Byte} {i : Nat} (h : i + 2 < b.length) : b.drop i = num3 (frameAt b i) ++ b.drop (i + 3) := by
  rw [drop_eq_num1 (i := i) (by omega), drop_eq_num2 (i := i + 1) h, num3_frameAt, List.append_assoc]

/-- A body of at least 17 bytes is the bytes of its fields and the rest (11.5). -/
theorem eq_fields_append {b : List Byte} (h : 17 ≤ b.length) :
    b = num2 (wordAt b 0) ++ (num1 (byteAt b 2) ++ (num1 (byteAt b 3) ++ (num3 (frameAt b 4) ++ (num3 (frameAt b 7) ++
      (num1 (byteAt b 10) ++ (num1 (byteAt b 11) ++ (num1 (byteAt b 12) ++ (num1 (byteAt b 13) ++ (num1 (byteAt b 14) ++
        (num1 (byteAt b 15) ++ (num1 (byteAt b 16) ++ b.drop 17))))))))))) := by
  rw [← drop_eq_num1 (i := 16) (by omega), ← drop_eq_num1 (i := 15) (by omega), ← drop_eq_num1 (i := 14) (by omega),
    ← drop_eq_num1 (i := 13) (by omega), ← drop_eq_num1 (i := 12) (by omega), ← drop_eq_num1 (i := 11) (by omega),
    ← drop_eq_num1 (i := 10) (by omega), ← drop_eq_num3 (i := 7) (by omega), ← drop_eq_num3 (i := 4) (by omega),
    ← drop_eq_num1 (i := 3) (by omega), ← drop_eq_num1 (i := 2) (by omega), ← drop_eq_num2 (i := 0) (by omega),
    List.drop_zero]

/-! ### The fields of a cue (R1, R5, 11.5) -/

/-- A record in range (R1, R5). -/
def CueRecord.InRange (c : CueRecord) : Prop :=
  1 ≤ c.number ∧ c.number ≤ 65535 ∧ 1 ≤ c.reel ∧ c.reel ≤ 99 ∧ c.inFrame ≤ 1048575 ∧ c.inFrame < c.outFrame ∧
    c.outFrame ≤ c.inFrame + 14400 ∧ c.outFrame ≤ 1048575 ∧ c.character ≤ 255 ∧ 1 ≤ c.takeLimit ∧ c.takeLimit ≤ 99 ∧
    c.slate.length ≤ 24 ∧ ∀ b ∈ c.slate, 0x20 ≤ b.toNat ∧ b.toNat ≤ 0x7E

/-- The fields that a record's own body carries. -/
def CueRecord.fields (c : CueRecord) : CueFields where
  number := c.number
  lane := c.lane.val
  reel := c.reel
  inFrame := c.inFrame
  outFrame := c.outFrame
  profile := c.profile.val
  group := (c.group.map groupNumber).getD 0
  character := c.character
  record := c.record.toNat
  hold := c.hold.toNat
  takeLimit := c.takeLimit
  slate := c.slate

theorem laneOf_eq_some_iff {n : Nat} {l : LaneId} : laneOf n = some l ↔ n = l.val := by
  unfold laneOf
  constructor
  · intro h
    split at h
    · rw [← Option.some.inj h]
    · cases h
  · rintro rfl
    exact dif_pos l.isLt

theorem profileOf_eq_some_iff {n : Nat} {q : ProfileId} : profileOf n = some q ↔ n = q.val := laneOf_eq_some_iff

theorem boolOf_eq_some_iff {n : Nat} {v : Bool} : boolOf n = some v ↔ n = v.toNat := by
  constructor
  · intro h
    unfold boolOf at h
    split at h <;> cases h <;> rfl
  · rintro rfl
    cases v <;> rfl

theorem groupOf_eq_iff {n : Nat} (h : n ≤ 16) {x : Option GroupId} : groupOf n = x ↔ n = (x.map groupNumber).getD 0 := by
  unfold groupOf
  constructor
  · rintro rfl
    split
    · next h' => exact (Nat.sub_add_cancel h'.1).symm
    · next h' => exact Nat.lt_one_iff.mp (not_le.mp fun h1 => h' ⟨h1, h⟩)
  · rintro rfl
    cases x with
    | none => rfl
    | some g => exact dif_pos ⟨Nat.succ_pos g.val, h⟩

theorem encBool_eq_num1 (v : Bool) : encBool v = num1 v.toNat := by cases v <;> rfl

theorem encGroup_eq_num1 (x : Option GroupId) : encGroup x = num1 ((x.map groupNumber).getD 0) := by cases x <;> rfl

/-- The field check accepts the fields of the records in range, and of those alone (R5). -/
theorem cueOf_eq_some_iff {f : CueFields} {count : Nat} {circled : Option Nat} {c : CueRecord} :
    cueOf f count circled = some c ↔ c.InRange ∧ f = c.fields ∧ c.takeCount = count ∧ c.circled = circled := by
  constructor
  · intro h
    obtain ⟨number, lane, reel, inFrame, outFrame, profile, group, character, record, hold, takeLimit, slate⟩ := f
    unfold cueOf at h
    split at h
    · next hrange =>
      obtain ⟨hn, hn', hr, hr', hin, hio, hlen, hout, hgroup, hch, ht, ht', hs, hprint⟩ := hrange
      split at h
      · next l q r v hl hq hrec hhold =>
        cases h
        refine ⟨⟨hn, hn', hr, hr', hin, hio, hlen, hout, hch, ht, ht', hs, ?_⟩, ?_, rfl, rfl⟩
        · simpa [isPrintable] using hprint
        · rw [laneOf_eq_some_iff] at hl
          rw [profileOf_eq_some_iff] at hq
          rw [boolOf_eq_some_iff] at hrec hhold
          dsimp only at hl hq hrec hhold hgroup
          unfold CueRecord.fields
          rw [← hl, ← hq, ← hrec, ← hhold, ← (groupOf_eq_iff hgroup).mp rfl]
      · cases h
    · cases h
  · rintro ⟨⟨hn, hn', hr, hr', hin, hio, hlen, hout, hch, ht, ht', hs, hprint⟩, rfl, rfl, rfl⟩
    have hgroup : (c.group.map groupNumber).getD 0 ≤ 16 := by
      cases c.group with
      | none => exact Nat.zero_le _
      | some g => exact g.isLt
    have hall : c.slate.all isPrintable = true := by simpa [isPrintable] using hprint
    unfold cueOf
    rw [if_pos ⟨hn, hn', hr, hr', hin, hio, hlen, hout, hgroup, hch, ht, ht', hs, hall⟩]
    simp only [CueRecord.fields, laneOf_eq_some_iff.mpr rfl, profileOf_eq_some_iff.mpr rfl, boolOf_eq_some_iff.mpr rfl,
      (groupOf_eq_iff hgroup).mpr rfl]

/-- A body that carries a record's fields, and has the length its text length byte gives, is the record's own (11.5). -/
theorem eq_supplied_of_fields {b : List Byte} {c : CueRecord} (hlen : b.length = 17 + byteAt b 16)
    (h : cueFields b = c.fields) : b = c.supplied := by
  injection h with hnumber hlane hreel hin hout hprofile hgroup hcharacter hrecord hhold hlimit hslate
  have htext : byteAt b 16 = c.slate.length := by
    rw [← hslate, List.length_drop]
    omega
  rw [eq_fields_append (b := b) (by omega)]
  unfold CueRecord.supplied encText
  rw [hnumber, hlane, hreel, hin, hout, hprofile, hgroup, hcharacter, hrecord, hhold, hlimit, hslate, htext,
    encGroup_eq_num1, encBool_eq_num1, encBool_eq_num1]
  simp only [List.append_assoc]

/-- A record in range is read back from its own body: each of its numbers fits the bytes it is written in (11.5). -/
theorem cueFields_supplied {c : CueRecord} (h : c.InRange) : cueFields c.supplied = c.fields := by
  obtain ⟨-, hnumber, -, hreel, hin, -, -, hout, hcharacter, -, hlimit, -, -⟩ := h
  have hlane := c.lane.isLt
  have hprofile := c.profile.isLt
  have hgroup : (c.group.map groupNumber).getD 0 ≤ 16 := by
    cases c.group with
    | none => exact Nat.zero_le _
    | some g => exact g.isLt
  have hrecord := Bool.toNat_le c.record
  have hhold := Bool.toNat_le c.hold
  unfold CueRecord.supplied encText cueFields CueRecord.fields
  rw [encGroup_eq_num1, encBool_eq_num1, encBool_eq_num1]
  refine CueFields.mk.injEq .. |>.mpr ?_
  refine ⟨?_, ?_, ?_, ?_, ?_, ?_, ?_, ?_, ?_, ?_, ?_, ?_⟩ <;> simp [num1, num2, num3, wordAt, frameAt] <;> omega

/-- The check reads a body of fitting length exactly when it is the own body of a record in range (R5, 11.5). -/
theorem cueOf_cueFields_eq_some_iff {b : List Byte} {c : CueRecord} (hlen : b.length = 17 + byteAt b 16) :
    cueOf (cueFields b) 0 none = some c ↔ c.InRange ∧ b = c.supplied ∧ c.takeCount = 0 ∧ c.circled = none := by
  rw [cueOf_eq_some_iff]
  refine and_congr_right fun hrange => and_congr_left' ⟨eq_supplied_of_fields hlen, ?_⟩
  rintro rfl
  exact cueFields_supplied hrange

/-- What the check reads from a record's own body: the record, with no takes counted and none circled (R5). -/
theorem cueOf_supplied {b : List Byte} {c : CueRecord} (hlen : b.length = 17 + byteAt b 16)
    (h : c.InRange ∧ b = c.supplied) :
    cueOf (cueFields b) 0 none = some { c with takeCount := 0, circled := none } :=
  (cueOf_cueFields_eq_some_iff hlen).mpr ⟨h.1, h.2, rfl, rfl⟩

/-- A body that no record in range spells is refused by the check (R5). -/
theorem cueOf_eq_none {b : List Byte} (hlen : b.length = 17 + byteAt b 16)
    (h : ∀ c : CueRecord, ¬(c.InRange ∧ b = c.supplied)) : cueOf (cueFields b) 0 none = none := by
  refine Option.eq_none_iff_forall_not_mem.mpr fun c hc => ?_
  obtain ⟨hrange, hb, -⟩ := (cueOf_cueFields_eq_some_iff hlen).mp hc
  exact h c ⟨hrange, hb⟩

/-! ### The tests in their order (R7, R8) -/

section
variable {s : State} {p : PortId} {body : List Byte} {c : CueRecord}

/-- Another record of the lane and reel shares a frame with the window (R6). -/
def State.Overlap (s : State) (c : CueRecord) : Prop :=
  ∃ r ∈ s.table.records, r.number ≠ c.number ∧ r.lane = c.lane ∧ r.reel = c.reel ∧ c.inFrame ≤ r.outFrame ∧
    r.inFrame ≤ c.outFrame

theorem overlaps_iff_overlap {d : CueRecord} (hnumber : d.number = c.number) (hlane : d.lane = c.lane) (hreel : d.reel = c.reel)
    (hin : d.inFrame = c.inFrame) (hout : d.outFrame = c.outFrame) : overlaps d s.table.records = true ↔ s.Overlap c := by
  rw [overlaps_iff, hnumber, hlane, hreel, hin, hout]
  exact Iff.rfl

theorem answerInsert_eq_range (h : cueOf (cueFields body) 0 none = none) (s : State) :
    answerInsert body s = (s, .bare .range) := by
  unfold answerInsert
  rw [h]

theorem answerAmend_eq_range (h : cueOf (cueFields body) 0 none = none) (s : State) :
    answerAmend body s = (s, .bare .range) := by
  unfold answerAmend
  rw [h]

/-- INSERT CUE of a record in range, test by test (R7). -/
theorem answerInsert_of_cueOf (h : cueOf (cueFields body) 0 none = some c) (s : State) :
    answerInsert body s =
      if (s.record c.number).isSome then (s, .bare .duplicate)
      else if Config.tableCapacity ≤ s.table.records.length then (s, .bare .tableFull)
      else if overlaps c s.table.records then (s, .bare .laneOverlap)
      else (edited (placeCue c s.table.records) s, .okWith (num2 (s.table.records.length + 1))) := by
  unfold answerInsert
  rw [h]

theorem answerAmend_noCue (h : cueOf (cueFields body) 0 none = some c) (hr : s.record c.number = none) :
    answerAmend body s = (s, .bare .noCue) := by
  unfold answerAmend
  simp only [h, hr]

theorem answerAmend_found {old : CueRecord} (h : cueOf (cueFields body) 0 none = some c) (hr : s.record c.number = some old) :
    answerAmend body s = amendFound old c s := by
  unfold answerAmend
  simp only [h, hr]

/-- INSERT CUE at its port, for a body that spells a record in range (R7). -/
theorem answers_insertCue (h : s.admits p .insertCue body)
    (hcue : cueOf (cueFields body) 0 none = some { c with takeCount := 0, circled := none }) :
    (s.record c.number ≠ none → Answers .insertCue p body s (s.dropItem p) [0x08]) ∧
      (s.record c.number = none → 512 ≤ s.table.records.length → Answers .insertCue p body s (s.dropItem p) [0x09]) ∧
      (s.record c.number = none → s.table.records.length < 512 → s.Overlap c →
        Answers .insertCue p body s (s.dropItem p) [0x0A]) ∧
      (s.record c.number = none → s.table.records.length < 512 → ¬s.Overlap c →
        Answers .insertCue p body s
          (edited (placeCue { c with takeCount := 0, circled := none } s.table.records) (s.dropItem p))
          ([0x00] ++ num2 (s.table.records.length + 1))) := by
  have hblock := answerInsert_of_cueOf hcue (s.dropItem p)
  have hlap := overlaps_iff_overlap (s := s) (c := c) (d := { c with takeCount := 0, circled := none }) rfl rfl rfl rfl rfl
  have hfree (hr : s.record c.number = none) : ¬(s.record c.number).isSome = true := by simp [hr]
  refine ⟨fun hr => ?_, fun hr hfull => ?_, fun hr hroom hover => ?_, fun hr hroom hover => ?_⟩
  · have hdup : (s.record c.number).isSome = true := Option.isSome_iff_ne_none.mpr hr
    exact answers_bare (x := .duplicate) h (hblock.trans (if_pos hdup))
  · exact answers_bare (x := .tableFull) h (hblock.trans ((if_neg (hfree hr)).trans (if_pos hfull)))
  · have hcapacity : ¬Config.tableCapacity ≤ s.table.records.length := Nat.not_le_of_lt hroom
    exact answers_bare (x := .laneOverlap) h
      (hblock.trans ((if_neg (hfree hr)).trans ((if_neg hcapacity).trans (if_pos (hlap.mpr hover)))))
  · have hcapacity : ¬Config.tableCapacity ≤ s.table.records.length := Nat.not_le_of_lt hroom
    exact answers_ok h
      (hblock.trans ((if_neg (hfree hr)).trans ((if_neg hcapacity).trans (if_neg (mt hlap.mp hover)))))

/-- AMEND CUE of a record that the table lacks (R8). -/
theorem answers_amendCue_noCue (h : s.admits p .amendCue body)
    (hcue : cueOf (cueFields body) 0 none = some { c with takeCount := 0, circled := none }) (hr : s.record c.number = none) :
    Answers .amendCue p body s (s.dropItem p) [0x07] :=
  answers_bare (x := .noCue) h (answerAmend_noCue hcue hr)

/-- AMEND CUE at its port, for a body that spells a record in range whose number the table holds (R8). -/
theorem answers_amendCue_found {r : CueRecord} (h : s.admits p .amendCue body)
    (hcue : cueOf (cueFields body) 0 none = some { c with takeCount := 0, circled := none })
    (hr : s.record c.number = some r) :
    ((∃ l : LaneId, (s.lane l).pinned = some c.number) → Answers .amendCue p body s (s.dropItem p) [0x0B]) ∧
      ((¬∃ l : LaneId, (s.lane l).pinned = some c.number) → c.takeLimit < r.takeCount →
        Answers .amendCue p body s (s.dropItem p) [0x06]) ∧
      ((¬∃ l : LaneId, (s.lane l).pinned = some c.number) → r.takeCount ≤ c.takeLimit → s.Overlap c →
        Answers .amendCue p body s (s.dropItem p) [0x0A]) ∧
      ((¬∃ l : LaneId, (s.lane l).pinned = some c.number) → r.takeCount ≤ c.takeLimit → ¬s.Overlap c →
        Answers .amendCue p body s
          (edited (placeCue { c with takeCount := r.takeCount, circled := r.circled }
            (s.table.records.filter fun y => y.number != c.number)) (s.dropItem p))
          [0x00]) := by
  obtain ⟨-, hnumber⟩ := mem_of_record hr
  have hblock := answerAmend_found (s := s.dropItem p) hcue hr
  unfold amendFound at hblock
  have hlap := overlaps_iff_overlap (s := s) (c := c) (d := { c with takeCount := 0, circled := none }) rfl rfl rfl rfl rfl
  simp only [dropItem_isPinned, dropItem_table, hnumber] at hblock
  simp only [← isPinned_eq_true_iff]
  refine ⟨fun hpin => ?_, fun hpin hcount => ?_, fun hpin hcount hover => ?_, fun hpin hcount hover => ?_⟩
  · rw [if_pos hpin] at hblock
    exact answers_bare (x := .pinned) h hblock
  · rw [if_neg hpin, if_pos hcount] at hblock
    exact answers_bare (x := .range) h hblock
  · rw [if_neg hpin, if_neg (Nat.not_lt_of_le hcount), if_pos (hlap.mpr hover)] at hblock
    exact answers_bare (x := .laneOverlap) h hblock
  · rw [if_neg hpin, if_neg (Nat.not_lt_of_le hcount), if_neg (mt hlap.mp hover)] at hblock
    exact answers_ok (fields := []) h hblock

/-- A body that INSERT CUE or AMEND CUE admits has the length its text length byte gives (11.5). -/
theorem length_of_admits_insertCue (h : s.admits p .insertCue body) : body.length = 17 + byteAt body 16 := by
  obtain ⟨-, hlen, -⟩ := h
  exact beq_iff_eq.mp hlen

theorem length_of_admits_amendCue (h : s.admits p .amendCue body) : body.length = 17 + byteAt body 16 := by
  obtain ⟨-, hlen, -⟩ := h
  exact beq_iff_eq.mp hlen

end

/-- A placed record stands at its place in table order (R2). -/
theorem placeCue_ordered (c : CueRecord) (rs : List CueRecord) :
    ∃ before after : List CueRecord, rs = before ++ after ∧ placeCue c rs = before ++ c :: after ∧
      (rs.Pairwise (fun a b => cueBefore a b = true) → (∀ y ∈ rs, y.number ≠ c.number) →
        (∀ y ∈ before, cueBefore y c = true) ∧ ∀ y ∈ after, cueBefore c y = true) := by
  obtain ⟨before, after, hrs, hplace, hbefore, hafter⟩ := placeCue_split c rs
  exact ⟨before, after, hrs, hplace, placeCue_between hrs hbefore hafter⟩

/-- Settles O42: the place of a record, and the two edits by their tests in their order. -/
theorem insertAndAmendCue : Obligations.InsertAndAmendCue := by
  unfold Obligations.InsertAndAmendCue
  refine ⟨fun c rs => ?_, fun p body s => ?_⟩
  · have hplace := placeCue_ordered c rs
    simp only [cueBefore_iff] at hplace
    exact hplace
  · intro u inRange spells overlap written
    refine ⟨fun h => ?_, fun h => ?_⟩
    · have hlen := length_of_admits_insertCue h
      refine ⟨fun hnone => ?_, fun c hc => ?_⟩
      · exact answers_bare (x := .range) h (answerInsert_eq_range (cueOf_eq_none hlen hnone) u)
      · exact answers_insertCue h (cueOf_supplied hlen hc)
    · have hlen := length_of_admits_amendCue h
      refine ⟨fun hnone => ?_, fun c hc => ⟨fun hr => ?_, fun r hr => ?_⟩⟩
      · exact answers_bare (x := .range) h (answerAmend_eq_range (cueOf_eq_none hlen hnone) u)
      · exact answers_amendCue_noCue h (cueOf_supplied hlen hc) hr
      · exact answers_amendCue_found h (cueOf_supplied hlen hc) hr

end Sys2Proof.Machine
end

section
/-! ## What a block can do to the ports

Outside the ports' own commands a block reaches a port by posting alone: an ordinary notice, a punch or transport notice, or the
removal of a PUNCH IN that has not been sent. `Posts s t` says that `t` comes from `s` by posting and by changes that leave the
ports alone; a fact about the ports that these keep is proved by induction on it, once for all blocks. -/

namespace Sys2Proof.Machine

set_option Elab.async false

/-- `t` comes from `s` by posting notices and by changes that leave the ports alone (R118, R122, R137, R181). -/
inductive Posts : State → State → Prop
  | same {s t : State} (h : t.ports = s.ports) : Posts s t
  | notice (pick : PortId → Port → Bool) (n : Notice) (s : State) : Posts s (postWhere pick n s)
  | punch (p : PortId) (n : PriorityNotice) (s : State) : Posts s (postPunch p n s)
  | transport (p : PortId) (n : PriorityNotice) (s : State) : Posts s (postTransport p n s)
  | cancel (l : LaneId) (p : PortId) (s : State) : Posts s (pairCancel l p s)
  | trans {s t u : State} (h : Posts s t) (h' : Posts t u) : Posts s u

theorem Posts.refl (s : State) : Posts s s := .same rfl

/-- An operation that leaves the ports. -/
theorem Posts.of_touches {xs : List Part} {s t : State} (h : TouchesOnly xs s t) (hp : Part.ports ∉ xs := by decide) :
    Posts s t := .same (h .ports hp)

theorem Posts.ite {c : Prop} [Decidable c] {s t u : State} (ht : Posts s t) (hu : Posts s u) :
    Posts s (if c then t else u) := by
  split
  · exact ht
  · exact hu

theorem Posts.foldl {α : Type} {f : State → α → State} (h : ∀ s x, Posts s (f s x)) :
    ∀ (xs : List α) (s : State), Posts s (xs.foldl f s)
  | [], s => .refl s
  | x :: xs, s => (h s x).trans (Posts.foldl h xs (f s x))

/-! ### What posting leaves of a port -/

/-- A port without what posting changes: its two queues of notices and the two counts of lost ones. -/
def Port.unposted (x : Port) : Port := { x with priority := [], ordinary := [], lostSinceFetch := 0, noticesLost := 0 }

theorem Port.unposted_enqueue (x : Port) (n : Notice) : (x.enqueue n).unposted = x.unposted := by
  unfold Port.enqueue
  split <;> rfl

theorem unposted_setPriority (s : State) (p q : PortId) (xs : List PriorityNotice) :
    ((s.setPort p { s.port p with priority := xs }).port q).unposted = (s.port q).unposted := by
  rw [State.port_setPort]
  split
  · next h => rw [← h]; rfl
  · rfl

/-- Posting leaves all of a port but its queues of notices and the counts of lost ones. -/
theorem Posts.unposted {s t : State} (h : Posts s t) (p : PortId) : (t.port p).unposted = (s.port p).unposted := by
  induction h with
  | same h => rw [State.port, h]; rfl
  | notice pick n s =>
    rw [postWhere, State.port_mapPorts]
    split
    · exact Port.unposted_enqueue _ n
    · rfl
  | punch q n s =>
    unfold postPunch
    split
    · exact unposted_setPriority s q p _
    · rfl
  | transport q n s =>
    unfold postTransport
    split
    · exact unposted_setPriority s q p _
    · rfl
  | cancel l q s => exact unposted_setPriority s q p _
  | trans _ _ ih ih' => rw [ih', ih]

theorem Posts.attached {s t : State} (h : Posts s t) (p : PortId) : (t.port p).attached = (s.port p).attached :=
  (congrArg Port.attached (h.unposted p) :)

theorem Posts.roles {s t : State} (h : Posts s t) (p : PortId) : (t.port p).roles = (s.port p).roles :=
  (congrArg Port.roles (h.unposted p) :)

theorem posts_post (c : NoticeClass) (n : Notice) (s : State) : Posts s (post c n s) := .notice _ n s

theorem posts_postGrantExcept (q : PortId) (n : Notice) (s : State) : Posts s (postGrantExcept q n s) := .notice _ n s

/-! ### The grant passed on (R28, R30, R34) -/

theorem posts_passGrant (s : State) : Posts s (passGrant s) := by
  unfold passGrant
  split
  · exact .refl s
  · exact (Posts.of_touches ((touches_grant s _).trans (touches_grant _ _))).trans (.notice _ _ _)

/-! ### The take journal (R150 to R156) -/

theorem posts_evictCircled (e : JournalEntry) (rest : List JournalEntry) (s : State) : Posts s (evictCircled e rest s) := by
  unfold evictCircled
  refine ((Posts.of_touches (touches_setEntries s rest)).trans ?_).trans (posts_post _ _ _)
  exact .ite (.of_touches (touches_setRecords _ _)) (.refl _)

theorem posts_journalWrite (e : JournalEntry) (s : State) : Posts s (journalWrite e s).1 := by
  have hroom : Posts s (makeRoom s) := by
    unfold makeRoom
    refine .ite (.refl s) (.ite (.of_touches (touches_setEntries s _)) ?_)
    split
    · exact .refl s
    · exact posts_evictCircled _ _ s
  have happend : ∀ n, Posts s (appendEntry n e (makeRoom s)) := fun n =>
    hroom.trans (.ite ((Posts.of_touches (touches_journal _ _)).trans (posts_post _ _ _)) (.of_touches (touches_journal _ _)))
  unfold journalWrite
  split
  · exact .refl s
  · split
    · exact .refl s
    · exact happend _

theorem posts_circle (e : JournalEntry) (x : CircleSource) (s : State) : Posts s (circle e x s) :=
  (Posts.of_touches ((touches_setEntries s _).andThen (touches_setRecords _ _) (zs := [.table, .journal]))).trans (posts_post _ _ _)

theorem posts_uncircle (e : JournalEntry) (x : CircleSource) (s : State) : Posts s (uncircle e x s) :=
  (Posts.of_touches ((touches_setEntries s _).andThen (touches_setRecords _ _) (zs := [.table, .journal]))).trans (posts_post _ _ _)

theorem posts_circleLast (l : LaneId) (i : LineId) (s : State) : Posts s (circleLast l i s) := by
  unfold circleLast
  split
  · exact .refl s
  · exact posts_circle _ _ s

/-! ### The Loop Controller (R136 to R148) -/

theorem posts_loopChange (g : GroupId) (m : LoopMode) (c : LoopCause) (s : State) : Posts s (loopChange g m c s) :=
  (Posts.of_touches ((touches_setGroup s g _).trans (touches_loop _ _))).trans (posts_post _ _ _)

theorem posts_postToTransport (g : GroupId) (n : PriorityNotice) (s : State) : Posts s (postToTransport g n s) := by
  unfold postToTransport
  split
  · exact .refl s
  · exact .transport _ n s

theorem posts_loopHalt (g : GroupId) (m : LoopMode) (c : LoopCause) (s : State) : Posts s (loopHalt g m c s) :=
  (posts_postToTransport g _ s).trans (posts_loopChange g m c _)

theorem posts_loopLocate (g : GroupId) (c : LoopCause) (sp : LoopSpan) (s : State) : Posts s (loopLocate g c sp s) :=
  (Posts.of_touches (touches_setGroup s g _)).trans
    ((posts_postToTransport g _ _).trans ((Posts.of_touches (touches_loop _ _)).trans (posts_post _ _ _)))

theorem posts_passEnd (g : GroupId) (s : State) : Posts s (passEnd g s) := by
  unfold passEnd
  dsimp only
  generalize ht : s.setGroup g _ = t
  have hst : Posts s t := ht ▸ .of_touches (touches_setGroup s g _)
  refine hst.trans (.ite (posts_loopHalt g _ _ _) ?_)
  split
  · exact posts_loopHalt g _ _ _
  · exact .ite (posts_loopLocate g _ _ _) (posts_loopHalt g _ _ _)

theorem posts_afterRelease (n : Nat) (s : State) : Posts s (afterRelease n s) := by
  unfold afterRelease
  split
  · exact .refl s
  · exact .ite (posts_passEnd _ s) (.refl s)

theorem posts_loopTakeLock (q : Position) (s : State) : Posts s (loopTakeLock q s) := by
  unfold loopTakeLock
  split
  · exact .refl s
  · exact .ite (posts_loopChange _ _ _ s) (.refl s)

theorem posts_loopTakeAdvance (a : Advance) (s : State) : Posts s (loopTakeAdvance a s) := by
  have hframe : ∀ t, Posts t (loopTakeFrame a.frame t) := fun t => by
    unfold loopTakeFrame
    split
    · exact .refl t
    · exact .ite (.ite (posts_loopChange _ _ _ t) (posts_passEnd _ t)) (.refl t)
  unfold loopTakeAdvance
  refine Posts.trans ?_ (hframe _)
  split
  · exact .refl s
  · exact posts_loopTakeLock _ s

theorem posts_loopTakeLost (s : State) : Posts s (loopTakeLost s) := by
  unfold loopTakeLost
  split
  · exact .refl s
  · split
    · exact posts_loopHalt _ _ _ s
    · exact posts_passEnd _ s
    all_goals exact .refl s

theorem posts_loopStopActive (c : LoopCause) (s : State) : Posts s (loopStopActive c s) := by
  unfold loopStopActive
  split
  · exact .refl s
  · exact posts_loopHalt _ _ _ s

theorem posts_loopDetach (p : PortId) (s : State) : Posts s (loopDetach p s) := by
  unfold loopDetach
  split
  · exact .refl s
  · exact .ite (posts_loopChange _ _ _ s) (.refl s)

theorem posts_locateExpiry (s : State) : Posts s (locateExpiry s) := by
  unfold locateExpiry
  split
  · exact .refl s
  · exact .ite (posts_loopHalt _ _ _ s) (.refl s)

theorem posts_startLoop (o : LoopOrder) (s : State) : Posts s (startLoop o s).1 := by
  unfold startLoop
  split
  · exact .refl s
  · split
    · exact .refl s
    · split
      · exact .refl s
      · split
        · exact (Posts.of_touches (touches_setGroup s _ _)).trans (posts_loopLocate _ _ _ _)
        · exact .refl s

/-! ### The Punch Unit (R117, R120, R125) -/

theorem posts_punchDecision (l : LaneId) (c : CycleRecord) (s : State) : Posts s (punchDecision l c s) := by
  unfold punchDecision
  dsimp only
  generalize ht : s.setPunch l _ = t
  have hst : Posts s t := ht ▸ .of_touches (touches_setPunch s l _)
  refine hst.trans ?_
  split
  · exact .punch _ _ _
  all_goals exact .refl _

theorem posts_punchEnd (l : LaneId) (c : CycleRecord) (r : PunchReason) (s : State) : Posts s (punchEnd l c r s) := by
  unfold punchEnd
  refine Posts.trans ?_ (.of_touches (touches_setPunch _ l _))
  split
  · exact .refl s
  · exact .refl s
  · exact .cancel l _ s
  · exact .punch _ _ s
  · exact .refl s

theorem posts_tallyFailure (l : LaneId) (p : PortId) (s : State) : Posts s (tallyFailure l p s) := by
  unfold tallyFailure
  refine Posts.trans ?_ ((Posts.of_touches (touches_setLink _ p _)).trans (.of_touches (touches_breakTake l p _)))
  split
  · exact .refl s
  · exact .punch _ _ s

theorem posts_punchLaneAdvance (n : Nat) (s : State) (l : LaneId) : Posts s (punchLaneAdvance n s l) := by
  unfold punchLaneAdvance
  split
  · refine .ite ?_ (.refl s)
    exact (Posts.of_touches (touches_setPunch s l _)).trans (.ite (posts_tallyFailure l _ _) (.refl _))
  all_goals exact .refl s

/-! ### The lanes (R19 to R22, R67 to R91) -/

theorem posts_releaseClaim (l : LaneId) (s : State) : Posts s (releaseClaim l s) := by
  unfold releaseClaim
  split
  · exact .refl s
  · exact (Posts.of_touches (touches_setLane s l _)).trans (posts_afterRelease _ _)

theorem posts_takeEndClaim (l : LaneId) (s : State) : Posts s (takeEndClaim l s) := by
  unfold takeEndClaim
  split
  · exact .refl s
  · exact ((Posts.of_touches (touches_setRecords s _)).trans (.of_touches (touches_setLane _ l _))).trans (posts_afterRelease _ _)

theorem posts_armingAttempt (l : LaneId) (r p : Nat) (s : State) : Posts s (armingAttempt l r p s) := by
  unfold armingAttempt
  refine .ite ?_ (.refl s)
  split
  · exact .refl s
  · exact (Posts.of_touches (touches_setLane s l _)).trans (posts_post _ _ _)

theorem posts_letGo (l : LaneId) (m : LaneMode) (s : State) : Posts s (letGo l m s) :=
  (posts_releaseClaim l s).trans (.of_touches (touches_setLane _ l _))

theorem posts_switchCue (l : LaneId) (n : Nat) (c : CueRecord) (p : Nat) (s : State) : Posts s (switchCue l n c p s) :=
  ((Posts.of_touches (touches_setLane s l _)).trans (posts_afterRelease n _)).trans
    ((Posts.of_touches (touches_setLane _ l _)).trans (posts_post _ _ _))

theorem posts_rearm (l : LaneId) (r p : Nat) (s : State) : Posts s (rearm l r p s) := by
  unfold rearm
  split
  · exact .refl s
  · split
    · exact posts_letGo l _ s
    · exact .ite (.refl s) (posts_switchCue l _ _ p s)

theorem posts_takeBegin (l : LaneId) (c : CycleRecord) (a : Advance) (s : State) : Posts s (takeBegin l c a s) :=
  (Posts.of_touches (touches_setLane s l _)).trans (.ite (posts_punchDecision l _ _) (.refl _))

theorem posts_takeBeginTest (l : LaneId) (a : Advance) (s : State) : Posts s (takeBeginTest l a s) := by
  unfold takeBeginTest
  split
  · exact .refl s
  · exact .ite (posts_takeBegin l _ a s) (.refl s)

theorem posts_enterLeadin (l : LaneId) (c : CycleRecord) (a : Advance) (s : State) : Posts s (enterLeadin l c a s) :=
  ((Posts.of_touches (touches_setLane s l _)).trans (.of_touches (touches_handOff _ _))).trans (posts_takeBeginTest l a _)

theorem posts_enterTake (l : LaneId) (c : CycleRecord) (a : Advance) (s : State) : Posts s (enterTake l c a s) :=
  (Posts.of_touches (touches_setLane s l _)).trans (.ite (.refl _) (posts_takeBegin l c a _))

theorem posts_finishCycle (l : LaneId) (e : CycleStop) (x : PunchEnd) (q : Option Position) (c : CycleRecord) (s : State) :
    Posts s (finishCycle l e x q c s) := by
  have hset : ∀ t y, Posts t (t.setLane l y) := fun t y => .of_touches (touches_setLane t l y)
  have hclaim : Posts s (takeEndClaim l (journalWrite (c.entry l e x) s).1) :=
    (posts_journalWrite _ s).trans (posts_takeEndClaim l _)
  have hended := fun y n z => ((hclaim.trans (hset _ y)).trans (posts_post .lane n _)).trans (hset _ z)
  unfold finishCycle
  dsimp only
  split
  · exact hended _ _ _
  · exact (hended _ _ _).trans (.ite (posts_armingAttempt l _ _ _) (.refl _))

theorem posts_endCycle (l : LaneId) (e : CycleStop) (told : Bool) (q : Option Position) (s : State) :
    Posts s (endCycle l e told q s) := by
  have hend := fun c => (posts_punchEnd l c e.reason s).trans (.of_touches (touches_endMarks l told _))
  unfold endCycle
  split
  · exact .refl s
  · dsimp only
    split
    · exact hend _
    · exact (hend _).trans (posts_finishCycle l e _ q _ _)

theorem posts_falseStart (l : LaneId) (s : State) : Posts s (falseStart l s) :=
  ((Posts.of_touches (touches_handOff s _)).trans (posts_releaseClaim l _)).trans (.of_touches (touches_setLane _ l _))

theorem posts_tailYieldTest (l : LaneId) (a : Advance) (s : State) : Posts s (tailYieldTest l a s) := by
  unfold tailYieldTest
  refine .ite ?_ (.refl s)
  split
  · exact .refl s
  · exact .ite (posts_endCycle l _ _ _ s) (.refl s)

theorem posts_armedAdvance (l : LaneId) (a : Advance) (s : State) : Posts s (armedAdvance l a s) := by
  unfold armedAdvance
  dsimp only
  have hrearm : Posts s (if s.table.confirmed then rearm l a.reel a.frame s else s) := .ite (posts_rearm l _ _ s) (.refl s)
  refine hrearm.trans ?_
  generalize (if s.table.confirmed then rearm l a.reel a.frame s else s) = t
  split
  · exact .ite (posts_enterLeadin l _ a _) (.refl _)
  · exact .refl _

theorem posts_leadinAdvance (l : LaneId) (a : Advance) (s : State) : Posts s (leadinAdvance l a s) := by
  unfold leadinAdvance
  dsimp only
  refine (posts_takeBeginTest l a s).trans ?_
  split
  · exact .refl _
  · exact .ite (posts_enterTake l _ a _) (.refl _)

theorem posts_takeAdvance (l : LaneId) (a : Advance) (s : State) : Posts s (takeAdvance l a s) := by
  unfold takeAdvance
  split
  · exact .refl s
  · refine .ite ((Posts.of_touches (touches_handOff s (.stop l true))).trans ?_) (.refl s)
    exact .ite (posts_endCycle l _ _ _ _) ((Posts.of_touches (touches_setLane _ l _)).trans (posts_tailYieldTest l a _))

theorem posts_tailAdvance (l : LaneId) (a : Advance) (s : State) : Posts s (tailAdvance l a s) := by
  unfold tailAdvance
  split
  · exact .refl s
  · exact .ite (posts_endCycle l _ _ _ s) (posts_tailYieldTest l a s)

theorem posts_laneAdvance (l : LaneId) (a : Advance) (s : State) : Posts s (laneAdvance l a s) := by
  have htouch : Posts s (modCycle l (fun c => c.touch a) s) := .of_touches (touches_modCycle l _ s)
  unfold laneAdvance
  split
  · exact .refl s
  · exact posts_armingAttempt l _ _ s
  · exact htouch.trans (posts_armedAdvance l a _)
  · exact htouch.trans (posts_leadinAdvance l a _)
  · exact htouch.trans (posts_takeAdvance l a _)
  · exact htouch.trans (posts_tailAdvance l a _)

theorem posts_laneLost (l : LaneId) (s : State) : Posts s (laneLost l s) := by
  unfold laneLost
  split
  · exact .refl s
  · exact .refl s
  · exact posts_letGo l _ s
  · exact .ite (posts_endCycle l _ _ _ s) (posts_falseStart l s)
  · exact posts_endCycle l _ _ _ s
  · exact posts_endCycle l _ _ _ s

theorem posts_laneCancel (l : LaneId) (s : State) : Posts s (laneCancel l s) := by
  unfold laneCancel
  split
  · exact .refl s
  · exact .refl s
  · exact posts_letGo l _ s
  · exact .ite (posts_endCycle l _ _ _ s) (posts_falseStart l s)
  · exact posts_endCycle l _ _ _ s
  · exact posts_endCycle l _ _ _ s

theorem posts_laneDisable (l : LaneId) (s : State) : Posts s (laneDisable l s) := by
  unfold laneDisable
  split
  · exact .refl s
  · exact .of_touches (touches_setLane s l _)
  · exact posts_letGo l _ s
  all_goals exact .of_touches (touches_setLane s l _)

/-- CLEAR STAGE posts by the stop of the active group and by the lanes it cancels (R87, R148). -/
theorem posts_clearStage (s : State) : Posts s (clearStage s) := by
  have hlatch : ∀ (t : State) (l : LaneId), Posts t (clearLatch t l) := fun t l => .of_touches (touches_setLane t l _)
  have hready : ∀ (t : State) (l : LaneId), Posts t (clearReady t l) := fun t l => .of_touches (touches_setPunch t l _)
  have htallied : ∀ (t : State) (l : LaneId), Posts t (clearTallied t l) := fun t l => .of_touches (touches_setPunch t l _)
  have hlinks : ∀ t : State, Posts t { t with links := Vector.replicate 4 .normal } := fun t => .same rfl
  unfold clearStage
  refine (Posts.of_touches (touches_handoffs s [])).trans ((posts_loopStopActive .clear _).trans ?_)
  refine (Posts.foldl (fun t l => posts_laneCancel l t) allLanes _).trans ?_
  refine (Posts.foldl hlatch allLanes _).trans ((Posts.of_touches (touches_clearMarks _)).trans ?_)
  exact (Posts.foldl hready allLanes _).trans ((Posts.foldl htallied allLanes _).trans (hlinks _))

/-! ### The tracker's events (R42 to R59) -/

theorem posts_laneTakesAdvance (l : LaneId) (s : State) : Posts s (laneTakesAdvance l s) := by
  unfold laneTakesAdvance
  split
  · exact .refl s
  · exact .ite ((Posts.of_touches (touches_offered s _)).trans (posts_laneAdvance l _ _)) (.refl s)

theorem posts_laneTakesLost (l : LaneId) (s : State) : Posts s (laneTakesLost l s) :=
  .ite ((Posts.of_touches (touches_offered s _)).trans (posts_laneLost l _)) (.refl s)

theorem posts_marksTakeAdvance (s : State) : Posts s (marksTakeAdvance s) := by
  unfold marksTakeAdvance
  split
  · exact .refl s
  · exact .ite ((Posts.of_touches (touches_offered s _)).trans (.of_touches (touches_marksAdvance _ _))) (.refl s)

theorem posts_punchTakesAdvance (s : State) : Posts s (punchTakesAdvance s) := by
  unfold punchTakesAdvance
  split
  · exact .refl s
  · exact .ite ((Posts.of_touches (touches_offered s _)).trans (Posts.foldl (posts_punchLaneAdvance _) _ _)) (.refl s)

theorem posts_loopTakesAdvance (s : State) : Posts s (loopTakesAdvance s) := by
  unfold loopTakesAdvance
  split
  · exact .refl s
  · exact .ite ((Posts.of_touches (touches_offered s _)).trans (posts_loopTakeAdvance _ _)) (.refl s)

theorem posts_loopTakesRelock (s : State) : Posts s (loopTakesRelock s) := by
  unfold loopTakesRelock
  split
  · exact .ite ((Posts.of_touches (touches_offered s _)).trans (posts_loopTakeLock _ _)) (.refl s)
  all_goals exact .refl s

theorem posts_loopTakesLock (s : State) : Posts s (loopTakesLock s) :=
  .ite ((posts_loopTakesRelock s).trans (posts_loopTakesAdvance _)) (.refl s)

theorem posts_loopTakesLost (s : State) : Posts s (loopTakesLost s) :=
  .ite ((Posts.of_touches (touches_offered s _)).trans (posts_loopTakeLost _)) (.refl s)

theorem posts_settle (s : State) : Posts s (settle s) := by
  have hlanes : Posts s (allLanes.foldl laneTakes s) :=
    Posts.foldl (fun t l => (posts_laneTakesAdvance l t).trans (posts_laneTakesLost l _)) _ s
  have hmarks := (hlanes.trans (.of_touches (touches_runHandoffs _))).trans (posts_marksTakeAdvance _)
  exact (((hmarks.trans (posts_punchTakesAdvance _)).trans (posts_loopTakesAdvance _)).trans (posts_loopTakesRelock _)).trans
    (posts_loopTakesLost _)

theorem posts_trackerApply (x : TrackerStep) (s : State) : Posts s (trackerApply x s) := by
  have hchange : ∀ t, Posts t (trackerChange x t) := fun t => by
    unfold trackerChange
    dsimp only
    split
    · exact .of_touches (touches_tracker t _)
    · exact (Posts.of_touches (touches_tracker t _)).trans (posts_post _ _ _)
  unfold trackerApply
  split
  · exact hchange s
  · exact ((posts_settle s).trans (hchange _)).trans (.of_touches (touches_offered _ _))

theorem posts_posinByte (s : State) (b : Byte) : Posts s (posinByte s b) := by
  have hrec : ∀ r, Posts s (s.setReceiver r) := fun r => .of_touches (touches_setReceiver s r)
  unfold posinByte
  split
  · exact .ite (hrec _) (.refl s)
  · refine .ite (hrec _) ((hrec none).trans ?_)
    unfold takeWord
    split
    · exact .of_touches (touches_countBadWord _)
    · exact posts_trackerApply _ _

theorem posts_waitExpiry (s : State) : Posts s (waitExpiry s) := .ite (posts_trackerApply _ s) (.refl s)

theorem posts_stepExpiry (s : State) : Posts s (stepExpiry s) := .ite (posts_trackerApply _ s) (.refl s)

/-! ### The Line Unit (R162 to R166) -/

theorem posts_activate (i : LineId) (x : InputLine) (s : State) : Posts s (activate i x s) := by
  unfold activate
  split
  · exact .refl s
  · split
    · exact .of_touches (touches_setLane s _ _)
    · exact .refl s
  · split
    · exact .of_touches (touches_lines s _)
    · exact .refl s
  · exact posts_circleLast _ i s
  · exact posts_loopStopActive _ s

theorem posts_acceptChange (i : LineId) (s : State) : Posts s (acceptChange i s) := by
  unfold acceptChange
  exact ((Posts.of_touches (touches_setInput s i _)).trans (.ite (posts_activate i _ _) (.refl _))).trans (posts_post _ _ _)

theorem posts_sampleInput (i : LineId) (v : Level) (s : State) : Posts s (sampleInput i v s) :=
  .ite (.of_touches (touches_setInput s i _)) (.ite (.of_touches (touches_setInput s i _)) (posts_acceptChange i s))

end Sys2Proof.Machine
end

section
/-! ## What every step keeps

A step is a millisecond, a device reset, a request or one of the events below (`Kept.step`). What a property needs of each is listed
once, so that an invariant of the part is proved by naming the operation that keeps it. -/

namespace Sys2Proof.Machine

set_option Elab.async false

/-- A property of the state that device reset brings about and every operation of a step keeps. -/
structure Kept (P : State → Prop) : Prop where
  reset : ∀ (held : Bool) (x : Straps) (queue : List Instr), P (State.deviceReset held x queue)
  pending : ∀ {s : State} (queue : List Instr), P s → P { s with pending := queue }
  countDown : ∀ {s : State}, P s → P (countDown s)
  request : ∀ {s : State} (k : Request) (p : PortId) (body : List Byte), P s → P (takeRequest p k body (k.block p body) s)
  posinByte : ∀ {s : State} (b : Byte), P s → P (posinByte s b)
  abandonWord : ∀ {s : State}, P s → P (abandonWord s)
  waitExpiry : ∀ {s : State}, P s → P (waitExpiry s)
  stepExpiry : ∀ {s : State}, P s → P (stepExpiry s)
  idleExpiry : ∀ {s : State}, P s → P (idleExpiry s)
  locateExpiry : ∀ {s : State}, P s → P (locateExpiry s)
  laneTakesAdvance : ∀ {s : State} (l : LaneId), P s → P (laneTakesAdvance l s)
  laneTakesLost : ∀ {s : State} (l : LaneId), P s → P (laneTakesLost l s)
  punchTakesAdvance : ∀ {s : State}, P s → P (punchTakesAdvance s)
  takeStartHandoff : ∀ {s : State} (l : LaneId), P s → P (takeStartHandoff l s)
  takeEndHandoff : ∀ {s : State} (l : LaneId), P s → P (takeEndHandoff l s)
  marksTakeAdvance : ∀ {s : State}, P s → P (marksTakeAdvance s)
  sendOverlayWord : ∀ {s : State}, P s → P (sendOverlayWord s)
  loopTakesAdvance : ∀ {s : State}, P s → P (loopTakesAdvance s)
  loopTakesLock : ∀ {s : State}, P s → P (loopTakesLock s)
  loopTakesLost : ∀ {s : State}, P s → P (loopTakesLost s)
  acceptChange : ∀ {s : State} (i : LineId), P s → P (acceptChange i s)
  sampleInput : ∀ {s : State} (i : LineId) (v : Level), P s → P (sampleInput i v s)
  attachPort : ∀ {s : State} (p : PortId), P s → P (attachPort p s)
  detachPort : ∀ {s : State} (p : PortId), P s → P (detachPort p s)
  samplePresent : ∀ {s : State} (p : PortId) (v : Level), P s → P (samplePresent p v s)
  hearAll : ∀ {s : State} (p : PortId) (cs : List RxChar), P s → P (hearAll p cs s)
  silence : ∀ {s : State} (p : PortId), P s → P (s.setPort p (s.port p).silence)
  takeFrameError : ∀ {s : State} (p : PortId), P s → P (takeFrameError p s)
  takeUnknown : ∀ {s : State} (p : PortId) (kind : Byte) (body : List Byte), P s → P (takeUnknown p kind body s)
  transmitNext : ∀ {s : State} (p : PortId), P s → P (transmitNext p s)
  transmitEnd : ∀ {s : State} (p : PortId), P s → P (transmitEnd p s)

section
variable {P : State → Prop}

theorem Kept.live {f : State → State} {s t : State} (hs : P s) (hf : P (f s)) (ht : live f s = .next t) : P t := by
  cases ht
  split
  · exact hs
  · exact hf

theorem Kept.posinBytes (h : Kept P) {s : State} (bytes : List Byte) (hs : P s) : P (bytes.foldl Machine.posinByte s) := by
  induction bytes generalizing s with
  | nil => exact hs
  | cons b bytes ih => exact ih (h.posinByte b hs)

theorem Kept.command (h : Kept P) (k : Request) {p : PortId} {body : List Byte} {s t : State} (hs : P s)
    (ht : exec (k.command p body) s = .next t) : P t := by
  rw [exec_command] at ht
  cases ht
  exact h.request k p body hs

/-- Every command keeps the property. -/
theorem Kept.exec (h : Kept P) (c : Instr) {s t : State} (hs : P s) (ht : exec c s = .next t) : P t := by
  cases c with
  | resetAssert => cases ht; exact h.reset _ _ _
  | resetRelease o2 o1 o0 =>
    cases ht
    unfold releaseReset
    split
    · exact h.reset _ _ _
    · exact hs
  | positionWord bytes => exact Kept.live (f := fun u => bytes.foldl Machine.posinByte u) hs (h.posinBytes bytes hs) ht
  | wordGapTimeout bytes | wordByteWithoutStopBit bytes =>
    exact Kept.live (f := fun u => Machine.abandonWord (bytes.foldl Machine.posinByte u)) hs
      (h.abandonWord (h.posinBytes bytes hs)) ht
  | wordWaitExpiry => exact Kept.live hs (h.waitExpiry hs) ht
  | freewheelStepExpiry => exact Kept.live hs (h.stepExpiry hs) ht
  | lanePositionAdvance l => exact Kept.live hs (h.laneTakesAdvance l hs) ht
  | laneRollLost l => exact Kept.live hs (h.laneTakesLost l hs) ht
  | punchPositionAdvance => exact Kept.live hs (h.punchTakesAdvance hs) ht
  | markStartHandoff l => exact Kept.live hs (h.takeStartHandoff l hs) ht
  | markEndHandoff l => exact Kept.live hs (h.takeEndHandoff l hs) ht
  | markPositionAdvance => exact Kept.live hs (h.marksTakeAdvance hs) ht
  | overlayWord => exact Kept.live hs (h.sendOverlayWord hs) ht
  | loopPositionAdvance => exact Kept.live hs (h.loopTakesAdvance hs) ht
  | loopLockEntry => exact Kept.live hs (h.loopTakesLock hs) ht
  | loopRollLost => exact Kept.live hs (h.loopTakesLost hs) ht
  | locateTimerExpiry => exact Kept.live hs (h.locateExpiry hs) ht
  | grantIdleExpiry => exact Kept.live hs (h.idleExpiry hs) ht
  | inputLineChange i => exact Kept.live hs (h.acceptChange i hs) ht
  | inputSample i v => exact Kept.live hs (h.sampleInput i v hs) ht
  | portAttach p => exact Kept.live hs (h.attachPort p hs) ht
  | portDetach p => exact Kept.live hs (h.detachPort p hs) ht
  | presentSample p v => exact Kept.live hs (h.samplePresent p v hs) ht
  | receiveFrame p chars => exact Kept.live hs (h.hearAll p chars hs) ht
  | interByteTimeout p bytes =>
    exact Kept.live (f := fun u => (Machine.hearAll p (bytes.map wholeByte) u).setPort p
      ((Machine.hearAll p (bytes.map wholeByte) u).port p).silence) hs (h.silence p (h.hearAll p _ hs)) ht
  | frameError p => exact Kept.live hs (h.takeFrameError p hs) ht
  | unknownKind p kind body => exact Kept.live hs (h.takeUnknown p kind body hs) ht
  | transmitTake p => exact Kept.live hs (h.transmitNext p hs) ht
  | transmitComplete p => exact Kept.live hs (h.transmitEnd p hs) ht
  | identify p body => exact h.command .identify hs ht
  | portStatus p body => exact h.command .portStatus hs ht
  | configurePort p body => exact h.command .configurePort hs ht
  | fetchNotices p body => exact h.command .fetchNotices hs ht
  | setParameters p body => exact h.command .setParameters hs ht
  | readParameters p body => exact h.command .readParameters hs ht
  | requestGrant p body => exact h.command .requestGrant hs ht
  | releaseGrant p body => exact h.command .releaseGrant hs ht
  | tableStatus p body => exact h.command .tableStatus hs ht
  | insertCue p body => exact h.command .insertCue hs ht
  | amendCue p body => exact h.command .amendCue hs ht
  | deleteCue p body => exact h.command .deleteCue hs ht
  | holdCue p body => exact h.command .holdCue hs ht
  | clearTable p body => exact h.command .clearTable hs ht
  | readCue p body => exact h.command .readCue hs ht
  | nextCue p body => exact h.command .nextCue hs ht
  | setProfile p body => exact h.command .setProfile hs ht
  | readProfile p body => exact h.command .readProfile hs ht
  | setLane p body => exact h.command .setLane hs ht
  | readLane p body => exact h.command .readLane hs ht
  | enableLane p body => exact h.command .enableLane hs ht
  | disableLane p body => exact h.command .disableLane hs ht
  | cancelLane p body => exact h.command .cancelLane hs ht
  | clearStage p body => exact h.command .clearStage hs ht
  | trackerStatus p body => exact h.command .trackerStatus hs ht
  | ready p body => exact h.command .ready hs ht
  | tally p body => exact h.command .tally hs ht
  | reconfirm p body => exact h.command .reconfirm hs ht
  | startLoop p body => exact h.command .startLoop hs ht
  | stopLoop p body => exact h.command .stopLoop hs ht
  | readLoop p body => exact h.command .readLoop hs ht
  | readJournal p body => exact h.command .readJournal hs ht
  | circleTake p body => exact h.command .circleTake hs ht
  | uncircleTake p body => exact h.command .uncircleTake hs ht
  | trimJournal p body => exact h.command .trimJournal hs ht
  | setLine p body => exact h.command .setLine hs ht
  | readLines p body => exact h.command .readLines hs ht

theorem Kept.whenDown {f : State → State} (hf : ∀ {u : State}, P u → P (f u)) (x : Timer) {s : State} (hs : P s) :
    P (whenDown x f s) := by
  unfold Machine.whenDown
  split
  · exact hf hs
  · exact hs

theorem Kept.tick (h : Kept P) {s : State} (hs : P s) : P (tick s) := by
  unfold Machine.tick
  split
  · exact hs
  · unfold expire
    have hwait := Kept.whenDown (P := P) h.waitExpiry (Machine.countDown s).tracker.wordWait (h.countDown hs)
    have hstep := fun x => Kept.whenDown (P := P) h.stepExpiry x hwait
    have hidle := fun x y => Kept.whenDown (P := P) h.idleExpiry y (hstep x)
    exact Kept.whenDown (P := P) h.locateExpiry _ (hidle _ _)

/-- Every step keeps the property: it is a millisecond, or the front command on the state with the queue's rest. -/
theorem Kept.step (h : Kept P) {s t : State} (hs : P s) (ht : step s = .next t) : P t := by
  unfold Machine.step at ht
  split at ht
  · cases ht
    exact h.tick hs
  · exact h.exec _ (h.pending _ hs) ht

end

end Sys2Proof.Machine
end

section
/-! ## The grant: what each operation makes of it, and that every step keeps it (O54) -/

namespace Sys2Proof.Machine

set_option Elab.async false

/-! ### Freeing and passing on (R28, R30, R34) -/

/-- With nobody waiting the grant is free. -/
theorem passGrant_freeGrant_nil {s : State} (h : s.grant.waiting = []) :
    passGrant s.freeGrant = { s with grant := { holder := none, waiting := [], changed := false, idle := .stopped } } := by
  simp [passGrant, State.freeGrant, h]

/-- The first waiter becomes the holder and is told. -/
theorem passGrant_freeGrant_cons {s : State} {w : PortId} {ws : List PortId} {generation : BitVec 16} {params : Params}
    (h : s.grant.waiting = w :: ws) (hgeneration : s.table.generation = generation) (hparams : s.params = params) :
    passGrant s.freeGrant =
      postGrantTo w (.granted w ws.length generation)
        { s with grant :=
            { holder := some w, waiting := ws, changed := false, idle := .running (1000 * params.grantTimeout) } } := by
  subst hgeneration hparams
  simp only [passGrant, State.freeGrant, h]
  rfl

/-- What a revocation does before the grant is freed: REVOKED, and the table UNCONFIRMED with TABLE STATE (R34). -/
def revokeNotices (p : PortId) (cause : RevokeCause) (s : State) : State :=
  if s.grant.changed && s.table.confirmed then
    post .table (.tableState false s.table.generation p .revoke)
      { postGrantTo p (.revoked p cause s.grant.changed) s with table := { s.table with confirmed := false } }
  else postGrantTo p (.revoked p cause s.grant.changed) s

theorem revoke_eq (p : PortId) (cause : RevokeCause) (s : State) :
    revoke p cause s = passGrant (revokeNotices p cause s).freeGrant := rfl

theorem grant_revokeNotices (p : PortId) (cause : RevokeCause) (s : State) : (revokeNotices p cause s).grant = s.grant := by
  unfold revokeNotices
  split <;> rfl

theorem posts_revokeNotices (p : PortId) (cause : RevokeCause) (s : State) : Posts s (revokeNotices p cause s) := by
  unfold revokeNotices
  refine .ite ?_ (.notice _ _ s)
  exact (Posts.notice _ _ s).trans ((Posts.of_touches (touches_table _ _)).trans (posts_post _ _ _))

theorem posts_revoke (p : PortId) (cause : RevokeCause) (s : State) : Posts s (revoke p cause s) := by
  rw [revoke_eq]
  exact (posts_revokeNotices p cause s).trans ((Posts.of_touches (touches_grant _ _)).trans (posts_passGrant _))

/-- What a release does before the grant is freed: the table, and TABLE STATE where it changed (R30). -/
def releaseNotices (p : PortId) (s : State) : State :=
  let t := s.table.afterRelease s.grant.changed
  if s.grant.changed || !s.table.confirmed then post .table (.tableState t.confirmed t.generation p .release) { s with table := t }
  else { s with table := t }

theorem releaseByHolder_eq (p : PortId) (s : State) : releaseByHolder p s = passGrant (releaseNotices p s).freeGrant := rfl

theorem grant_releaseNotices (p : PortId) (s : State) : (releaseNotices p s).grant = s.grant := by
  unfold releaseNotices
  dsimp only
  split <;> rfl

theorem posts_releaseNotices (p : PortId) (s : State) : Posts s (releaseNotices p s) := by
  have htable := Posts.of_touches (touches_table s (s.table.afterRelease s.grant.changed))
  exact .ite (htable.trans (posts_post _ _ _)) htable

/-! ### What the invariant reads: the grant, and who is attached with EDIT -/

/-- What of a port the invariant looks at. -/
def Port.standing (x : Port) : Bool × Roles := (x.attached, x.roles)

theorem isEditor_of_standing {s t : State} {p : PortId} (h : (t.port p).standing = (s.port p).standing) :
    s.isEditor p → t.isEditor p := by
  obtain ⟨hattached, hroles⟩ := Prod.mk.inj h
  unfold State.isEditor
  rw [hattached, hroles]
  exact id

theorem Posts.standing {s t : State} (h : Posts s t) (p : PortId) : (t.port p).standing = (s.port p).standing :=
  Prod.ext (h.attached p) (h.roles p)

theorem standing_setPort {s : State} {p : PortId} {x : Port} (h : x.standing = (s.port p).standing) (q : PortId) :
    ((s.setPort p x).port q).standing = (s.port q).standing := by
  rw [State.port_setPort]
  split
  · next hq => rw [h, hq]
  · rfl

/-- The grant is as it was, and holder and waiters are still attached with EDIT. -/
theorem grantInv_of_editors {s t : State} (h : s.grantInv) (hgrant : t.grant = s.grant)
    (hedit : ∀ p, s.grant.holder = some p ∨ p ∈ s.grant.waiting → s.isEditor p → t.isEditor p) : t.grantInv := by
  obtain ⟨hnodup, hwaiters, hholder⟩ := h
  unfold State.grantInv
  rw [hgrant]
  refine ⟨hnodup, fun p hp => hedit p (.inr hp) (hwaiters p hp), ?_⟩
  split
  · next hnone => rwa [hnone] at hholder
  · next p hsome =>
    rw [hsome] at hholder
    obtain ⟨hnot, heditor, hrunning⟩ := hholder
    exact ⟨hnot, hedit p (.inl hsome) heditor, hrunning⟩

theorem grantInv_of_standing {s t : State} (h : s.grantInv) (hgrant : t.grant = s.grant)
    (hs : ∀ p, (t.port p).standing = (s.port p).standing) : t.grantInv :=
  grantInv_of_editors h hgrant fun p _ => isEditor_of_standing (hs p)

/-- An operation of a block other than the arbiter: it leaves the grant, and it reaches the ports by posting alone. -/
theorem grantInv_of_posts {xs : List Part} {s t : State} (h : s.grantInv) (ht : TouchesOnly xs s t) (hp : Posts s t)
    (hgrant : Part.grant ∉ xs := by decide) : t.grantInv := grantInv_of_standing h (ht .grant hgrant) hp.standing

/-- An operation that leaves the grant and the ports. -/
theorem grantInv_of_touches {xs : List Part} {s t : State} (h : s.grantInv) (ht : TouchesOnly xs s t)
    (hports : Part.ports ∉ xs := by decide) (hgrant : Part.grant ∉ xs := by decide) : t.grantInv :=
  grantInv_of_posts h ht (.of_touches ht hports) hgrant

theorem grantInv_setPort {s : State} {p : PortId} {x : Port} (h : s.grantInv) (hx : x.standing = (s.port p).standing) :
    (s.setPort p x).grantInv := grantInv_of_standing h rfl (standing_setPort hx)

/-! ### The arbiter's operations (R27 to R37) -/

/-- The grant is freed and passed on: whoever waits is attached with EDIT, so its first becomes a holder as it must be. -/
theorem grantInv_passGrant_freeGrant {s : State} (hnodup : s.grant.waiting.Nodup)
    (hwaiters : ∀ p ∈ s.grant.waiting, s.isEditor p) : (passGrant s.freeGrant).grantInv := by
  cases hw : s.grant.waiting with
  | nil =>
    rw [passGrant_freeGrant_nil hw]
    simp [State.grantInv]
  | cons w ws =>
    rw [hw] at hnodup hwaiters
    rw [passGrant_freeGrant_cons hw rfl rfl]
    obtain ⟨hfirst, hrest⟩ := List.nodup_cons.mp hnodup
    have hgiven : State.grantInv
        { s with grant :=
            { holder := some w, waiting := ws, changed := false, idle := .running (1000 * s.params.grantTimeout) } } :=
      ⟨hrest, fun p hp => hwaiters p (List.mem_cons_of_mem w hp), hfirst, hwaiters w List.mem_cons_self, rfl⟩
    exact grantInv_of_posts hgiven (touches_postGrantTo _ _ _) (.notice _ _ _)

theorem grantInv_revoke {s : State} {p : PortId} (cause : RevokeCause) (hnodup : s.grant.waiting.Nodup)
    (hwaiters : ∀ q ∈ s.grant.waiting, s.isEditor q) : (revoke p cause s).grantInv := by
  rw [revoke_eq]
  rw [← grant_revokeNotices p cause s] at hnodup hwaiters
  exact grantInv_passGrant_freeGrant hnodup fun q hq =>
    isEditor_of_standing ((posts_revokeNotices p cause s).standing q) (hwaiters q hq)

theorem grantInv_releaseByHolder {s : State} (p : PortId) (h : s.grantInv) : (releaseByHolder p s).grantInv := by
  obtain ⟨hnodup, hwaiters, -⟩ := h
  rw [releaseByHolder_eq]
  rw [← grant_releaseNotices p s] at hnodup hwaiters
  exact grantInv_passGrant_freeGrant hnodup fun q hq =>
    isEditor_of_standing ((posts_releaseNotices p s).standing q) (hwaiters q hq)

/-- A port that is not the holder leaves the list. Whether the port itself is still an editor does not matter. -/
theorem grantInv_leaveWaiting {s t : State} {p : PortId} (h : s.grantInv) (hgrant : t.grant = s.grant)
    (hp : s.grant.holder ≠ some p) (hother : ∀ q, q ≠ p → s.isEditor q → t.isEditor q) : (t.leaveWaiting p).grantInv := by
  obtain ⟨hnodup, hwaiters, hholder⟩ := h
  unfold State.leaveWaiting
  rw [hgrant]
  refine ⟨hnodup.filter _, fun q hq => ?_, ?_⟩
  · obtain ⟨hmem, hne⟩ := List.mem_filter.mp hq
    exact hother q (by simpa using hne) (hwaiters q hmem)
  · cases hh : s.grant.holder with
    | none =>
      rw [hh] at hholder
      obtain ⟨hempty, hchanged, hidle⟩ := hholder
      simp [hempty, hchanged, hidle]
    | some q =>
      rw [hh] at hholder hp
      obtain ⟨hnot, heditor, hrunning⟩ := hholder
      exact ⟨fun hq => hnot (List.mem_filter.mp hq).1, hother q (fun e => hp (by rw [e])) heditor, hrunning⟩

/-- A detach at the arbiter: the port that has gone neither holds the grant any more nor waits for it. -/
theorem grantInv_grantDetach {s : State} (p : PortId) (h : s.grantInv) (x : Port) : (grantDetach p (s.setPort p x)).grantInv := by
  have hother : ∀ q, q ≠ p → s.isEditor q → (s.setPort p x).isEditor q := by
    intro q hq hs
    unfold State.isEditor
    rwa [State.port_setPort_ne _ _ _ _ (Ne.symm hq)]
  unfold grantDetach
  split
  · next hp =>
    have hp' : s.grant.holder = some p := hp
    obtain ⟨hnodup, hwaiters, hholder⟩ := h
    rw [hp'] at hholder
    refine grantInv_revoke _ hnodup fun q hq => hother q ?_ (hwaiters q hq)
    rintro rfl
    exact hholder.1 hq
  · next hp => exact grantInv_leaveWaiting h rfl hp hother

theorem grantInv_restartIdle {s : State} (p : PortId) (h : s.grantInv) : (restartIdle p s).grantInv := by
  unfold restartIdle
  split
  · next hp =>
    obtain ⟨hnodup, hwaiters, hholder⟩ := h
    rw [hp] at hholder
    obtain ⟨hnot, heditor, -⟩ := hholder
    refine ⟨hnodup, hwaiters, ?_⟩
    simp only [hp]
    exact ⟨hnot, heditor, rfl⟩
  · exact h

/-- The change flag goes ON under a holder only (R12, R32). -/
theorem grantInv_setChanged {s : State} {p : PortId} (h : s.grantInv) (hp : s.grant.holder = some p) : (setChanged s).grantInv := by
  obtain ⟨hnodup, hwaiters, hholder⟩ := h
  refine ⟨hnodup, hwaiters, ?_⟩
  rw [hp] at hholder
  simp only [setChanged, hp]
  exact hholder

theorem grantInv_edited {s : State} {p : PortId} (rs : List CueRecord) (h : s.grantInv) (hp : s.grant.holder = some p) :
    (edited rs s).grantInv := grantInv_setChanged (grantInv_of_touches h (touches_setRecords s rs)) hp

theorem grantInv_answerRequestGrant {s : State} {p : PortId} (h : s.grantInv) (hp : s.isEditor p) :
    (answerRequestGrant p s).1.grantInv := by
  obtain ⟨hnodup, hwaiters, hholder⟩ := h
  unfold answerRequestGrant
  split
  · next hnone =>
    rw [hnone] at hholder
    obtain ⟨hempty, -, -⟩ := hholder
    have hgiven : (s.grantTo p).grantInv := by
      refine ⟨hnodup, hwaiters, ?_, hp, rfl⟩
      simp [State.grantTo, hempty]
    exact grantInv_of_posts hgiven (touches_postGrantExcept p _ _) (posts_postGrantExcept p _ _)
  · next q hsome =>
    split
    · exact ⟨hnodup, hwaiters, hholder⟩
    · next hne =>
      split
      · exact ⟨hnodup, hwaiters, hholder⟩
      · next hnew =>
        have hnew' : p ∉ s.grant.waiting := by simpa using hnew
        rw [hsome] at hholder
        obtain ⟨hnot, heditor, hrunning⟩ := hholder
        refine ⟨?_, ?_, ?_⟩
        · exact List.nodup_append.mpr ⟨hnodup, List.nodup_singleton p, fun a ha b hb e => hnew' (by simp_all)⟩
        · intro r hr
          rcases List.mem_append.mp hr with hr | hr
          · exact hwaiters r hr
          · rw [List.mem_singleton.mp hr]; exact hp
        · simp only [State.joinWaiting, hsome]
          refine ⟨fun hq => ?_, heditor, hrunning⟩
          rcases List.mem_append.mp hq with hq | hq
          · exact hnot hq
          · exact hne (List.mem_singleton.mp hq)

theorem grantInv_answerReleaseGrant {s : State} (p : PortId) (h : s.grantInv) : (answerReleaseGrant p s).1.grantInv := by
  unfold answerReleaseGrant
  split
  · exact grantInv_releaseByHolder p h
  · next hp =>
    split
    · exact grantInv_leaveWaiting h rfl hp fun _ _ => id
    · exact h

theorem grantInv_idleExpiry {s : State} (h : s.grantInv) : (idleExpiry s).grantInv := by
  unfold idleExpiry
  split
  · exact h
  · split
    · exact grantInv_revoke _ h.1 h.2.1
    · exact h

end Sys2Proof.Machine
end

section
/-! ## Every step keeps the grant (O54) -/

namespace Sys2Proof.Machine

set_option Elab.async false

/-! ### The ports' own commands leave standing as it is, but for attach, detach and CONFIGURE PORT (R174 to R183) -/

theorem Port.standing_join (x : Port) (i : RxItem) : (x.join i).standing = x.standing := by
  unfold Port.join
  split <;> rfl

theorem Port.standing_failFrame (x : Port) (f : FrameFailure) : (x.failFrame f).standing = x.standing := by
  unfold Port.failFrame
  rw [Port.standing_join]
  rfl

theorem Port.standing_frameByte (x : Port) (bytes : List Byte) : (x.frameByte bytes).standing = x.standing := by
  unfold Port.frameByte
  dsimp only
  split
  · exact Port.standing_failFrame x _
  · split
    · rfl
    · unfold Port.finishFrame
      split
      · rw [Port.standing_join]; rfl
      · exact Port.standing_failFrame x _

theorem Port.standing_hear (x : Port) (c : RxChar) : (x.hear c).standing = x.standing := by
  unfold Port.hear
  split
  · split
    · split <;> rfl
    · split
      · exact Port.standing_frameByte x _
      · exact Port.standing_failFrame x _
  · rfl

theorem Port.standing_hears (cs : List RxChar) (x : Port) : (cs.foldl Port.hear x).standing = x.standing := by
  induction cs generalizing x with
  | nil => rfl
  | cons c cs ih => rw [List.foldl_cons, ih, Port.standing_hear]

theorem Port.standing_silence (x : Port) : x.silence.standing = x.standing := by
  unfold Port.silence
  split
  · rfl
  · split
    · exact Port.standing_failFrame x _
    · rfl

theorem Port.standing_takeRate (x : Port) (b : Rate) : (x.takeRate b).standing = x.standing := by
  unfold Port.takeRate
  dsimp only
  split <;> rfl

theorem grantInv_dropItem {s : State} (p : PortId) (h : s.grantInv) : (s.dropItem p).grantInv := grantInv_setPort h rfl

theorem grantInv_placeAnswer {s : State} (p : PortId) (a : Answer) (h : s.grantInv) : (s.placeAnswer p a).grantInv :=
  grantInv_setPort h rfl

theorem grantInv_takeFrameError {s : State} (p : PortId) (h : s.grantInv) : (takeFrameError p s).grantInv := by
  unfold takeFrameError
  split
  · exact h
  · split
    · exact grantInv_placeAnswer p _ (grantInv_dropItem p h)
    · exact h

theorem grantInv_takeUnknown {s : State} (p : PortId) (kind : Byte) (body : List Byte) (h : s.grantInv) :
    (takeUnknown p kind body s).grantInv := by
  unfold takeUnknown
  split
  · exact grantInv_restartIdle p (grantInv_placeAnswer p _ (grantInv_dropItem p h))
  · exact h

theorem grantInv_transmitNext {s : State} (p : PortId) (h : s.grantInv) : (transmitNext p s).grantInv := by
  have hnotice : ∀ n t, t.grantInv → (noticeTaken n t).grantInv :=
    fun n t ht => grantInv_of_touches ht (touches_noticeTaken n t)
  unfold transmitNext
  dsimp only
  split
  · split
    · exact hnotice _ _ (grantInv_setPort h rfl)
    · exact grantInv_setPort h rfl
    · exact h
  · exact h

theorem grantInv_transmitEnd {s : State} (p : PortId) (h : s.grantInv) : (transmitEnd p s).grantInv := by
  unfold transmitEnd
  dsimp only
  split
  · exact h
  · exact grantInv_setPort h rfl

/-- An attach makes nobody less of an editor. -/
theorem grantInv_attachPort {s : State} (p : PortId) (h : s.grantInv) : (attachPort p s).grantInv := by
  unfold attachPort
  split
  · exact h
  · refine grantInv_of_editors h rfl fun q _ hq => ?_
    unfold State.isEditor
    rw [State.port_setLink_other, State.port_setPort]
    split
    · next hpq => exact ⟨rfl, hpq ▸ hq.2⟩
    · exact hq

theorem grantInv_detachPort {s : State} (p : PortId) (h : s.grantInv) : (detachPort p s).grantInv := by
  unfold detachPort
  split
  · refine grantInv_of_posts ?_ (touches_loopDetach p _) (posts_loopDetach p _)
    exact grantInv_of_touches (grantInv_grantDetach p h _) (touches_punchDetach p _)
  · exact h

theorem grantInv_samplePresent {s : State} (p : PortId) (v : Level) (h : s.grantInv) : (samplePresent p v s).grantInv := by
  unfold samplePresent
  dsimp only
  split
  · exact grantInv_setPort h rfl
  · split
    · exact grantInv_setPort h rfl
    · unfold acceptPresent
      dsimp only
      split
      · exact grantInv_attachPort p (grantInv_setPort h rfl)
      · exact grantInv_detachPort p (grantInv_setPort h rfl)

/-- CONFIGURE PORT: a port that would lose EDIT while it holds the grant or waits is refused (R37). -/
theorem grantInv_writeSettings {s : State} (p q : PortId) {y : PortSettings} (h : s.grantInv)
    (hkeeps : s.losesEdit q y.roles = false) : (writeSettings p q y s).grantInv := by
  have hset : ∀ x : Port, x.standing = ((s.port q).attached, y.roles) → (s.setPort q x).grantInv := by
    intro x hx
    obtain ⟨hattached, hroles⟩ := Prod.mk.inj hx
    refine grantInv_of_editors h rfl fun r hr hs => ?_
    unfold State.isEditor
    rw [State.port_setPort]
    split
    · next hqr =>
      subst hqr
      refine ⟨hattached.trans hs.1, ?_⟩
      rw [hroles]
      unfold State.losesEdit at hkeeps
      by_contra hloses
      rcases hr with hr | hr <;> simp [hs.2, hr, hloses] at hkeeps
    · exact hs
  unfold writeSettings
  dsimp only
  generalize ht : s.setPort q _ = t
  have htInv : t.grantInv := by
    rw [← ht]
    apply hset
    split
    · rfl
    · rw [Port.standing_takeRate]; rfl
  split
  · exact grantInv_of_touches htInv (touches_clearReadyOf q t)
  · exact htInv

/-! ### Requests (R178) -/

theorem touches_writeRouting (l : LaneId) (x : Routing) (s : State) : TouchesOnly [.lanes, .punch] s (writeRouting l x s) := by
  have hset : TouchesOnly [.lanes, .punch] s (s.setLane l { s.lane l with routing := x }) :=
    (touches_setLane s l _).mono (by decide)
  exact .ite _ hset (hset.trans ((touches_setPunch _ l _).mono (by decide)))

/-- CLEAR STAGE leaves the arbiter, the tracker, the lines and the queue alone (R87, R112, R132, R148). -/
theorem touches_clearStage (s : State) : TouchesOnly (.links :: laneParts) s (clearStage s) := by
  have hlanes : ∀ t, TouchesOnly (.links :: laneParts) t (allLanes.foldl (fun u l => laneCancel l u) t) :=
    TouchesOnly.foldl (fun u l => (touches_laneCancel l u).mono (by decide)) _
  have hlatches : ∀ t, TouchesOnly (.links :: laneParts) t (allLanes.foldl clearLatch t) :=
    TouchesOnly.foldl (fun u l => (touches_setLane u l _).mono (by decide)) _
  have hready : ∀ t, TouchesOnly (.links :: laneParts) t (allLanes.foldl clearReady t) :=
    TouchesOnly.foldl (fun u l => (touches_setPunch u l _).mono (by decide)) _
  have htallied : ∀ t, TouchesOnly (.links :: laneParts) t (allLanes.foldl clearTallied t) :=
    TouchesOnly.foldl (fun u l => (touches_setPunch u l _).mono (by decide)) _
  have hlinks : ∀ t : State, TouchesOnly (.links :: laneParts) t { t with links := Vector.replicate 4 .normal } := by
    intro t x hx
    cases x <;> first | rfl | simp at hx
  unfold clearStage
  refine ((touches_handoffs s []).mono (by decide)).trans (((touches_loopStopActive .clear _).mono (by decide)).trans ?_)
  refine (hlanes _).trans ((hlatches _).trans (((touches_clearMarks _).mono (by decide)).trans ?_))
  exact (hready _).trans ((htallied _).trans (hlinks _))

/-- Each kind's block keeps the invariant, from a port that is attached and has the role and the grant the request needs: an edit
comes from the holder, REQUEST GRANT from an editor. -/
theorem grantInv_block (k : Request) (p : PortId) (body : List Byte) {s : State} (h : s.grantInv)
    (hattached : (s.port p).attached = true) (hrole : k.need.roleMet (s.port p).roles = true)
    (hgrant : k.need.wantsGrant = true → s.grant.holder = some p) : (k.block p body s).1.grantInv := by
  cases k with
  | identify | readParameters | tableStatus | trackerStatus | readJournal | readLines => exact h
  | portStatus | readProfile | readLane | readLoop =>
    dsimp only [Request.block, answerPortStatus, answerReadProfile, answerReadLane, answerReadLoop]
    split <;> exact h
  | readCue =>
    dsimp only [Request.block, answerReadCue]
    split
    · exact h
    · split <;> exact h
  | nextCue =>
    dsimp only [Request.block, answerNextCue]
    split <;> exact h
  | configurePort =>
    dsimp only [Request.block, answerConfigurePort]
    split
    · split
      · exact h
      · next hbusy =>
        simp only [Bool.or_eq_true, not_or, Bool.not_eq_true] at hbusy
        exact grantInv_writeSettings p _ h hbusy.1.1
    · exact h
  | fetchNotices => exact grantInv_setPort h rfl
  | setParameters =>
    dsimp only [Request.block, answerSetParameters]
    split
    · exact h
    · split <;> exact h
  | requestGrant => exact grantInv_answerRequestGrant h ⟨hattached, hrole⟩
  | releaseGrant => exact grantInv_answerReleaseGrant p h
  | insertCue =>
    dsimp only [Request.block, answerInsert]
    split
    · exact h
    · split
      · exact h
      · split
        · exact h
        · split
          · exact h
          · exact grantInv_edited _ h (hgrant rfl)
  | amendCue =>
    dsimp only [Request.block, answerAmend]
    split
    · exact h
    · split
      · exact h
      · unfold amendFound
        split
        · exact h
        · split
          · exact h
          · split
            · exact h
            · exact grantInv_edited _ h (hgrant rfl)
  | deleteCue =>
    dsimp only [Request.block, answerDelete]
    split
    · exact h
    · split
      · exact h
      · split
        · exact h
        · exact grantInv_edited _ h (hgrant rfl)
  | holdCue =>
    dsimp only [Request.block, answerHold]
    split
    · exact h
    · split
      · exact h
      · split
        · exact h
        · exact grantInv_edited _ h (hgrant rfl)
  | clearTable =>
    dsimp only [Request.block, answerClearTable]
    split
    · exact grantInv_edited _ h (hgrant rfl)
    · exact h
  | setProfile =>
    dsimp only [Request.block, answerSetProfile]
    split
    · split
      · exact grantInv_of_touches h (touches_table s _)
      · exact h
    · exact h
  | setLane =>
    dsimp only [Request.block, answerSetLane]
    split
    · split
      · exact grantInv_of_touches h (touches_writeRouting _ _ s)
      · exact h
    · exact h
  | enableLane =>
    dsimp only [Request.block, answerEnable]
    split
    · exact h
    · exact grantInv_of_touches h (touches_laneEnable _ s)
  | disableLane =>
    dsimp only [Request.block, answerDisable]
    split
    · exact h
    · exact grantInv_of_posts h (touches_laneDisable _ s) (posts_laneDisable _ s)
  | cancelLane =>
    dsimp only [Request.block, answerCancel]
    split
    · exact h
    · exact grantInv_of_posts h (touches_laneCancel _ s) (posts_laneCancel _ s)
  | clearStage => exact grantInv_of_posts h (touches_clearStage s) (posts_clearStage s)
  | ready =>
    dsimp only [Request.block, answerReady]
    split
    · split
      · exact grantInv_of_touches h (touches_setPunch s _ _)
      · exact h
    · exact h
  | tally =>
    dsimp only [Request.block, answerTally]
    split
    · exact h
    · exact grantInv_of_touches h (touches_tallyLane p _ s)
  | reconfirm => exact grantInv_of_touches h (touches_setLink s p _)
  | startLoop =>
    dsimp only [Request.block, answerStartLoop]
    split
    · exact h
    · exact grantInv_of_posts h (touches_startLoop _ s) (posts_startLoop _ s)
  | stopLoop =>
    dsimp only [Request.block, answerStopLoop, stopGroup]
    split
    · exact h
    · split
      · exact grantInv_of_posts h (touches_loopStopActive _ s) (posts_loopStopActive _ s)
      · exact h
  | circleTake =>
    dsimp only [Request.block, answerCircle]
    split
    · exact h
    · split
      · exact h
      · exact grantInv_of_posts h (touches_circle _ _ s) (posts_circle _ _ s)
  | uncircleTake =>
    dsimp only [Request.block, answerUncircle]
    split
    · exact h
    · split
      · exact h
      · exact grantInv_of_posts h (touches_uncircle _ _ s) (posts_uncircle _ _ s)
  | trimJournal =>
    dsimp only [Request.block, answerTrim]
    split
    · exact h
    · exact grantInv_of_touches h (touches_setEntries s _)
    · exact grantInv_of_touches h ((touches_journal s _).andThen (touches_setRecords _ _) (zs := [.table, .journal]))
  | setLine =>
    dsimp only [Request.block, answerSetLine]
    split
    · exact h
    · unfold setInputFrom
      split
      · split
        · exact grantInv_of_touches h (touches_setInputLine _ _ _ _ _ s)
        · exact h
      · exact h
    · unfold setOutputFrom
      split
      · split
        · exact grantInv_of_touches h (touches_setOutputLine _ _ _ _ s)
        · exact h
      · exact h

/-- A request keeps the invariant: taking the item, the refusals, the block of an admitted one, the answer and the idle timer do. -/
theorem grantInv_takeRequest {s : State} (k : Request) (p : PortId) (body : List Byte) (h : s.grantInv) :
    (takeRequest p k body (k.block p body) s).grantInv := by
  by_cases hcan : s.canTake p k body
  · rw [takeRequest_of_canTake _ hcan]
    refine grantInv_restartIdle p (grantInv_placeAnswer p _ ?_)
    have hdrop := grantInv_dropItem p h
    unfold judge
    split
    · exact hdrop
    · split
      · exact hdrop
      · next hrole =>
        split
        · exact hdrop
        · next hgrant =>
          simp only [not_and, not_not] at hgrant
          obtain ⟨-, hattached, -⟩ := hcan
          exact grantInv_block k p body hdrop (by rwa [dropItem_attached]) (by simpa using hrole) hgrant
  · rwa [takeRequest_of_not_canTake _ hcan]

/-! ### The step -/

theorem isRunning_tick (x : Timer) : x.tick.isRunning = x.isRunning := by cases x <;> rfl

theorem grantInv_countDown {s : State} (h : s.grantInv) : (countDown s).grantInv := by
  obtain ⟨hnodup, hwaiters, hholder⟩ := h
  refine ⟨hnodup, hwaiters, ?_⟩
  cases hh : s.grant.holder with
  | none =>
    rw [hh] at hholder
    obtain ⟨hempty, hchanged, hidle⟩ := hholder
    simp [countDown, hh, hempty, hchanged, hidle, Timer.tick]
  | some p =>
    rw [hh] at hholder
    obtain ⟨hnot, heditor, hrunning⟩ := hholder
    simp only [countDown, hh, isRunning_tick]
    exact ⟨hnot, heditor, hrunning⟩

/-- Every operation of a step keeps the grant's invariant. -/
theorem kept_grantInv : Kept State.grantInv where
  reset := grantInv_deviceReset
  pending _ h := h
  countDown := grantInv_countDown
  request := grantInv_takeRequest
  posinByte b h := grantInv_of_posts h (touches_posinByte _ b) (posts_posinByte _ b)
  abandonWord h := grantInv_of_touches h (touches_abandonWord _)
  waitExpiry h := grantInv_of_posts h (touches_waitExpiry _) (posts_waitExpiry _)
  stepExpiry h := grantInv_of_posts h (touches_stepExpiry _) (posts_stepExpiry _)
  idleExpiry := grantInv_idleExpiry
  locateExpiry h := grantInv_of_posts h (touches_locateExpiry _) (posts_locateExpiry _)
  laneTakesAdvance l h := grantInv_of_posts h (touches_laneTakesAdvance l _) (posts_laneTakesAdvance l _)
  laneTakesLost l h := grantInv_of_posts h (touches_laneTakesLost l _) (posts_laneTakesLost l _)
  punchTakesAdvance h := grantInv_of_posts h (touches_punchTakesAdvance _) (posts_punchTakesAdvance _)
  takeStartHandoff l h := grantInv_of_touches h (touches_takeStartHandoff l _)
  takeEndHandoff l h := grantInv_of_touches h (touches_takeEndHandoff l _)
  marksTakeAdvance h := grantInv_of_posts h (touches_marksTakeAdvance _) (posts_marksTakeAdvance _)
  sendOverlayWord h := grantInv_of_touches h (touches_sendOverlayWord _)
  loopTakesAdvance h := grantInv_of_posts h (touches_loopTakesAdvance _) (posts_loopTakesAdvance _)
  loopTakesLock h := grantInv_of_posts h (touches_loopTakesLock _) (posts_loopTakesLock _)
  loopTakesLost h := grantInv_of_posts h (touches_loopTakesLost _) (posts_loopTakesLost _)
  acceptChange i h := grantInv_of_posts h (touches_acceptChange i _) (posts_acceptChange i _)
  sampleInput i v h := grantInv_of_posts h (touches_sampleInput i v _) (posts_sampleInput i v _)
  attachPort := grantInv_attachPort
  detachPort := grantInv_detachPort
  samplePresent := grantInv_samplePresent
  hearAll _ cs h := grantInv_setPort h (Port.standing_hears cs _)
  silence _ h := grantInv_setPort h (Port.standing_silence _)
  takeFrameError := grantInv_takeFrameError
  takeUnknown := grantInv_takeUnknown
  transmitNext := grantInv_transmitNext
  transmitEnd := grantInv_transmitEnd

/-- Settles O54: each operation of a step keeps the invariant. -/
theorem stepKeepsTheGrant : Obligations.StepKeepsTheGrant := by
  unfold Obligations.StepKeepsTheGrant
  exact fun _ _ => kept_grantInv.step

end Sys2Proof.Machine
end

section
/-! ## The grant's expiry and its requests, and where notices are queued (O32, O33, O34) -/

namespace Sys2Proof.Machine

set_option Elab.async false

/-! ### Posting (R181) -/

theorem enqueue_eq_hasPosted (x : Port) (n : Notice) : x.enqueue n = x.hasPosted n := rfl

theorem port_postWhere (pick : PortId → Port → Bool) (n : Notice) (s : State) (p : PortId) :
    (postWhere pick n s).port p =
      if (s.port p).attached = true ∧ pick p (s.port p) = true then (s.port p).hasPosted n else s.port p := by
  rw [postWhere, State.port_mapPorts]
  simp only [Bool.and_eq_true, enqueue_eq_hasPosted]

/-- Every attached port that the test picks takes the notice, and nothing else changes. -/
theorem postWhere_picks (pick : PortId → Port → Bool) (n : Notice) (s : State) {picked : PortId → Prop}
    (hp : ∀ p, pick p (s.port p) = true ↔ picked p) :
    TouchesOnly [.ports] s (postWhere pick n s) ∧
      ∀ p : PortId,
        ((s.port p).attached = true ∧ picked p → (postWhere pick n s).port p = (s.port p).hasPosted n) ∧
          (¬((s.port p).attached = true ∧ picked p) → (postWhere pick n s).port p = s.port p) := by
  refine ⟨touches_mapPorts s _, fun p => ?_⟩
  rw [port_postWhere, ← hp]
  exact ⟨fun h => if_pos h, fun h => if_neg h⟩

/-! ### The revocation (R34, R36) -/

theorem generation_revokeNotices (p : PortId) (cause : RevokeCause) (s : State) :
    (revokeNotices p cause s).table.generation = s.table.generation := by
  unfold revokeNotices
  split <;> rfl

theorem params_revokeNotices (p : PortId) (cause : RevokeCause) (s : State) : (revokeNotices p cause s).params = s.params := by
  unfold revokeNotices
  split <;> rfl

theorem revoke_of_nobody_waiting {s : State} (p : PortId) (cause : RevokeCause) (h : s.grant.waiting = []) :
    revoke p cause s =
      { revokeNotices p cause s with grant := { holder := none, waiting := [], changed := false, idle := .stopped } } := by
  rw [← grant_revokeNotices p cause s] at h
  rw [revoke_eq, passGrant_freeGrant_nil h]

theorem revoke_of_waiting {s : State} (p : PortId) (cause : RevokeCause) {w : PortId} {ws : List PortId}
    (h : s.grant.waiting = w :: ws) :
    revoke p cause s =
      postGrantTo w (.granted w ws.length s.table.generation)
        { revokeNotices p cause s with
          grant := { holder := some w, waiting := ws, changed := false, idle := .running (1000 * s.params.grantTimeout) } } := by
  rw [← grant_revokeNotices p cause s] at h
  rw [revoke_eq, passGrant_freeGrant_cons h (generation_revokeNotices p cause s) (params_revokeNotices p cause s)]

theorem revokeNotices_eq (p : PortId) (cause : RevokeCause) (s : State) :
    revokeNotices p cause s =
      if s.grant.changed = true ∧ s.table.confirmed = true then
        post .table (.tableState false s.table.generation p .revoke)
          { postGrantTo p (.revoked p cause s.grant.changed) s with table := { s.table with confirmed := false } }
      else postGrantTo p (.revoked p cause s.grant.changed) s := by
  unfold revokeNotices
  simp only [Bool.and_eq_true]

theorem exec_grantIdleExpiry {s : State} (h : s.resetHeld = false) : exec .grantIdleExpiry s = .next (idleExpiry s) :=
  live_of_released h

theorem idleExpiry_of_holder {s : State} {p : PortId} (hp : s.grant.holder = some p) (hidle : s.grant.idle.isRunning = true) :
    idleExpiry s = revoke p .idle s := by
  unfold idleExpiry
  rw [hp]
  exact if_pos hidle

/-- Settles O32: the three ways of posting are one operation with its test; the expiry is the revocation, by who waits. -/
theorem idleExpiryRevokesTheGrant : Obligations.IdleExpiryRevokesTheGrant := by
  unfold Obligations.IdleExpiryRevokesTheGrant
  refine ⟨fun k q n s => ⟨?_, ?_⟩, fun s hreset => ⟨fun hnone => ?_, fun p hp hidle => ?_⟩⟩
  · exact postWhere_picks _ n s fun p => by cases k <;> exact Iff.rfl
  · exact postWhere_picks _ n s fun p => by simp
  · rw [exec_grantIdleExpiry hreset, idleExpiry, hnone]
  · rw [exec_grantIdleExpiry hreset, idleExpiry_of_holder hp hidle]
    dsimp only
    rw [← revokeNotices_eq]
    exact ⟨fun hw => by rw [revoke_of_nobody_waiting _ _ hw], fun w ws hw => by rw [revoke_of_waiting _ _ hw]⟩

/-! ### REQUEST GRANT (R27 to R29) -/

theorem answerRequestGrant_free {s : State} (p : PortId) (h : s.grant.holder = none) :
    answerRequestGrant p s = (giveAtOnce p s, .okWith (num1 0)) := by
  unfold answerRequestGrant
  rw [h]

theorem answerRequestGrant_holder {s : State} {p : PortId} (h : s.grant.holder = some p) :
    answerRequestGrant p s = (s, placeReply .already 0) := by
  unfold answerRequestGrant
  rw [h]
  exact if_pos rfl

theorem answerRequestGrant_joins {s : State} {p q : PortId} (h : s.grant.holder = some q) (hne : q ≠ p)
    (hnew : p ∉ s.grant.waiting) :
    answerRequestGrant p s = (s.joinWaiting p, placeReply .queued (s.grant.waiting.length + 1)) := by
  unfold answerRequestGrant
  rw [h]
  dsimp only
  rw [if_neg hne, if_neg (by simpa using hnew)]

theorem placeOf_append {p : PortId} {before after : List PortId} (h : p ∉ before) :
    placeOf p (before ++ p :: after) = before.length + 1 := by
  unfold placeOf
  induction before with
  | nil => simp [List.findIdx_cons]
  | cons q before ih =>
    simp only [List.mem_cons, not_or] at h
    have hq : (q == p) = false := by simpa using Ne.symm h.1
    rw [List.cons_append, List.findIdx_cons, hq]
    simpa using ih h.2

theorem answerRequestGrant_waits {s : State} {p q : PortId} {before after : List PortId} (h : s.grant.holder = some q)
    (hne : q ≠ p) (hw : s.grant.waiting = before ++ p :: after) (hfirst : p ∉ before) :
    answerRequestGrant p s = (s, placeReply .already (before.length + 1)) := by
  unfold answerRequestGrant
  rw [h]
  dsimp only
  rw [if_neg hne, if_pos (by simp [hw]), hw, placeOf_append hfirst]

/-- Settles O33: posting with the requester left out, and the request by who holds the grant and who waits for it. -/
theorem requestGrantAnswers : Obligations.RequestGrantAnswers := by
  unfold Obligations.RequestGrantAnswers
  refine ⟨fun q n s => ?_, fun p s h => ?_⟩
  · exact postWhere_picks _ n s (picked := fun p => p ≠ q ∧ (s.port p).subscription.grant = true) fun p => by simp
  · refine ⟨fun hnone => ?_, fun hp => ?_, fun q hq hne => ⟨fun hnew => ?_, fun before after hw hfirst => ?_⟩⟩
    · exact answers_ok (fields := num1 0) h (answerRequestGrant_free p hnone)
    · exact answers_of_block (fields := num1 0) h (answerRequestGrant_holder hp)
    · exact answers_of_block (fields := num1 (s.grant.waiting.length + 1)) h (answerRequestGrant_joins hq hne hnew)
    · exact answers_of_block (fields := num1 (before.length + 1)) h (answerRequestGrant_waits hq hne hw hfirst)

/-! ### RELEASE GRANT (R30, R31) -/

theorem table_releaseNotices (p : PortId) (s : State) : (releaseNotices p s).table = s.table.afterRelease s.grant.changed := by
  unfold releaseNotices
  dsimp only
  split <;> rfl

theorem params_releaseNotices (p : PortId) (s : State) : (releaseNotices p s).params = s.params := by
  unfold releaseNotices
  dsimp only
  split <;> rfl

theorem releaseByHolder_of_nobody_waiting {s : State} (p : PortId) (h : s.grant.waiting = []) :
    releaseByHolder p s =
      { releaseNotices p s with grant := { holder := none, waiting := [], changed := false, idle := .stopped } } := by
  rw [← grant_releaseNotices p s] at h
  rw [releaseByHolder_eq, passGrant_freeGrant_nil h]

theorem releaseByHolder_of_waiting {s : State} (p : PortId) {w : PortId} {ws : List PortId} (h : s.grant.waiting = w :: ws) :
    releaseByHolder p s =
      postGrantTo w (.granted w ws.length (s.table.afterRelease s.grant.changed).generation)
        { releaseNotices p s with
          grant := { holder := some w, waiting := ws, changed := false, idle := .running (1000 * s.params.grantTimeout) } } := by
  rw [← grant_releaseNotices p s] at h
  rw [releaseByHolder_eq,
    passGrant_freeGrant_cons h (congrArg CueTable.generation (table_releaseNotices p s)) (params_releaseNotices p s)]

theorem releaseNotices_eq (p : PortId) (s : State) :
    releaseNotices p s =
      if s.grant.changed = true ∨ s.table.confirmed = false then
        post .table (.tableState true (s.table.afterRelease s.grant.changed).generation p .release)
          { s with table := s.table.afterRelease s.grant.changed }
      else { s with table := s.table.afterRelease s.grant.changed } := by
  unfold releaseNotices
  simp only [Bool.or_eq_true, Bool.not_eq_true']
  rfl

theorem answerReleaseGrant_holder {s : State} {p : PortId} (h : s.grant.holder = some p) :
    answerReleaseGrant p s = (releaseByHolder p s, .okWith (num2 (s.table.afterRelease s.grant.changed).generation.toNat)) :=
  if_pos h

theorem answerReleaseGrant_waiter {s : State} {p : PortId} (h : s.grant.holder ≠ some p) (hw : p ∈ s.grant.waiting) :
    answerReleaseGrant p s = (s.leaveWaiting p, .okWith []) := by
  unfold answerReleaseGrant
  rw [if_neg h, if_pos (by simpa using hw)]

theorem answerReleaseGrant_other {s : State} {p : PortId} (h : s.grant.holder ≠ some p) (hw : p ∉ s.grant.waiting) :
    answerReleaseGrant p s = (s, .bare .notHeld) := by
  unfold answerReleaseGrant
  rw [if_neg h, if_neg (by simpa using hw)]

/-- Settles O34: the release by who asks for it, and by who waits for the grant. -/
theorem releaseGrantAnswers : Obligations.ReleaseGrantAnswers := by
  unfold Obligations.ReleaseGrantAnswers
  intro p s h u answer
  refine ⟨fun hp => ?_, fun hp hw => ?_, fun hp hw => ?_⟩
  · intro gen confirmed v
    have hv : releaseNotices p u = v := releaseNotices_eq p u
    have hblock := answerReleaseGrant_holder (s := u) hp
    refine ⟨fun hw => ?_, fun w ws hw => ?_⟩
    · rw [releaseByHolder_of_nobody_waiting p (show u.grant.waiting = [] from hw), hv] at hblock
      exact answers_ok h hblock
    · rw [releaseByHolder_of_waiting p (show u.grant.waiting = w :: ws from hw), hv] at hblock
      exact answers_ok h hblock
  · exact answers_ok (fields := []) h (answerReleaseGrant_waiter hp hw)
  · exact answers_bare h (answerReleaseGrant_other hp hw)

end Sys2Proof.Machine
end

section
/-! ## The millisecond (O2) -/

namespace Sys2Proof.Machine

set_option Elab.async false

theorem step_of_idle {s : State} (h : s.pending = []) : step s = .next (tick s) := by
  unfold step
  rw [h]

theorem tick_of_held {s : State} (h : s.resetHeld = true) : tick s = s := if_pos h

theorem tick_of_released {s : State} (h : s.resetHeld = false) : tick s = expire (countDown s) := by
  simp [tick, h]

/-- A timer that is stopped or has 2 ms left does not run down in this millisecond. -/
theorem tick_ne_running_zero {x : Timer} (h : x = .stopped ∨ 2 ≤ x.left) : x.tick ≠ .running 0 := by
  cases x with
  | stopped => intro e; cases e
  | running ms =>
    rcases h with h | h
    · cases h
    · intro e
      injection e with e
      simp only [Timer.left] at h
      omega

theorem whenDown_of_ne {x : Timer} (f : State → State) (s : State) (h : x ≠ .running 0) : whenDown x f s = s := if_neg h

theorem whenDown_running_zero (f : State → State) (s : State) : whenDown (.running 0) f s = f s := if_pos rfl

/-- An expiry that falls due is the effect of its own command, and one that does not changes nothing. -/
theorem whenDown_exec {c : Instr} {f : State → State} {s : State} (x : Timer) (hc : exec c s = .next (f s)) :
    (x = .running 0 → exec c s = .next (whenDown x f s)) ∧ (x ≠ .running 0 → whenDown x f s = s) := by
  refine ⟨fun hx => ?_, whenDown_of_ne f s⟩
  rw [hx, whenDown_running_zero, hc]

/-- Only the grant idle timer and the locate timer can run down when the tracker's two do not. -/
theorem expire_of_tracker {s : State} (hwait : s.tracker.wordWait ≠ .running 0) (hstep : s.tracker.stepTimer ≠ .running 0) :
    expire s =
      whenDown (whenDown s.grant.idle idleExpiry s).loop.locateTimer locateExpiry (whenDown s.grant.idle idleExpiry s) := by
  unfold expire
  dsimp only
  rw [whenDown_of_ne _ _ hwait, whenDown_of_ne _ _ hstep]

theorem loop_idleExpiry (s : State) : (idleExpiry s).loop = s.loop := touches_idleExpiry s .loop (by decide)

theorem resetHeld_whenDown {xs : List Part} {f : State → State} (hf : ∀ s, TouchesOnly xs s (f s)) (x : Timer) (s : State)
    (hx : Part.resetHeld ∉ xs := by decide) : (whenDown x f s).resetHeld = s.resetHeld := by
  unfold whenDown
  split
  · exact hf s .resetHeld hx
  · rfl

/-- Settles O2: a millisecond counts the four timers down and then takes the expiries in their order. -/
theorem idleStepCountsOneMillisecond : Obligations.IdleStepCountsOneMillisecond := by
  unfold Obligations.IdleStepCountsOneMillisecond
  intro s hpending less counted goesOn due
  have hless : ∀ x, less x = x.tick := fun x => by cases x <;> rfl
  have hcounted : counted = countDown s := by simp only [counted, hless]; rfl
  rw [step_of_idle hpending]
  refine ⟨fun h => by rw [tick_of_held h], fun h hwait hstep => ?_, fun h => ?_⟩
  · have hreset : (countDown s).resetHeld = false := h
    rw [tick_of_released h, hcounted, expire_of_tracker (tick_ne_running_zero hwait) (tick_ne_running_zero hstep)]
    have hidleGoesOn : goesOn s.grant.idle → (countDown s).grant.idle ≠ .running 0 := fun h => tick_ne_running_zero h
    have hlocateGoesOn : goesOn s.loop.locateTimer → (countDown s).loop.locateTimer ≠ .running 0 :=
      fun h => tick_ne_running_zero h
    refine ⟨fun hidle hlocate => ?_, fun hidle hlocate => ?_, fun hlocate hidle => ?_⟩
    · rw [whenDown_of_ne _ _ (hidleGoesOn hidle), whenDown_of_ne _ _ (hlocateGoesOn hlocate)]
    · have hdown : (countDown s).grant.idle = .running 0 := by show s.grant.idle.tick = _; rw [hidle]; rfl
      rw [hdown, whenDown_running_zero, loop_idleExpiry, whenDown_of_ne _ _ (hlocateGoesOn hlocate), exec_grantIdleExpiry hreset]
    · have hdown : (countDown s).loop.locateTimer = .running 0 := by show s.loop.locateTimer.tick = _; rw [hlocate]; rfl
      rw [whenDown_of_ne _ _ (hidleGoesOn hidle), hdown, whenDown_running_zero]
      exact (live_of_released hreset).symm
  · rw [tick_of_released h, hcounted]
    have hreset₀ : (countDown s).resetHeld = false := h
    have hreset₁ := (resetHeld_whenDown touches_waitExpiry (countDown s).tracker.wordWait (countDown s)).trans hreset₀
    have hreset₂ := fun x => (resetHeld_whenDown touches_stepExpiry x _).trans hreset₁
    have hreset₃ := fun x y => (resetHeld_whenDown touches_idleExpiry y _).trans (hreset₂ x)
    exact ⟨_, _, _, _, whenDown_exec _ (live_of_released hreset₀), whenDown_exec _ (live_of_released hreset₁),
      whenDown_exec _ (live_of_released (hreset₂ _)), whenDown_exec _ (live_of_released (hreset₃ _ _)), rfl⟩

end Sys2Proof.Machine
end

section
/-! ## What stands before the owning block of a request (O40) -/

namespace Sys2Proof.Machine

set_option Elab.async false

/-! ### Taking the item, placing the answer, the idle timer (R34, R177) -/

theorem setPort_port (s : State) (p : PortId) : s.setPort p (s.port p) = s := by
  simp [State.setPort, State.port]

theorem dropItem_of_empty {s : State} {p : PortId} (h : (s.port p).receiveQueue = []) : s.dropItem p = s := by
  have hport : { s.port p with receiveQueue := (s.port p).receiveQueue.tail } = s.port p := by rw [h, List.tail_nil, ← h]
  rw [State.dropItem, hport, setPort_port]

theorem dropItem_of_cons {s : State} {p : PortId} {i : RxItem} {rest : List RxItem} (h : (s.port p).receiveQueue = i :: rest) :
    s.dropItem p = s.setPort p { s.port p with receiveQueue := rest } := by
  rw [State.dropItem, h, List.tail_cons]

theorem restartIdle_of_holder {s : State} {p : PortId} (h : s.grant.holder = some p) :
    restartIdle p s = { s with grant := { s.grant with idle := .running (1000 * s.params.grantTimeout) } } := if_pos h

theorem restartIdle_of_not_holder {s : State} {p : PortId} (h : s.grant.holder ≠ some p) : restartIdle p s = s := if_neg h

/-! ### The tests in their order (R178) -/

section
variable {k : Request} {p : PortId} {body : List Byte} {s : State} (f : State → State × Reply)

theorem judge_length (h : k.lengthFits body = false) : judge p k body f s = (s, .bare .length) := if_pos h

theorem judge_role (hlength : k.lengthFits body = true) (h : k.need.roleMet (s.port p).roles = false) :
    judge p k body f s = (s, .bare .role) := by
  unfold judge
  rw [if_neg (by simp [hlength]), if_pos h]

theorem judge_noGrant (hlength : k.lengthFits body = true) (hrole : k.need.roleMet (s.port p).roles = true)
    (hneed : k.need.wantsGrant = true) (h : s.grant.holder ≠ some p) : judge p k body f s = (s, .bare .noGrant) := by
  unfold judge
  rw [if_neg (by simp [hlength]), if_neg (by simp [hrole]), if_pos ⟨hneed, h⟩]

end

/-- A request that the tests refuse is answered with the status of the test alone, on the state without its item. -/
theorem exec_refused {k : Request} {p : PortId} {body : List Byte} {s : State} {x : Status} (hcan : s.canTake p k body)
    (h : judge p k body (k.block p body) (s.dropItem p) = (s.dropItem p, .bare x)) :
    exec (k.command p body) s = .next ((s.dropItem p).answered p (k.code + 0x80) (num1 x.code)) := by
  rw [exec_command, takeRequest_of_canTake _ hcan, h]
  rfl

/-- Settles O40: the tables kind by kind, the operations around the block, and the tests in their order. -/
theorem requestsAreJudgedInOrder : Obligations.RequestsAreJudgedInOrder := by
  unfold Obligations.RequestsAreJudgedInOrder
  refine ⟨fun k b r => ?tables, fun p kind body a s => ?around, fun k p body s => ?tests⟩
  case tables =>
    intro grant edit circles length
    refine ⟨?_, ?_, ?_, ?_, ?_, ?_⟩
    · cases k <;> simp [Request.lengthFits, length]
    · cases k <;> simp [Request.need, Need.wantsGrant, grant]
    · cases k <;> simp [Request.need, Need.roleMet, grant, edit]
    · rintro rfl
      rfl
    · cases k <;> simp [Request.need, Need.roleMet, circles]
    · cases k <;> simp [Request.need, Need.roleMet, grant, edit, circles]
  case around =>
    exact ⟨dropItem_of_empty, fun _ _ => dropItem_of_cons, rfl, restartIdle_of_holder, restartIdle_of_not_holder, rfl⟩
  case tests =>
    refine ⟨fun hcan => ⟨fun hlength => ?_, fun hlength hrole => ?_, fun hlength hrole hneed hgrant => ?_⟩, fun hnot => ?_⟩
    · exact exec_refused hcan (judge_length _ hlength)
    · exact exec_refused hcan (judge_role _ hlength (by simpa using hrole))
    · exact exec_refused hcan (judge_noGrant _ hlength (by simpa using hrole) hneed hgrant)
    · rw [exec_command, takeRequest_of_not_canTake _ hnot]

end Sys2Proof.Machine
end

section
/-! ## SET PARAMETERS, CONFIGURE PORT and FETCH NOTICES (O51) -/

namespace Sys2Proof.Machine

set_option Elab.async false

/-! ### Lanes one after another -/

theorem mem_allLanes : ∀ l : LaneId, l ∈ allLanes := by decide

theorem any_allLanes (f : LaneId → Bool) : allLanes.any f = true ↔ ∃ l : LaneId, f l = true := by
  simp [List.any_eq_true, mem_allLanes]

/-- An operation on the lanes one after another, each on what is read of its own lane alone. -/
theorem foldl_lanewise {β : Type} {f : State → LaneId → State} {read : State → LaneId → β} {g : β → β}
    (hown : ∀ s l, read (f s l) l = g (read s l)) (hother : ∀ s l k, l ≠ k → read (f s l) k = read s k) (s : State)
    (l : LaneId) :
    read (allLanes.foldl f s) l = g (read s l) := by
  have hlist : ∀ (ls : List LaneId) (t : State), ls.Nodup →
      read (ls.foldl f t) l = if l ∈ ls then g (read t l) else read t l := by
    intro ls
    induction ls with
    | nil => intro t _; rfl
    | cons k ls ih =>
      intro t hnodup
      obtain ⟨hk, hnodup⟩ := List.nodup_cons.mp hnodup
      rw [List.foldl_cons, ih _ hnodup]
      by_cases hkl : k = l
      · subst hkl
        simp [hk, hown]
      · simp [hother _ _ _ hkl, Ne.symm hkl]
  rw [hlist allLanes s (by decide), if_pos (mem_allLanes l)]

/-- A request that reaches its block: what the block makes of the state, with its answer in the slot (R177, R178). -/
theorem exec_of_block {s t : State} {p : PortId} {k : Request} {body : List Byte} {r : Reply} (h : s.admits p k body)
    (hb : k.block p body (s.dropItem p) = (t, r)) :
    exec (k.command p body) s = .next (restartIdle p (t.placeAnswer p (k.answer r))) := by
  rw [exec_command, takeRequest_of_canTake _ h.1, judge_of_admits _ h, hb]

/-! ### SET PARAMETERS (R62, R63, R185) -/

theorem isFrameRate_iff (n : Nat) : isFrameRate n = true ↔ n = 24 ∨ n = 25 ∨ n = 30 ∨ n = 48 := by
  simp [isFrameRate, or_assoc]

/-- The eight values of a body lie in their ranges (R185). -/
def ParamsInRange (b : List Byte) : Prop :=
  (byteAt b 0 = 24 ∨ byteAt b 0 = 25 ∨ byteAt b 0 = 30 ∨ byteAt b 0 = 48) ∧ 2 ≤ byteAt b 1 ∧ byteAt b 1 ≤ 15 ∧
    byteAt b 2 ≤ 15 ∧ 16 ≤ byteAt b 3 ∧ byteAt b 3 ≤ 128 ∧ byteAt b 4 ≤ 2 ∧ 1 ≤ byteAt b 5 ∧ byteAt b 5 ≤ 60 ∧
    1 ≤ byteAt b 6 ∧ byteAt b 6 ≤ 30

/-- The eight values of a body. -/
def paramsIn (b : List Byte) : Params :=
  { frameRate := byteAt b 0, lockCount := byteAt b 1, freewheelLimit := byteAt b 2, tallyInterval := byteAt b 3
    missAllowance := byteAt b 4, grantTimeout := byteAt b 5, locateTimeout := byteAt b 6, bidThreshold := byteAt b 7 }

theorem paramsOf_inRange {b : List Byte} (h : ParamsInRange b) : paramsOf b = some (paramsIn b) := by
  unfold ParamsInRange at h
  rw [← isFrameRate_iff] at h
  exact if_pos h

theorem paramsOf_of_not {b : List Byte} (h : ¬ParamsInRange b) : paramsOf b = none := by
  unfold ParamsInRange at h
  rw [← isFrameRate_iff] at h
  exact if_neg h

/-- Eight bytes are the eight numbers they spell. -/
theorem bytes_paramsIn {b : List Byte} (h : b.length = 8) : (paramsIn b).bytes = b := by
  have hbytes : b = b.drop 0 := rfl
  have hend : b.drop 8 = [] := List.drop_eq_nil_of_le (by omega)
  conv_rhs =>
    rw [hbytes, drop_eq_num1 (i := 0) (by omega), drop_eq_num1 (i := 0 + 1) (by omega), drop_eq_num1 (i := 0 + 1 + 1) (by omega),
      drop_eq_num1 (i := 3) (by omega), drop_eq_num1 (i := 4) (by omega), drop_eq_num1 (i := 5) (by omega),
      drop_eq_num1 (i := 6) (by omega), drop_eq_num1 (i := 7) (by omega), hend]
  simp [Params.bytes, paramsIn]

theorem inCycle_iff (m : LaneMode) : m.inCycle = true ↔ m ≠ .off ∧ m ≠ .standby := by cases m <;> simp [LaneMode.inCycle]

theorem paramsBusy_iff (s : State) (x : Params) :
    s.paramsBusy x = true ↔
      (s.tracker.mode = .freewheel ∧ x.freewheelLimit < s.tracker.freewheel) ∨
        (x.frameRate ≠ s.params.frameRate ∧ ∃ l : LaneId, (s.lane l).mode ≠ .off ∧ (s.lane l).mode ≠ .standby) := by
  unfold State.paramsBusy
  simp only [Bool.or_eq_true, Bool.and_eq_true, beq_iff_eq, decide_eq_true_eq, bne_iff_ne, any_allLanes, inCycle_iff]

theorem answerSetParameters_range {b : List Byte} (h : ¬ParamsInRange b) (s : State) :
    answerSetParameters b s = (s, .bare .range) := by
  unfold answerSetParameters
  rw [paramsOf_of_not h]

theorem answerSetParameters_busy {b : List Byte} {s : State} (h : ParamsInRange b) (hbusy : s.paramsBusy (paramsIn b) = true) :
    answerSetParameters b s = (s, .bare .busy) := by
  unfold answerSetParameters
  rw [paramsOf_inRange h]
  exact if_pos hbusy

theorem answerSetParameters_writes {b : List Byte} {s : State} (h : ParamsInRange b) (hbusy : ¬s.paramsBusy (paramsIn b) = true) :
    answerSetParameters b s = ({ s with params := paramsIn b }, .okWith (paramsIn b).bytes) := by
  unfold answerSetParameters
  rw [paramsOf_inRange h]
  exact if_neg hbusy

/-! ### CONFIGURE PORT: the settings a body names (R183) -/

theorem rolesOf_code (r : Roles) : rolesOf r.code = some r := by
  obtain ⟨a, b, c⟩ := r
  revert a b c
  decide

theorem subscriptionOf_code (x : Subscription) : subscriptionOf x.code = some x := by
  obtain ⟨a, b, c, d, e, f, g⟩ := x
  revert a b c d e f g
  decide

theorem rateOf_code (x : Rate) : rateOf x.code = some x := by cases x <;> rfl

theorem rateOf_eq_none {n : Nat} (h : 4 < n) : rateOf n = none := by
  obtain ⟨m, rfl⟩ := Nat.exists_eq_add_of_lt h
  rw [Nat.add_comm 4 m]
  rfl

theorem portOf_val (q : PortId) : portOf q.val = some q := dif_pos q.isLt

/-- Every value but the port's number names a setting. -/
theorem settingsOf_eq_some {b : List Byte} {y : PortSettings} (hroles : y.roles.code = byteAt b 1)
    (hsubscription : y.subscription.code = byteAt b 2) (hrate : y.rate.code = byteAt b 3) (hthreshold : y.threshold = byteAt b 4)
    (hrange : 1 ≤ byteAt b 4 ∧ byteAt b 4 ≤ 32) : settingsOf b = some y := by
  unfold settingsOf
  rw [← hroles, ← hsubscription, ← hrate, rolesOf_code, subscriptionOf_code, rateOf_code]
  dsimp only
  rw [if_pos hrange, ← hthreshold]

theorem settingsOf_eq_none {b : List Byte}
    (h : 7 < byteAt b 1 ∨ 127 < byteAt b 2 ∨ 4 < byteAt b 3 ∨ byteAt b 4 = 0 ∨ 32 < byteAt b 4) : settingsOf b = none := by
  unfold settingsOf
  split
  · next hroles hsubscription hrate =>
    refine if_neg fun hthreshold => ?_
    rcases h with h | h | h | h | h
    · simp [rolesOf, show ¬byteAt b 1 < 8 by omega] at hroles
    · simp [subscriptionOf, show ¬byteAt b 2 < 128 by omega] at hsubscription
    · simp [rateOf_eq_none h] at hrate
    · omega
    · omega
  · rfl

theorem answerConfigurePort_range {p : PortId} {b : List Byte}
    (h : 3 < byteAt b 0 ∨ 7 < byteAt b 1 ∨ 127 < byteAt b 2 ∨ 4 < byteAt b 3 ∨ byteAt b 4 = 0 ∨ 32 < byteAt b 4) (s : State) :
    answerConfigurePort p b s = (s, .bare .range) := by
  unfold answerConfigurePort
  split
  · next hport hsettings =>
    rcases h with h | h
    · simp [portOf, show ¬byteAt b 0 < 4 by omega] at hport
    · simp [settingsOf_eq_none h] at hsettings
  · rfl

/-! ### CONFIGURE PORT: what it would disturb (R37, R130, R145) -/

theorem losesEdit_iff (s : State) (q : PortId) (r : Roles) :
    s.losesEdit q r = true ↔
      (s.port q).roles.edit = true ∧ r.edit = false ∧ (s.grant.holder = some q ∨ q ∈ s.grant.waiting) := by
  simp [State.losesEdit, and_assoc]

theorem punchPort_iff (m : PunchMode) (q : PortId) :
    m.port = some q ↔ m = .queued q ∨ (∃ n : Nat, m = .recording q n) ∨ m = .broken q := by
  cases m <;> simp [PunchMode.port]

theorem losesRecord_iff (s : State) (q : PortId) (r : Roles) :
    s.losesRecord q r = true ↔
      (s.port q).roles.record = true ∧ r.record = false ∧
        ∃ l : LaneId, (s.punchOf l).mode = .queued q ∨ (∃ n : Nat, (s.punchOf l).mode = .recording q n) ∨
          (s.punchOf l).mode = .broken q := by
  simp [State.losesRecord, State.isPunchPort, mem_allLanes, punchPort_iff, and_assoc]

theorem losesTransport_iff (s : State) (q : PortId) (r : Roles) :
    s.losesTransport q r = true ↔
      (s.port q).roles.transport = true ∧ r.transport = false ∧
        ∃ g : GroupId, s.activeGroup = some g ∧ (s.group g).port = some q := by
  unfold State.losesTransport
  cases s.activeGroup <;> simp [and_assoc]

theorem answerConfigurePort_busy {p q : PortId} {b : List Byte} {y : PortSettings} {s : State} (hq : portOf (byteAt b 0) = some q)
    (hy : settingsOf b = some y) (h : (s.losesEdit q y.roles || s.losesRecord q y.roles || s.losesTransport q y.roles) = true) :
    answerConfigurePort p b s = (s, .bare .busy) := by
  unfold answerConfigurePort
  rw [hq, hy]
  exact if_pos h

theorem answerConfigurePort_writes {p q : PortId} {b : List Byte} {y : PortSettings} {s : State} (hq : portOf (byteAt b 0) = some q)
    (hy : settingsOf b = some y) (h : ¬(s.losesEdit q y.roles || s.losesRecord q y.roles || s.losesTransport q y.roles) = true) :
    answerConfigurePort p b s =
      (writeSettings p q y s,
        { status := .ok
          fields := num1 y.roles.code ++ num1 y.subscription.code ++ num1 y.rate.code ++ num1 y.threshold
          newRate := if p = q then some y.rate else none }) := by
  unfold answerConfigurePort
  rw [hq, hy]
  exact if_neg h

/-! ### CONFIGURE PORT: what it writes (R116, R183) -/

theorem takeRate_eq (x : Port) (b : Rate) :
    x.takeRate b =
      { x with
        slot := x.slot.map fun n => { n with newRate := none }
        lineRate := if x.transmitting = none then b else x.lineRate
        transmitting := x.transmitting.map fun m => { m with newRate := some b } } := by
  unfold Port.takeRate
  cases h : x.transmitting <;> simp

/-- What the clearing of ready flags reads of a lane: the port its routing record names, and its punch record. -/
def State.readyView (s : State) (l : LaneId) : Option PortId × PunchLane := ((s.lane l).routing.recordPort, s.punchOf l)

/-- A lane's punch record with its ready flag CLEAR when the port it names is this one. -/
def clearedView (q : PortId) (x : Option PortId × PunchLane) : Option PortId × PunchLane :=
  (x.1, if x.1 = some q then { x.2 with ready := false } else x.2)

theorem readyView_clearReadyOf (q : PortId) (s : State) (l : LaneId) :
    (clearReadyOf q s).readyView l = clearedView q (s.readyView l) := by
  unfold clearReadyOf
  refine foldl_lanewise (fun t k => ?_) (fun t k j hne => ?_) s l
  · unfold State.readyView clearedView
    dsimp only
    split
    · rw [clearReady, State.punchOf_setPunch_same]; rfl
    · rfl
  · unfold State.readyView
    split
    · rw [clearReady, State.punchOf_setPunch_ne _ _ _ _ hne]; rfl
    · rfl

/-- The ready flags of the lanes that name the port are CLEAR, and no other changes. -/
theorem punchOf_clearReadyOf (q : PortId) (s : State) (l : LaneId) :
    (clearReadyOf q s).punchOf l =
      if (s.lane l).routing.recordPort = some q then { s.punchOf l with ready := false } else s.punchOf l := by
  have h := readyView_clearReadyOf q s l
  simp only [State.readyView, clearedView, Prod.mk.injEq] at h
  exact h.2

theorem port_clearReadyOf (q : PortId) (s : State) (k : PortId) : (clearReadyOf q s).port k = s.port k := by
  rw [State.port, touches_clearReadyOf q s .ports (by decide)]
  rfl

/-- The new record of the port that is configured. -/
def Port.configured (x : Port) (own : Bool) (y : PortSettings) : Port :=
  let z : Port := { x with roles := y.roles, subscription := y.subscription, rate := y.rate, threshold := y.threshold }
  if own then z else z.takeRate y.rate

theorem writeSettings_eq (p q : PortId) (y : PortSettings) (s : State) :
    writeSettings p q y s =
      if (s.port q).roles.record = true ∧ y.roles.record = false then
        clearReadyOf q (s.setPort q ((s.port q).configured (p = q) y))
      else s.setPort q ((s.port q).configured (p = q) y) := by
  simp only [writeSettings, Port.configured, Bool.and_eq_true, Bool.not_eq_true', decide_eq_true_eq]

theorem port_writeSettings (p q : PortId) (y : PortSettings) (s : State) (k : PortId) :
    (writeSettings p q y s).port k = if q = k then (s.port q).configured (p = q) y else s.port k := by
  rw [writeSettings_eq, ← State.port_setPort]
  split
  · exact port_clearReadyOf _ _ _
  · rfl

theorem punchOf_writeSettings (p q : PortId) (y : PortSettings) (s : State) (l : LaneId) :
    (writeSettings p q y s).punchOf l =
      if (s.port q).roles.record = true ∧ y.roles.record = false ∧ (s.lane l).routing.recordPort = some q then
        { s.punchOf l with ready := false }
      else s.punchOf l := by
  rw [writeSettings_eq]
  by_cases h : (s.port q).roles.record = true ∧ y.roles.record = false
  · rw [if_pos h, punchOf_clearReadyOf]
    simp only [h, true_and]
    rfl
  · rw [if_neg h, if_neg fun hall => h ⟨hall.1, hall.2.1⟩]
    rfl

/-- The four bytes after the port's number are the four settings. -/
theorem tail_eq_settings {b : List Byte} (h : b.length = 5) :
    num1 (byteAt b 1) ++ num1 (byteAt b 2) ++ num1 (byteAt b 3) ++ num1 (byteAt b 4) = b.tail := by
  have hend : b.drop 5 = [] := List.drop_eq_nil_of_le (by omega)
  rw [← List.drop_one, drop_eq_num1 (i := 1) (by omega), drop_eq_num1 (i := 1 + 1) (by omega), drop_eq_num1 (i := 3) (by omega),
    drop_eq_num1 (i := 4) (by omega), hend]
  simp

/-! ### FETCH NOTICES (R182, R189) -/

/-- The entries of notices, one after another. -/
def noticeBytes (ns : List Notice) : List Byte := (ns.map Notice.entry).flatten

/-- The oldest notices, at most `k`, as many as the room holds. -/
theorem takeNotices_spec (k room : Nat) (ns : List Notice) :
    let r := takeNotices k room ns
    ns = r.1 ++ r.2 ∧ r.1.length ≤ k ∧ (noticeBytes r.1).length ≤ room ∧
      (r.1.length = k ∨ r.2 = [] ∨ ∀ (n : Notice) (more : List Notice), r.2 = n :: more →
        room < (noticeBytes r.1).length + n.entry.length) := by
  induction k generalizing room ns with
  | zero => simp [takeNotices, noticeBytes]
  | succ k ih =>
    cases ns with
    | nil => simp [takeNotices, noticeBytes]
    | cons n ns =>
      dsimp only [takeNotices]
      split
      · next hfits =>
        obtain ⟨hsplit, hcount, hroom, hmost⟩ := ih (room - n.entry.length) ns
        generalize takeNotices k (room - n.entry.length) ns = r at *
        have hbytes : (noticeBytes (n :: r.1)).length = n.entry.length + (noticeBytes r.1).length := by simp [noticeBytes]
        dsimp only
        refine ⟨congrArg (n :: ·) hsplit, Nat.succ_le_succ hcount, by omega, ?_⟩
        rcases hmost with hmost | hmost | hmost
        · exact .inl (congrArg (· + 1) hmost)
        · exact .inr (.inl hmost)
        · refine .inr (.inr fun m more hm => ?_)
          have := hmost m more hm
          omega
      · next hlong =>
        refine ⟨rfl, Nat.zero_le _, Nat.zero_le _, .inr (.inr fun m more hm => ?_)⟩
        injection hm with hm
        subst hm
        simp only [noticeBytes, List.map_nil, List.flatten_nil, List.length_nil]
        omega

/-! ### The three requests -/

theorem answers_setParameters {p : PortId} {b : List Byte} {s : State} (h : s.admits p .setParameters b) :
    let u := s.dropItem p
    (¬ParamsInRange b → Answers .setParameters p b s u [0x06]) ∧
      (ParamsInRange b → u.paramsBusy (paramsIn b) = true → Answers .setParameters p b s u [0x0C]) ∧
      (ParamsInRange b → ¬u.paramsBusy (paramsIn b) = true →
        Answers .setParameters p b s { u with params := paramsIn b } (0x00 :: b)) := by
  have hlength : b.length = 8 := by simpa [Request.lengthFits] using h.2.1
  refine ⟨fun hnot => ?_, fun hrange hbusy => ?_, fun hrange hfree => ?_⟩
  · exact answers_bare h (answerSetParameters_range hnot _)
  · exact answers_bare h (answerSetParameters_busy hrange hbusy)
  · have hblock := answerSetParameters_writes hrange hfree
    rw [bytes_paramsIn hlength] at hblock
    exact answers_ok h hblock

/-- CONFIGURE PORT with nothing in its way. -/
theorem exec_configurePort_writes {p q : PortId} {b : List Byte} {s : State} {y : PortSettings} (h : s.admits p .configurePort b)
    (hq : byteAt b 0 = q.val) (hroles : y.roles.code = byteAt b 1) (hsubscription : y.subscription.code = byteAt b 2)
    (hrate : y.rate.code = byteAt b 3) (hthreshold : y.threshold = byteAt b 4) (hrange : 1 ≤ byteAt b 4 ∧ byteAt b 4 ≤ 32)
    (hfree : ¬((s.dropItem p).losesEdit q y.roles || (s.dropItem p).losesRecord q y.roles ||
      (s.dropItem p).losesTransport q y.roles) = true) :
    exec (.configurePort p b) s =
      .next (restartIdle p ((writeSettings p q y (s.dropItem p)).placeAnswer p
        { kind := 0x83, body := 0x00 :: b.tail, newRate := if p = q then some y.rate else none })) := by
  have hlength : b.length = 5 := by simpa [Request.lengthFits] using h.2.1
  have hblock := answerConfigurePort_writes (p := p) (by rw [hq, portOf_val])
    (settingsOf_eq_some hroles hsubscription hrate hthreshold hrange) hfree
  rw [hroles, hsubscription, hrate, hthreshold, tail_eq_settings hlength] at hblock
  exact exec_of_block h hblock

theorem answers_fetchNotices {p : PortId} {s : State} (h : s.admits p .fetchNotices []) :
    let x := (s.dropItem p).port p
    let r := takeNotices 4 58 x.ordinary
    Answers .fetchNotices p [] s ((s.dropItem p).setPort p { x with ordinary := r.2, lostSinceFetch := 0 })
      ([0x00] ++ num1 r.2.length ++ num2 x.lostSinceFetch ++ num1 r.1.length ++ noticeBytes r.1) := by
  intro x r
  have hblock : (Request.fetchNotices).block p [] (s.dropItem p) =
      ((s.dropItem p).setPort p { x with ordinary := r.2, lostSinceFetch := 0 },
        .okWith (num1 r.2.length ++ num2 x.lostSinceFetch ++ num1 r.1.length ++ noticeBytes r.1)) := rfl
  simpa only [List.append_assoc] using answers_ok h hblock

/-- Settles O51: each request by the tests it makes and by what it writes. -/
theorem settingsAndNotices : Obligations.SettingsAndNotices := by
  unfold Obligations.SettingsAndNotices
  intro p b s u
  refine ⟨fun h => ?parameters, fun h => ⟨fun hrange => ?range, fun q r x rate hq hr hx hrate hlow hhigh => ?settings⟩,
    fun h => ?fetch⟩
  case parameters =>
    intro inRange busy
    have hanswers := answers_setParameters h
    simp only [paramsBusy_iff] at hanswers
    exact hanswers
  case range => exact answers_bare h (answerConfigurePort_range hrange _)
  case settings =>
    intro old busy
    let y : PortSettings := { roles := r, subscription := x, rate := rate, threshold := byteAt b 4 }
    have hport : portOf (byteAt b 0) = some q := by rw [hq, portOf_val]
    have hsettings : settingsOf b = some y := settingsOf_eq_some hr hx hrate rfl ⟨hlow, hhigh⟩
    have hbusy : (u.losesEdit q r || u.losesRecord q r || u.losesTransport q r) = true ↔ busy := by
      simp only [Bool.or_eq_true, losesEdit_iff, losesRecord_iff, losesTransport_iff, or_assoc, u, dropItem_roles]
      exact Iff.rfl
    refine ⟨fun hb => answers_bare h (answerConfigurePort_busy hport hsettings (hbusy.mpr hb)), fun hfree => ?_⟩
    refine ⟨writeSettings p q y u, exec_configurePort_writes h hq hr hx hrate rfl ⟨hlow, hhigh⟩ (mt hbusy.mp hfree),
      touches_writeSettings p q y u, fun k hk => ?_, ?_, fun l => ?_⟩
    · rw [port_writeSettings, if_neg (Ne.symm hk)]
    · rw [port_writeSettings, if_pos rfl]
      simp only [Port.configured, takeRate_eq, decide_eq_true_eq, y]
    · rw [punchOf_writeSettings]
      simp only [u, dropItem_roles]
      rfl
  case fetch =>
    intro x entry bytes
    obtain ⟨hsplit, hcount, hroom, hmost⟩ := takeNotices_spec 4 58 x.ordinary
    exact ⟨_, _, hsplit, hcount, hroom, hmost, answers_fetchNotices h⟩

end Sys2Proof.Machine
end

section
/-! ## PRESENT: attach and detach (O36) -/

namespace Sys2Proof.Machine

set_option Elab.async false

/-! ### Where a notice goes is read from the ports alone (R175, R181) -/

theorem ports_postWhere {s t : State} (pick : PortId → Port → Bool) (n : Notice) (h : s.ports = t.ports) :
    (postWhere pick n s).ports = (postWhere pick n t).ports := by
  have hport : ∀ p, s.port p = t.port p := fun p => by rw [State.port, h]; rfl
  simp only [postWhere, State.mapPorts, hport]

/-- Posting leaves a port that is detached and has no notice to send as it is. -/
theorem Posts.port_of_detached {s t : State} (h : Posts s t) {p : PortId} (hattached : (s.port p).attached = false)
    (hempty : (s.port p).priority = []) : t.port p = s.port p := by
  have hother : ∀ (s : State) (q : PortId) (x : Port), (s.port p).attached = false → (s.port q).attached = true →
      (s.setPort q x).port p = s.port p := by
    intro s q x hp hq
    refine State.port_setPort_ne _ _ _ _ ?_
    rintro rfl
    rw [hp] at hq
    cases hq
  induction h with
  | same h => rw [State.port, h]; rfl
  | notice pick n s => rw [port_postWhere, if_neg (by simp [hattached])]
  | punch q n s =>
    unfold postPunch
    split
    · next hq => exact hother s q _ hattached hq
    · rfl
  | transport q n s =>
    unfold postTransport
    split
    · next hq => exact hother s q _ hattached hq
    · rfl
  | cancel l q s =>
    rw [pairCancel, State.port_setPort]
    split
    · next hq =>
      subst hq
      rw [hempty, List.filter_nil, ← hempty]
    · rfl
  | trans _ _ ih ih' =>
    have hfirst := ih hattached hempty
    rw [ih' (by rw [hfirst, hattached]) (by rw [hfirst, hempty]), hfirst]

/-! ### The arbiter at a detach (R36) -/

theorem grantDetach_of_holder {s : State} {p : PortId} (h : s.grant.holder = some p) : grantDetach p s = revoke p .detach s :=
  if_pos h

theorem grantDetach_of_not_holder {s : State} {p : PortId} (h : s.grant.holder ≠ some p) : grantDetach p s = s.leaveWaiting p :=
  if_neg h

theorem posts_grantDetach (p : PortId) (s : State) : Posts s (grantDetach p s) :=
  .ite (posts_revoke p _ s) (.of_touches (touches_grant s _))

theorem table_revoke (p : PortId) (cause : RevokeCause) (s : State) :
    (revoke p cause s).table = if s.grant.changed = true then { s.table with confirmed := false } else s.table := by
  have hnotices : (revokeNotices p cause s).table =
      if s.grant.changed = true then { s.table with confirmed := false } else s.table := by
    rw [revokeNotices_eq]
    by_cases hchanged : s.grant.changed = true
    · by_cases hconfirmed : s.table.confirmed = true
      · rw [if_pos ⟨hchanged, hconfirmed⟩, if_pos hchanged]
        rfl
      · rw [if_neg fun h => hconfirmed h.2, if_pos hchanged, ← Bool.eq_false_of_not_eq_true hconfirmed]
        rfl
    · rw [if_neg fun h => hchanged h.1, if_neg hchanged]
      rfl
  rw [revoke_eq, table_passGrant]
  exact hnotices

/-- The notices of the arbiter at a detach: REVOKED, TABLE STATE and GRANTED, each where it applies (R34, R36). -/
def detachPosts (p : PortId) (s : State) : State :=
  let revoked : State := if s.grant.holder = some p then postGrantTo p (.revoked p .detach s.grant.changed) s else s
  let unconfirmed : State :=
    if s.grant.holder = some p ∧ s.grant.changed = true ∧ s.table.confirmed = true then
      post .table (.tableState false s.table.generation p .revoke) revoked
    else revoked
  match s.grant.waiting with
  | [] => unconfirmed
  | w :: ws =>
    if s.grant.holder = some p then postGrantTo w (.granted w ws.length s.table.generation) unconfirmed else unconfirmed

theorem ports_grantDetach (p : PortId) (s : State) : (grantDetach p s).ports = (detachPosts p s).ports := by
  unfold detachPosts
  by_cases h : s.grant.holder = some p
  · rw [grantDetach_of_holder h]
    simp only [h, if_true, true_and]
    have hnotices : (revokeNotices p .detach s).ports =
        (if s.grant.changed = true ∧ s.table.confirmed = true then
          post .table (.tableState false s.table.generation p .revoke) (postGrantTo p (.revoked p .detach s.grant.changed) s)
        else postGrantTo p (.revoked p .detach s.grant.changed) s).ports := by
      rw [revokeNotices_eq]
      split
      · exact ports_postWhere _ _ rfl
      · rfl
    cases hw : s.grant.waiting with
    | nil => rw [revoke_of_nobody_waiting _ _ hw]; exact hnotices
    | cons w ws => rw [revoke_of_waiting _ _ hw]; exact ports_postWhere _ _ hnotices
  · rw [grantDetach_of_not_holder h]
    simp only [h, if_false, false_and]
    cases s.grant.waiting <;> rfl

/-! ### The Punch Unit at a detach (R129) -/

/-- What a detach reads and writes of a lane: the lane itself and its punch record. -/
def State.takeView (s : State) (l : LaneId) : Lane × PunchLane := (s.lane l, s.punchOf l)

/-- The take of a lane at the detach of a port: a queued one becomes dry, a recording one broken. -/
def detachedTake (p : PortId) (x : Lane × PunchLane) : Lane × PunchLane :=
  match x.2.mode with
  | .queued q => if q = p then (x.1, { x.2 with mode := .dry .notSent }) else x
  | .recording q _ =>
    if q = p then ({ x.1 with cycle := x.1.cycle.map fun c => { c with broken := true } }, { x.2 with mode := .broken p }) else x
  | .idle => x
  | .dry _ => x
  | .broken _ => x

theorem detachedTake_recording {p : PortId} {x : Lane × PunchLane} {n : Nat} (h : x.2.mode = .recording p n) :
    detachedTake p x =
      ({ x.1 with cycle := x.1.cycle.map fun c => { c with broken := true } }, { x.2 with mode := .broken p }) := by
  simp [detachedTake, h]

theorem detachedTake_queued {p : PortId} {x : Lane × PunchLane} (h : x.2.mode = .queued p) :
    detachedTake p x = (x.1, { x.2 with mode := .dry .notSent }) := by
  simp [detachedTake, h]

theorem detachedTake_other {p : PortId} {x : Lane × PunchLane} (hqueued : x.2.mode ≠ .queued p)
    (hrecording : ¬∃ n : Nat, x.2.mode = .recording p n) : detachedTake p x = x := by
  unfold detachedTake
  split
  · next q hq => exact if_neg fun e => hqueued (by rw [hq, e])
  · next q n hq => exact if_neg fun e => hrecording ⟨n, by rw [hq, e]⟩
  all_goals rfl

theorem routing_ready_detachedTake (p : PortId) (x : Lane × PunchLane) :
    (detachedTake p x).1.routing = x.1.routing ∧ (detachedTake p x).2.ready = x.2.ready := by
  unfold detachedTake
  split
  · split <;> exact ⟨rfl, rfl⟩
  · split <;> exact ⟨rfl, rfl⟩
  all_goals exact ⟨rfl, rfl⟩

/-- The ready flag of a lane that names the port becomes CLEAR. -/
def detachedReady (p : PortId) (x : Lane × PunchLane) : Lane × PunchLane :=
  if x.1.routing.recordPort = some p then (x.1, { x.2 with ready := false }) else x

theorem takeView_of {s t : State} (hlanes : t.lanes = s.lanes) (hpunch : t.punch = s.punch) (l : LaneId) :
    t.takeView l = s.takeView l := by
  simp only [State.takeView, State.lane, State.punchOf, hlanes, hpunch]

theorem takeView_setPunch_same (s : State) (l : LaneId) (y : PunchLane) : (s.setPunch l y).takeView l = (s.lane l, y) := by
  rw [State.takeView, State.punchOf_setPunch_same]
  rfl

theorem takeView_setPunch_ne {s : State} {l k : LaneId} (y : PunchLane) (h : l ≠ k) :
    (s.setPunch l y).takeView k = s.takeView k := by
  rw [State.takeView, State.punchOf_setPunch_ne _ _ _ _ h]
  rfl

theorem takeView_breakTake_same (p : PortId) (s : State) (l : LaneId) :
    (breakTake l p s).takeView l =
      ({ s.lane l with cycle := (s.lane l).cycle.map fun c => { c with broken := true } },
        { s.punchOf l with mode := .broken p }) := by
  simp [breakTake, modCycle, State.takeView]

theorem takeView_breakTake_ne (p : PortId) {s : State} {l k : LaneId} (h : l ≠ k) :
    (breakTake l p s).takeView k = s.takeView k := by
  simp [breakTake, modCycle, State.takeView, State.lane_setLane_ne _ _ _ _ h, State.punchOf_setPunch_ne _ _ _ _ h]

/-- The first half of `punchDetachLane`: what becomes of the lane's take. -/
def detachTake (p : PortId) (s : State) (l : LaneId) : State :=
  match (s.punchOf l).mode with
  | .idle => s
  | .dry _ => s
  | .queued q => if q = p then s.setPunch l { s.punchOf l with mode := .dry .notSent } else s
  | .recording q _ => if q = p then breakTake l p s else s
  | .broken _ => s

theorem punchDetachLane_eq (p : PortId) (s : State) (l : LaneId) :
    punchDetachLane p s l =
      if ((detachTake p s l).lane l).routing.recordPort = some p then
        (detachTake p s l).setPunch l { (detachTake p s l).punchOf l with ready := false }
      else detachTake p s l := rfl

theorem takeView_detachTake_same (p : PortId) (s : State) (l : LaneId) :
    (detachTake p s l).takeView l = detachedTake p (s.takeView l) := by
  unfold detachTake detachedTake State.takeView
  cases hmode : (s.punchOf l).mode with
  | idle | dry _ | broken _ => rfl
  | queued q =>
    dsimp only
    split
    · exact takeView_setPunch_same s l _
    · rfl
  | recording q n =>
    dsimp only
    split
    · exact takeView_breakTake_same p s l
    · rfl

theorem takeView_detachTake_ne (p : PortId) (s : State) {l k : LaneId} (h : l ≠ k) :
    (detachTake p s l).takeView k = s.takeView k := by
  unfold detachTake
  cases (s.punchOf l).mode with
  | idle | dry _ | broken _ => rfl
  | queued q =>
    dsimp only
    split
    · exact takeView_setPunch_ne _ h
    · rfl
  | recording q n =>
    dsimp only
    split
    · exact takeView_breakTake_ne p h
    · rfl

theorem takeView_punchDetach (p : PortId) (s : State) (l : LaneId) :
    (punchDetach p s).takeView l = detachedReady p (detachedTake p (s.takeView l)) := by
  refine foldl_lanewise (g := fun x => detachedReady p (detachedTake p x)) (fun t k => ?_) (fun t k j hne => ?_) s l
  · rw [punchDetachLane_eq, ← takeView_detachTake_same, detachedReady]
    split
    · next h => exact (takeView_setPunch_same _ _ _).trans (if_pos h).symm
    · next h => exact (if_neg h).symm
  · rw [punchDetachLane_eq, ← takeView_detachTake_ne p t hne]
    split
    · exact takeView_setPunch_ne _ hne
    · rfl

/-! ### The Loop Controller at a detach (R145) -/

theorem activeGroup_of_loop {s t : State} (h : t.loop = s.loop) : t.activeGroup = s.activeGroup := by
  simp only [State.activeGroup, State.group, h]

theorem group_of_loop {s t : State} (h : t.loop = s.loop) (g : GroupId) : t.group g = s.group g := by
  simp only [State.group, h]

theorem loopDetach_of_carried {s : State} {p : PortId} {g : GroupId} (h : s.activeGroup = some g) (hp : (s.group g).port = some p) :
    loopDetach p s = loopChange g .failed .transportLost s := by
  unfold loopDetach
  rw [h]
  exact if_pos hp

theorem loopDetach_of_not {s : State} {p : PortId} (h : ∀ g, s.activeGroup = some g → (s.group g).port ≠ some p) :
    loopDetach p s = s := by
  unfold loopDetach
  split
  · rfl
  · next g hg => exact if_neg (h g hg)

theorem ports_loopChange_failed (g : GroupId) (c : LoopCause) (s : State) :
    (loopChange g .failed c s).ports = (post .loop (.loopState g .failed (s.group g).passes c none) s).ports :=
  ports_postWhere _ _ rfl

/-! ### PORT_ATTACH and PORT_DETACH (R174, R175) -/

theorem exec_portAttach {s : State} (p : PortId) (h : s.resetHeld = false) : exec (.portAttach p) s = .next (attachPort p s) :=
  live_of_released h

theorem exec_portDetach {s : State} (p : PortId) (h : s.resetHeld = false) : exec (.portDetach p) s = .next (detachPort p s) :=
  live_of_released h

theorem exec_presentSample {s : State} (p : PortId) (v : Level) (h : s.resetHeld = false) :
    exec (.presentSample p v) s = .next (samplePresent p v s) := live_of_released h

section
variable {s : State} {p : PortId}

theorem attachPort_of_detached (h : (s.port p).attached = false) :
    attachPort p s =
      (s.setPort p { s.port p with attached := true, presentLevel := .high, presentDiffering := 0, receiver := none }).setLink p
        .normal := if_neg (by simp [h])

theorem attachPort_of_attached (h : (s.port p).attached = true) : attachPort p s = s := if_pos h

theorem detachPort_of_detached (h : (s.port p).attached = false) : detachPort p s = s := if_neg (by simp [h])

/-- The state in which the port has emptied itself, and in which the other blocks hear of its detach. -/
def State.emptied (s : State) (p : PortId) : State := s.setPort p (s.port p).detached

theorem detachPort_of_attached (h : (s.port p).attached = true) :
    detachPort p s = loopDetach p (punchDetach p (grantDetach p (s.emptied p))) := if_pos h

/-- A detach leaves everything but the table, the grant, the lanes, the Punch Unit, the Loop Controller and the ports. -/
theorem touches_detach (p : PortId) (s : State) :
    TouchesOnly [.table, .grant, .lanes, .punch, .loop, .ports] s (loopDetach p (punchDetach p (grantDetach p (s.emptied p)))) :=
  (((touches_setPort s p _).mono (by decide)).trans ((touches_grantDetach p _).mono (by decide))).trans
    (((touches_punchDetach p _).mono (by decide)).trans ((touches_loopDetach p _).mono (by decide)))

theorem port_detach (p : PortId) (s : State) :
    (loopDetach p (punchDetach p (grantDetach p (s.emptied p)))).port p = (s.port p).detached := by
  have hposts : Posts (s.emptied p) (loopDetach p (punchDetach p (grantDetach p (s.emptied p)))) :=
    ((posts_grantDetach p _).trans (.of_touches (touches_punchDetach p _))).trans (posts_loopDetach p _)
  have hself : (s.emptied p).port p = (s.port p).detached := State.port_setPort_same s p _
  rw [hposts.port_of_detached (by rw [hself]; rfl) (by rw [hself]; rfl), hself]

/-- The Punch Unit and the Loop Controller leave the arbiter and the table alone. -/
theorem grant_detach (p : PortId) (t : State) : (loopDetach p (punchDetach p t)).grant = t.grant :=
  ((touches_punchDetach p t).andThen (touches_loopDetach p _) (zs := [.lanes, .punch, .loop, .ports])) .grant (by decide)

theorem table_detach (p : PortId) (t : State) : (loopDetach p (punchDetach p t)).table = t.table :=
  ((touches_punchDetach p t).andThen (touches_loopDetach p _) (zs := [.lanes, .punch, .loop, .ports])) .table (by decide)

/-- The lanes and their takes are as the Punch Unit leaves them. -/
theorem takeView_detach (p : PortId) (s : State) (l : LaneId) :
    (loopDetach p (punchDetach p (grantDetach p (s.emptied p)))).takeView l = detachedReady p (detachedTake p (s.takeView l)) := by
  have hloop : ∀ t, (loopDetach p t).takeView l = t.takeView l := fun t =>
    takeView_of (touches_loopDetach p t .lanes (by decide)) (touches_loopDetach p t .punch (by decide)) l
  have hgrant : ∀ t, (grantDetach p t).takeView l = t.takeView l := fun t =>
    takeView_of (touches_grantDetach p t .lanes (by decide)) (touches_grantDetach p t .punch (by decide)) l
  rw [hloop, takeView_punchDetach, hgrant]
  rfl

/-- The Loop Controller hears of the detach with its own record as it was. -/
theorem loop_before_loopDetach (p : PortId) (s : State) : (punchDetach p (grantDetach p (s.emptied p))).loop = s.loop := by
  rw [touches_punchDetach p _ .loop (by decide), touches_grantDetach p _ .loop (by decide)]
  rfl

theorem loop_detach_carried {g : GroupId} (h : s.activeGroup = some g) (hp : (s.group g).port = some p) :
    (loopDetach p (punchDetach p (grantDetach p (s.emptied p)))).loop =
      { groups := s.loop.groups.set g { s.group g with mode := .failed, cause := .transportLost }
        locateTimer := .stopped, locateSent := false } := by
  have hloop := loop_before_loopDetach p s
  generalize punchDetach p (grantDetach p (s.emptied p)) = t at *
  rw [← activeGroup_of_loop hloop] at h
  rw [← group_of_loop hloop] at hp
  rw [loopDetach_of_carried h hp, ← hloop, ← group_of_loop hloop]
  rfl

theorem loop_detach_other (h : ∀ g, s.activeGroup = some g → (s.group g).port ≠ some p) :
    (loopDetach p (punchDetach p (grantDetach p (s.emptied p)))).loop = s.loop := by
  have hloop := loop_before_loopDetach p s
  generalize punchDetach p (grantDetach p (s.emptied p)) = t at *
  rw [loopDetach_of_not, hloop]
  intro g hg
  rw [activeGroup_of_loop hloop] at hg
  rw [group_of_loop hloop]
  exact h g hg

/-- At a detach the other ports are told in this order: the arbiter's notices, then LOOP STATE of the active group that the port carried (log 10). -/
theorem ports_detach (p : PortId) (s : State) :
    (loopDetach p (punchDetach p (grantDetach p (s.emptied p)))).ports =
      (match s.activeGroup with
        | none => detachPosts p (s.emptied p)
        | some g =>
          if (s.group g).port = some p then
            post .loop (.loopState g .failed (s.group g).passes .transportLost none) (detachPosts p (s.emptied p))
          else detachPosts p (s.emptied p)).ports := by
  have hloop := loop_before_loopDetach p s
  have hports : (punchDetach p (grantDetach p (s.emptied p))).ports = (detachPosts p (s.emptied p)).ports :=
    (touches_punchDetach p _ .ports (by decide)).trans (ports_grantDetach p _)
  generalize punchDetach p (grantDetach p (s.emptied p)) = t at *
  rw [← activeGroup_of_loop hloop]
  simp only [← group_of_loop hloop]
  cases hg : t.activeGroup with
  | none =>
    rw [loopDetach_of_not (by simp [hg])]
    exact hports
  | some g =>
    dsimp only
    split
    · next hp =>
      rw [loopDetach_of_carried hg hp, ports_loopChange_failed]
      exact ports_postWhere _ _ hports
    · next hp =>
      rw [loopDetach_of_not (by simpa [hg] using hp)]
      exact hports

theorem grantDetach_grant_nil {t : State} (h : t.grant.holder = some p) (hw : t.grant.waiting = []) :
    (grantDetach p t).grant = { holder := none, waiting := [], changed := false, idle := .stopped } := by
  rw [grantDetach_of_holder h, revoke_of_nobody_waiting _ _ hw]

theorem grantDetach_grant_cons {t : State} {w : PortId} {ws : List PortId} (h : t.grant.holder = some p)
    (hw : t.grant.waiting = w :: ws) :
    (grantDetach p t).grant =
      { holder := some w, waiting := ws, changed := false, idle := .running (1000 * t.params.grantTimeout) } := by
  rw [grantDetach_of_holder h, revoke_of_waiting _ _ hw]
  rfl

theorem grantDetach_table_of_changed {t : State} (h : t.grant.holder = some p) (hchanged : t.grant.changed = true) :
    (grantDetach p t).table = { t.table with confirmed := false } := by
  rw [grantDetach_of_holder h, table_revoke, if_pos hchanged]

theorem grantDetach_table_of_not {t : State} (h : t.grant.holder ≠ some p ∨ t.grant.changed = false) :
    (grantDetach p t).table = t.table := by
  by_cases hp : t.grant.holder = some p
  · have hchanged : t.grant.changed = false := h.resolve_left (not_not.mpr hp)
    rw [grantDetach_of_holder hp, table_revoke, if_neg (by simp [hchanged])]
  · rw [grantDetach_of_not_holder hp]
    rfl

/-! ### The samples of PRESENT (R174) -/

theorem acceptPresent_high (h : (s.port p).attached = false) : acceptPresent p .high s = attachPort p s := by
  rw [attachPort_of_detached h, acceptPresent]
  dsimp only
  rw [attachPort_of_detached (by rw [State.port_setPort_same]; exact h), State.setPort_twice, State.port_setPort_same]

theorem acceptPresent_low (h : (s.port p).attached = true) : acceptPresent p .low s = detachPort p s := by
  rw [detachPort_of_attached h, acceptPresent]
  dsimp only
  rw [detachPort_of_attached (by rw [State.port_setPort_same]; exact h), State.emptied, State.setPort_twice,
    State.port_setPort_same]
  rfl

theorem samplePresent_agrees {v : Level} (h : v = (s.port p).presentLevel) :
    samplePresent p v s = s.setPort p { s.port p with presentDiffering := 0 } := if_pos h

theorem samplePresent_counts {v : Level} (h : v ≠ (s.port p).presentLevel) (hcount : (s.port p).presentDiffering + 1 < 20) :
    samplePresent p v s = s.setPort p { s.port p with presentDiffering := (s.port p).presentDiffering + 1 } := by
  unfold samplePresent
  dsimp only
  rw [if_neg h]
  exact if_pos hcount

theorem samplePresent_accepts {v : Level} (h : v ≠ (s.port p).presentLevel) (hcount : 20 ≤ (s.port p).presentDiffering + 1) :
    samplePresent p v s = acceptPresent p v s := by
  unfold samplePresent
  dsimp only
  rw [if_neg h]
  exact if_neg (Nat.not_lt.mpr hcount)

end

/-- What `takeView_detach` says of a lane: a recording take is broken, a queued one dry, and the flags of the lanes that name the
port are CLEAR. -/
theorem detachedLane_cases {s t : State} {p : PortId} {l : LaneId}
    (h : t.takeView l = detachedReady p (detachedTake p (s.takeView l))) :
    let recording : Prop := ∃ n : Nat, (s.punchOf l).mode = .recording p n
    let names : Prop := (s.lane l).routing.recordPort = some p
    (recording →
      t.lane l = { s.lane l with cycle := (s.lane l).cycle.map fun c => { c with broken := true } } ∧
        (t.punchOf l).mode = .broken p) ∧
      (¬recording → t.lane l = s.lane l) ∧
      ((s.punchOf l).mode = .queued p → (t.punchOf l).mode = .dry .notSent) ∧
      ((s.punchOf l).mode ≠ .queued p → ¬recording → (t.punchOf l).mode = (s.punchOf l).mode) ∧
      (names → (t.punchOf l).ready = false) ∧ (¬names → (t.punchOf l).ready = (s.punchOf l).ready) := by
  intro recording names
  have hready : ∀ x : Lane × PunchLane, (detachedReady p x).1 = x.1 ∧ (detachedReady p x).2.mode = x.2.mode := fun x => by
    unfold detachedReady
    split <;> exact ⟨rfl, rfl⟩
  obtain ⟨hfirst, hmode⟩ := hready (detachedTake p (s.takeView l))
  obtain ⟨hrouting, hflag⟩ := routing_ready_detachedTake p (s.takeView l)
  rw [← h] at hfirst hmode
  have hlane : t.lane l = (detachedTake p (s.takeView l)).1 := hfirst
  have hpunch : (t.punchOf l).mode = (detachedTake p (s.takeView l)).2.mode := hmode
  have hflags : (t.punchOf l).ready = (detachedReady p (detachedTake p (s.takeView l))).2.ready := by rw [← h]; rfl
  rw [hlane, hpunch, hflags]
  refine ⟨fun ⟨n, hn⟩ => ?_, fun hnot => ?_, fun hq => ?_, fun hq hnot => ?_, fun hnames => ?_, fun hnames => ?_⟩
  · rw [detachedTake_recording (x := s.takeView l) hn]
    exact ⟨rfl, rfl⟩
  · by_cases hq : (s.punchOf l).mode = .queued p
    · rw [detachedTake_queued (x := s.takeView l) hq]
      rfl
    · rw [detachedTake_other (x := s.takeView l) hq hnot]
      rfl
  · rw [detachedTake_queued (x := s.takeView l) hq]
  · rw [detachedTake_other (x := s.takeView l) hq hnot]
    rfl
  · rw [detachedReady, hrouting, if_pos (show (s.takeView l).1.routing.recordPort = some p from hnames)]
  · rw [detachedReady, hrouting, if_neg (show (s.takeView l).1.routing.recordPort ≠ some p from hnames), hflag]
    rfl

/-- Settles O36: the port, the arbiter, the Punch Unit and the Loop Controller at a detach, each by what it leaves; and the
samples. -/
theorem presentAttachesAndDetaches : Obligations.PresentAttachesAndDetaches := by
  unfold Obligations.PresentAttachesAndDetaches
  intro p s hreset x
  refine ⟨fun hx => ⟨?_, ?_⟩, fun hx => ?_, fun hx => ?detach,
    fun v => ⟨fun hv => ?_, fun hv hcount => ?_, fun hv hcount hlevel => ?_⟩⟩
  · rw [exec_portAttach p hreset, attachPort_of_detached hx]
  · rw [exec_portDetach p hreset, detachPort_of_detached hx]
  · rw [exec_portAttach p hreset, attachPort_of_attached hx]
  case detach =>
    intro names recording
    refine ⟨_, by rw [exec_portDetach p hreset, detachPort_of_attached hx], touches_detach p s, port_detach p s, fun hp hw => ?_,
      fun w ws hp hw => ?_, fun hp => ?_, fun hp hchanged => ?_, fun h => ?_, fun l => detachedLane_cases (takeView_detach p s l),
      fun g => loop_detach_carried, loop_detach_other, ?_⟩
    · rw [grant_detach]
      exact grantDetach_grant_nil hp hw
    · rw [grant_detach]
      exact grantDetach_grant_cons hp hw
    · rw [grant_detach, grantDetach_of_not_holder (s := s.emptied p) hp]
      rfl
    · rw [table_detach]
      exact grantDetach_table_of_changed hp hchanged
    · rw [table_detach]
      exact grantDetach_table_of_not h
    · rw [port_detach]
      exact ports_detach p s
  · rw [exec_presentSample p v hreset, samplePresent_agrees hv]
  · rw [exec_presentSample p v hreset, samplePresent_counts hv hcount]
  · rw [exec_presentSample p v hreset, samplePresent_accepts hv hcount]
    cases v with
    | high =>
      have hdetached : x.attached = false := by
        rw [← Bool.not_eq_true, hlevel]
        exact Ne.symm hv
      rw [acceptPresent_high hdetached]
      exact (exec_portAttach p hreset).symm
    | low =>
      have hattached : x.attached = true := by
        rw [hlevel]
        cases hx : x.presentLevel with
        | low => exact absurd hx.symm hv
        | high => rfl
      rw [acceptPresent_low hattached]
      exact (exec_portDetach p hreset).symm

end Sys2Proof.Machine
end

section
/-! ## What a request leaves alone

Every request but SET PARAMETERS leaves the tracker, the parameters, the event offered, RESET, the straps and the queue alone. -/

namespace Sys2Proof.Machine

set_option Elab.async false

/-- The parts a request other than SET PARAMETERS may change. -/
def requestParts : List Part :=
  [.table, .grant, .lanes, .handoffs, .marks, .punch, .links, .loop, .journal, .lines, .ports]

/-- An edit of the table writes records and the holder's change flag (R12). -/
theorem touches_edited (rs : List CueRecord) (s : State) : TouchesOnly [.table, .grant] s (edited rs s) :=
  (touches_setRecords s rs).andThen (touches_setChanged _)

theorem touches_setInputFrom (i : LineId) (b : List Byte) (s : State) : TouchesOnly [.lines] s (setInputFrom i b s).1 := by
  unfold setInputFrom
  split
  · split
    · exact touches_setInputLine _ _ _ _ _ s
    · exact .refl _ s
  · exact .refl _ s

theorem touches_setOutputFrom (o : LineId) (b : List Byte) (s : State) : TouchesOnly [.lines] s (setOutputFrom o b s).1 := by
  unfold setOutputFrom
  split
  · split
    · exact touches_setOutputLine _ _ _ _ s
    · exact .refl _ s
  · exact .refl _ s

theorem touches_amendFound (old c : CueRecord) (s : State) : TouchesOnly [.table, .grant] s (amendFound old c s).1 := by
  unfold amendFound
  split
  · exact .refl _ s
  · split
    · exact .refl _ s
    · split
      · exact .refl _ s
      · exact touches_edited _ s

/-- Every kind's block but that of SET PARAMETERS leaves all other parts alone. -/
theorem touches_block {k : Request} (hk : k ≠ .setParameters) (p : PortId) (body : List Byte) (s : State) :
    TouchesOnly requestParts s (k.block p body s).1 := by
  cases k with
  | setParameters => exact absurd rfl hk
  | identify | readParameters | tableStatus | trackerStatus | readJournal | readLines => exact .refl _ s
  | portStatus | readProfile | readLane | readLoop =>
    dsimp only [Request.block, answerPortStatus, answerReadProfile, answerReadLane, answerReadLoop]
    split <;> exact .refl _ s
  | readCue =>
    dsimp only [Request.block, answerReadCue]
    split
    · exact .refl _ s
    · split <;> exact .refl _ s
  | nextCue =>
    dsimp only [Request.block, answerNextCue]
    split <;> exact .refl _ s
  | configurePort =>
    dsimp only [Request.block, answerConfigurePort]
    split
    · split
      · exact .refl _ s
      · exact (touches_writeSettings p _ _ s).mono (by decide)
    · exact .refl _ s
  | fetchNotices => exact (touches_setPort s p _).mono (by decide)
  | requestGrant =>
    dsimp only [Request.block, answerRequestGrant]
    split
    · exact (touches_giveAtOnce p s).mono (by decide)
    · split
      · exact .refl _ s
      · split
        · exact .refl _ s
        · exact (touches_grant s _).mono (by decide)
  | releaseGrant =>
    dsimp only [Request.block, answerReleaseGrant]
    split
    · exact (touches_releaseByHolder p s).mono (by decide)
    · split
      · exact (touches_grant s _).mono (by decide)
      · exact .refl _ s
  | insertCue =>
    dsimp only [Request.block, answerInsert]
    split
    · exact .refl _ s
    · split
      · exact .refl _ s
      · split
        · exact .refl _ s
        · split
          · exact .refl _ s
          · exact (touches_edited _ s).mono (by decide)
  | amendCue =>
    dsimp only [Request.block, answerAmend]
    split
    · exact .refl _ s
    · split
      · exact .refl _ s
      · exact (touches_amendFound _ _ s).mono (by decide)
  | deleteCue =>
    dsimp only [Request.block, answerDelete]
    split
    · exact .refl _ s
    · split
      · exact .refl _ s
      · split
        · exact .refl _ s
        · exact (touches_edited _ s).mono (by decide)
  | holdCue =>
    dsimp only [Request.block, answerHold]
    split
    · exact .refl _ s
    · split
      · exact .refl _ s
      · split
        · exact .refl _ s
        · exact (touches_edited _ s).mono (by decide)
  | clearTable =>
    dsimp only [Request.block, answerClearTable]
    split
    · exact (touches_edited _ s).mono (by decide)
    · exact .refl _ s
  | setProfile =>
    dsimp only [Request.block, answerSetProfile]
    split
    · split
      · exact (touches_table s _).mono (by decide)
      · exact .refl _ s
    · exact .refl _ s
  | setLane =>
    dsimp only [Request.block, answerSetLane]
    split
    · split
      · exact (touches_writeRouting _ _ s).mono (by decide)
      · exact .refl _ s
    · exact .refl _ s
  | enableLane =>
    dsimp only [Request.block, answerEnable]
    split
    · exact .refl _ s
    · exact (touches_laneEnable _ s).mono (by decide)
  | disableLane =>
    dsimp only [Request.block, answerDisable]
    split
    · exact .refl _ s
    · exact (touches_laneDisable _ s).mono (by decide)
  | cancelLane =>
    dsimp only [Request.block, answerCancel]
    split
    · exact .refl _ s
    · exact (touches_laneCancel _ s).mono (by decide)
  | clearStage => exact (touches_clearStage s).mono (by decide)
  | ready =>
    dsimp only [Request.block, answerReady]
    split
    · split
      · exact (touches_setPunch s _ _).mono (by decide)
      · exact .refl _ s
    · exact .refl _ s
  | tally =>
    dsimp only [Request.block, answerTally]
    split
    · exact .refl _ s
    · exact (touches_tallyLane p _ s).mono (by decide)
  | reconfirm => exact (touches_setLink s p _).mono (by decide)
  | startLoop =>
    dsimp only [Request.block, answerStartLoop]
    split
    · exact .refl _ s
    · exact (touches_startLoop _ s).mono (by decide)
  | stopLoop =>
    dsimp only [Request.block, answerStopLoop, stopGroup]
    split
    · exact .refl _ s
    · split
      · exact (touches_loopStopActive _ s).mono (by decide)
      · exact .refl _ s
  | circleTake =>
    dsimp only [Request.block, answerCircle]
    split
    · exact .refl _ s
    · split
      · exact .refl _ s
      · exact (touches_circle _ _ s).mono (by decide)
  | uncircleTake =>
    dsimp only [Request.block, answerUncircle]
    split
    · exact .refl _ s
    · split
      · exact .refl _ s
      · exact (touches_uncircle _ _ s).mono (by decide)
  | trimJournal =>
    dsimp only [Request.block, answerTrim]
    split
    · exact .refl _ s
    · exact (touches_setEntries s _).mono (by decide)
    · exact (touches_journal s _).andThen (touches_setRecords _ _)
  | setLine =>
    dsimp only [Request.block, answerSetLine]
    split
    · exact .refl _ s
    · exact (touches_setInputFrom _ body s).mono (by decide)
    · exact (touches_setOutputFrom _ body s).mono (by decide)

/-- SET PARAMETERS writes values in their ranges that the freewheel count does not pass, or leaves the state as it is (R62, R63,
R185). -/
theorem answerSetParameters_cases (b : List Byte) (s : State) :
    (answerSetParameters b s).1 = s ∨
      (ParamsInRange b ∧ ¬s.paramsBusy (paramsIn b) = true ∧ (answerSetParameters b s).1 = { s with params := paramsIn b }) := by
  by_cases hrange : ParamsInRange b
  · by_cases hbusy : s.paramsBusy (paramsIn b) = true
    · exact .inl (by rw [answerSetParameters_busy hrange hbusy])
    · exact .inr ⟨hrange, hbusy, by rw [answerSetParameters_writes hrange hbusy]⟩
  · exact .inl (by rw [answerSetParameters_range hrange])

/-- A property that reads neither the ports nor the grant and that the block keeps is kept by the whole request. -/
theorem takeRequest_keeps {P : State → Prop} (hports : ∀ {s t : State}, TouchesOnly [.grant, .ports] s t → P s → P t)
    (k : Request) (p : PortId) (body : List Byte) {block : State → State × Reply} (hblock : ∀ {s : State}, P s → P (block s).1)
    {s : State} (h : P s) : P (takeRequest p k body block s) := by
  by_cases hcan : s.canTake p k body
  · rw [takeRequest_of_canTake _ hcan]
    have hdrop : P (s.dropItem p) := hports ((touches_setPort s p _).mono (by decide)) h
    have hjudge : P (judge p k body block (s.dropItem p)).1 := by
      unfold judge
      split
      · exact hdrop
      · split
        · exact hdrop
        · split
          · exact hdrop
          · exact hblock hdrop
    exact hports ((touches_restartIdle p _).mono (by decide)) (hports ((touches_setPort _ p _).mono (by decide)) hjudge)
  · rwa [takeRequest_of_not_canTake _ hcan]

end Sys2Proof.Machine
end

section
/-! ## The Position Tracker's items and its state (O53)

`Tracker.wf` is proved of each way the tracker moves (R42 to R54): it follows a word into a state that is neither IDLE nor
FREEWHEEL, goes to IDLE, or freewheels by a frame. -/

namespace Sys2Proof.Machine

set_option Elab.async false

/-! ### Positions and counters -/

theorem satInc_le {n : Nat} (h : n ≤ 65535) : satInc n ≤ 65535 := by
  unfold satInc
  split <;> omega

theorem Params.wf.lockCount_le {x : Params} (h : x.wf) : x.lockCount ≤ 15 := by
  obtain ⟨-, -, hlock, -⟩ := h
  exact hlock

/-- A word that is read lies in its ranges (R42). -/
theorem position_wf_of_wordOf {b : List Byte} {w : PositionWord} (h : wordOf b = some w) : w.position.wf := by
  unfold wordOf at h
  split at h
  · next hrange =>
    obtain ⟨-, hlow, hhigh, hframe⟩ := hrange
    obtain ⟨m, -, rfl⟩ := Option.map_eq_some_iff.mp h
    exact ⟨hlow, hhigh, hframe⟩
  · cases h

/-! ### The ways the tracker moves -/

section
variable {t : Tracker} {x : Params} {w : PositionWord} (h : t.wf x) (hw : w.position.wf)
include h

theorem Tracker.wf.run_eq_zero (hm : t.mode ≠ .acquiring) : t.run = 0 := by
  obtain ⟨-, -, -, hrun, -⟩ := h
  exact hrun.mpr hm

theorem Tracker.wf.freewheel_eq_zero (hm : t.mode ≠ .freewheel) : t.freewheel = 0 := by
  obtain ⟨-, -, -, -, -, hfree, -⟩ := h
  exact hfree.mpr hm

theorem Tracker.wf.jumps_le : t.jumps ≤ 65535 := by
  obtain ⟨-, -, -, -, -, -, -, -, -, -, -, hjumps, -⟩ := h
  exact hjumps

theorem Tracker.wf.losses_le : t.losses ≤ 65535 := by
  obtain ⟨-, -, -, -, -, -, -, -, -, -, -, -, hlosses⟩ := h
  exact hlosses

include hw in
/-- A word followed into a state that is neither IDLE nor FREEWHEEL (R45 to R51). -/
theorem Tracker.wf.follow (rate : Nat) {m : TrackerMode} {r j : Nat} (hidle : m ≠ .idle) (hfree : m ≠ .freewheel)
    (hrun : r = 0 ↔ m ≠ .acquiring) (hr : r ≤ 15) (hj : j ≤ 65535) :
    ({ t.follow rate w with mode := m, run := r, jumps := j } : Tracker).wf x := by
  obtain ⟨-, -, -, -, -, -, -, -, -, hwords, hbad, -, hlosses⟩ := h
  have hwords' := satInc_le hwords
  simp [Tracker.wf, Tracker.follow, Timer.isRunning, *]

/-- Into IDLE (R53, R54). -/
theorem Tracker.wf.toIdle {n : Nat} (hn : n ≤ 65535) : ({ t.toIdle with losses := n } : Tracker).wf x := by
  obtain ⟨-, -, -, -, -, -, -, -, -, hwords, hbad, hjumps, -⟩ := h
  simp [Tracker.wf, Tracker.toIdle, Timer.isRunning, *]

theorem Tracker.wf.runOut : t.runOut.tracker.wf x := h.toIdle (satInc_le h.losses_le)

/-- A frame more in freewheel, while the count is below the limit and the reel has a frame more (R53, R54). -/
theorem Tracker.wf.freewheelTo {q : Position} (c : Option TrackerCause) (hq : t.position = some q)
    (hm : t.mode ≠ .acquiring) (hlimit : t.freewheel < x.freewheelLimit) (hframe : q.frame < Config.lastFrame) :
    (t.freewheelTo x q c).tracker.wf x := by
  have hrun := h.run_eq_zero hm
  obtain ⟨hpos, hmotion, hwf, -, -, -, -, -, -, hcounters⟩ := h
  obtain ⟨hlow, hhigh, -⟩ := hwf q (Option.mem_def.mpr hq)
  have hidle : t.mode ≠ .idle := fun e => by
    rw [hq] at hpos
    exact absurd (hpos.mpr e) (by simp)
  have hmotion' : t.motion.isNone = false := by
    rw [← Bool.not_eq_true, hmotion]
    exact hidle
  have hq' : ({ q with frame := q.frame + 1 } : Position).wf := ⟨hlow, hhigh, hframe⟩
  simp [Tracker.wf, Tracker.freewheelTo, Timer.isRunning, *]

/-! ### Words -/

section
include hw

theorem Tracker.wf.onParking (rate : Nat) {m : TrackerMode} (c : TrackerCause) (hm : m = .parked ∨ m = .scanning) :
    (t.onParking rate w m c).tracker.wf x := by
  rcases hm with rfl | rfl
  all_goals exact h.follow hw rate (by simp) (by simp) (by simp) (Nat.zero_le _) h.jumps_le

theorem Tracker.wf.startRun (rate : Nat) : (t.startRun rate w).tracker.wf x :=
  h.follow hw rate (by simp) (by simp) (by simp) (by omega) h.jumps_le

theorem Tracker.wf.breakRoll (rate : Nat) (c : TrackerCause) : (t.breakRoll rate w c).tracker.wf x :=
  h.follow hw rate (by simp) (by simp) (by simp) (by omega) (satInc_le h.jumps_le)

/-- The run stays below the lock count, and so within 15 (R43, R46). -/
theorem Tracker.wf.onRun (hlock : x.lockCount ≤ 15) (hm : t.mode = .acquiring) : (t.onRun x w).tracker.wf x := by
  have hrun {r : Nat} (h0 : r ≠ 0) (h15 : r ≤ 15) : ({ t.follow x.frameRate w with run := r } : Tracker).wf x := by
    have hwf := h.follow hw x.frameRate (m := .acquiring) (by simp) (by simp) (by simpa using h0) h15 h.jumps_le
    rwa [← hm] at hwf
  unfold Tracker.onRun
  dsimp only
  split
  · split
    · exact h.follow hw _ (by simp) (by simp) (by simp) (Nat.zero_le _) h.jumps_le
    · exact hrun (Nat.succ_ne_zero _) (by omega)
  all_goals exact hrun Nat.one_ne_zero (by omega)

theorem Tracker.wf.onLocked (hm : t.mode = .locked) : (t.onLocked x w).tracker.wf x := by
  have hrun := h.run_eq_zero (by simp [hm])
  unfold Tracker.onLocked
  split
  · have hwf := h.follow hw x.frameRate (m := .locked) (by simp) (by simp) (by simp) (Nat.zero_le _) h.jumps_le
    rwa [← hm, ← hrun] at hwf
  all_goals exact h.breakRoll hw _ _

theorem Tracker.wf.onFreewheel (hm : t.mode = .freewheel) : (t.onFreewheel x w).tracker.wf x := by
  have hrun := h.run_eq_zero (by simp [hm])
  have hlocked : ({ t.follow x.frameRate w with mode := .locked } : Tracker).wf x := by
    have hwf := h.follow hw x.frameRate (m := .locked) (by simp) (by simp) (by simp) (Nat.zero_le _) h.jumps_le
    rwa [← hrun] at hwf
  unfold Tracker.onFreewheel
  split
  · exact hlocked
  · exact hlocked
  all_goals exact h.breakRoll hw _ _

theorem Tracker.wf.onPlay (hlock : x.lockCount ≤ 15) : (t.onPlay x w).tracker.wf x := by
  unfold Tracker.onPlay
  split
  · exact h.startRun hw _
  · next hm => exact h.onRun hw hlock hm
  · next hm => exact h.onLocked hw hm
  · next hm => exact h.onFreewheel hw hm
  · exact h.startRun hw _
  · exact h.startRun hw _

theorem Tracker.wf.onWord (hlock : x.lockCount ≤ 15) : (t.onWord x w).tracker.wf x := by
  unfold Tracker.onWord
  split
  · exact h.onPlay hw hlock
  · exact h.onParking hw _ _ (.inl rfl)
  all_goals exact h.onParking hw _ _ (.inr rfl)

end

/-! ### Expiries -/

theorem Tracker.wf.lockedExpiry (hm : t.mode = .locked) : (t.lockedExpiry x).tracker.wf x := by
  unfold Tracker.lockedExpiry
  split
  · exact h.runOut
  · next hq =>
    split
    · next hgo =>
      have hfree := h.freewheel_eq_zero (by simp [hm])
      exact h.freewheelTo _ hq (by simp [hm]) (by omega) hgo.2
    · exact h.runOut

theorem Tracker.wf.onWaitExpiry : (t.onWaitExpiry x).tracker.wf x := by
  unfold Tracker.onWaitExpiry
  split
  · exact h
  · exact h.toIdle h.losses_le
  · next hm => exact h.lockedExpiry hm
  · exact h
  all_goals exact h.toIdle h.losses_le

theorem Tracker.wf.onStepExpiry : (t.onStepExpiry x).tracker.wf x := by
  unfold Tracker.onStepExpiry
  split
  · next hm =>
    unfold Tracker.freewheelStep
    split
    · exact h.runOut
    · next hq =>
      split
      · next hgo => exact h.freewheelTo _ hq (by simp [hm]) hgo.1 hgo.2
      · exact h.runOut
  all_goals exact h

end

/-! ### Operations of a step -/

theorem trackerInv_of_touches {xs : List Part} {s t : State} (ht : TouchesOnly xs s t) (h : s.trackerInv)
    (hparams : Part.params ∉ xs := by decide) (htracker : Part.tracker ∉ xs := by decide) : t.trackerInv := by
  have hp : t.params = s.params := ht .params hparams
  have hr : t.tracker = s.tracker := ht .tracker htracker
  unfold State.trackerInv
  rwa [hp, hr]

theorem tracker_trackerChange (x : TrackerStep) (s : State) : (trackerChange x s).tracker = x.tracker := by
  unfold trackerChange
  split <;> rfl

theorem tracker_trackerApply (x : TrackerStep) (s : State) : (trackerApply x s).tracker = x.tracker := by
  unfold trackerApply
  split <;> exact tracker_trackerChange x _

theorem trackerInv_trackerApply {x : TrackerStep} {s : State} (hs : s.params.wf) (hx : x.tracker.wf s.params) :
    (trackerApply x s).trackerInv := by
  have hp : (trackerApply x s).params = s.params := touches_trackerApply x s .params (by decide)
  unfold State.trackerInv
  rw [hp, tracker_trackerApply]
  exact ⟨hs, hx⟩

/-- Of the receiver the invariant reads nothing, and of the bad words that they are a counter. -/
theorem trackerInv_receiver {s : State} (r : Option (List Byte)) {n : Nat} (hn : n ≤ 65535) (h : s.trackerInv) :
    State.trackerInv { s with tracker := { s.tracker with receiver := r, badWords := n } } := by
  obtain ⟨hx, hpos, hmotion, hq, hrun, hrun15, hfree, hlimit, hstep, hwait, hwords, -, hjumps, hlosses⟩ := h
  exact ⟨hx, hpos, hmotion, hq, hrun, hrun15, hfree, hlimit, hstep, hwait, hwords, hn, hjumps, hlosses⟩

theorem badWords_le {s : State} (h : s.trackerInv) : s.tracker.badWords ≤ 65535 := by
  obtain ⟨-, -, -, -, -, -, -, -, -, -, -, hbad, -, -⟩ := h
  exact hbad

theorem trackerInv_setReceiver {s : State} (r : Option (List Byte)) (h : s.trackerInv) : (s.setReceiver r).trackerInv :=
  trackerInv_receiver r (badWords_le h) h

theorem trackerInv_countBadWord {s : State} (h : s.trackerInv) : (countBadWord s).trackerInv :=
  trackerInv_receiver _ (satInc_le (badWords_le h)) h

theorem trackerInv_takeWord {s : State} (body : List Byte) (h : s.trackerInv) : (takeWord body s).trackerInv := by
  unfold takeWord
  split
  · exact trackerInv_countBadWord h
  · next hword =>
    obtain ⟨hparams, htracker⟩ := h
    exact trackerInv_trackerApply hparams (htracker.onWord (position_wf_of_wordOf hword) hparams.lockCount_le)

theorem trackerInv_posinByte {s : State} (b : Byte) (h : s.trackerInv) : (posinByte s b).trackerInv := by
  unfold posinByte
  split
  · split
    · exact trackerInv_setReceiver _ h
    · exact h
  · split
    · exact trackerInv_setReceiver _ h
    · exact trackerInv_takeWord _ (trackerInv_setReceiver _ h)

theorem trackerInv_abandonWord {s : State} (h : s.trackerInv) : (abandonWord s).trackerInv := by
  unfold abandonWord
  split
  · exact h
  · exact trackerInv_countBadWord (trackerInv_setReceiver _ h)

theorem trackerInv_waitExpiry {s : State} (h : s.trackerInv) : (waitExpiry s).trackerInv := by
  unfold waitExpiry
  split
  · exact trackerInv_trackerApply h.1 h.2.onWaitExpiry
  · exact h

theorem trackerInv_stepExpiry {s : State} (h : s.trackerInv) : (stepExpiry s).trackerInv := by
  unfold stepExpiry
  split
  · exact trackerInv_trackerApply h.1 h.2.onStepExpiry
  · exact h

/-- A millisecond counts the tracker's timers down but stops and starts none. -/
theorem trackerInv_countDown {s : State} (h : s.trackerInv) : (countDown s).trackerInv := by
  unfold State.trackerInv Tracker.wf at *
  simpa only [countDown, isRunning_tick] using h

/-! ### SET PARAMETERS and the other requests (R62, R63, R185) -/

theorem wf_paramsIn {b : List Byte} (h : ParamsInRange b) : (paramsIn b).wf := by
  unfold ParamsInRange at h
  rw [← isFrameRate_iff] at h
  obtain ⟨hrate, hlock, hlock15, hfree, htally, htally128, hmiss, hgrant, hgrant60, hlocate, hlocate30⟩ := h
  exact ⟨hrate, hlock, hlock15, hfree, htally, htally128, hmiss, hgrant, hgrant60, hlocate, hlocate30,
    Nat.le_of_lt_succ (byteAt_lt b 7)⟩

/-- New parameters that do not disturb what runs keep the freewheel count within the limit (R62). -/
theorem Tracker.wf.of_not_busy {s : State} {x : Params} (h : s.tracker.wf s.params) (hbusy : ¬s.paramsBusy x = true) :
    s.tracker.wf x := by
  rw [paramsBusy_iff, not_or, not_and, Nat.not_lt] at hbusy
  have hlimit : s.tracker.freewheel ≤ x.freewheelLimit := by
    by_cases hm : s.tracker.mode = .freewheel
    · exact hbusy.1 hm
    · rw [h.freewheel_eq_zero hm]
      exact Nat.zero_le _
  obtain ⟨hpos, hmotion, hq, hrun, hrun15, hfree, -, hrest⟩ := h
  exact ⟨hpos, hmotion, hq, hrun, hrun15, hfree, hlimit, hrest⟩

theorem trackerInv_answerSetParameters {s : State} (body : List Byte) (h : s.trackerInv) :
    (answerSetParameters body s).1.trackerInv := by
  rcases answerSetParameters_cases body s with he | ⟨hrange, hbusy, he⟩
  · rwa [he]
  · rw [he]
    exact ⟨wf_paramsIn hrange, h.2.of_not_busy hbusy⟩

theorem trackerInv_block (k : Request) (p : PortId) (body : List Byte) {s : State} (h : s.trackerInv) :
    (k.block p body s).1.trackerInv := by
  by_cases hk : k = .setParameters
  · subst hk
    exact trackerInv_answerSetParameters body h
  · exact trackerInv_of_touches (touches_block hk p body s) h

/-! ### The step -/

/-- Every operation of a step keeps the tracker and the parameters in their ranges. -/
theorem kept_trackerInv : Kept State.trackerInv where
  reset := trackerInv_deviceReset
  pending _ h := h
  countDown := trackerInv_countDown
  request k p body := takeRequest_keeps (fun ht h => trackerInv_of_touches ht h) k p body (trackerInv_block k p body)
  posinByte := trackerInv_posinByte
  abandonWord := trackerInv_abandonWord
  waitExpiry := trackerInv_waitExpiry
  stepExpiry := trackerInv_stepExpiry
  idleExpiry := trackerInv_of_touches (touches_idleExpiry _)
  locateExpiry := trackerInv_of_touches (touches_locateExpiry _)
  laneTakesAdvance l := trackerInv_of_touches (touches_laneTakesAdvance l _)
  laneTakesLost l := trackerInv_of_touches (touches_laneTakesLost l _)
  punchTakesAdvance := trackerInv_of_touches (touches_punchTakesAdvance _)
  takeStartHandoff l := trackerInv_of_touches (touches_takeStartHandoff l _)
  takeEndHandoff l := trackerInv_of_touches (touches_takeEndHandoff l _)
  marksTakeAdvance := trackerInv_of_touches (touches_marksTakeAdvance _)
  sendOverlayWord := trackerInv_of_touches (touches_sendOverlayWord _)
  loopTakesAdvance := trackerInv_of_touches (touches_loopTakesAdvance _)
  loopTakesLock := trackerInv_of_touches (touches_loopTakesLock _)
  loopTakesLost := trackerInv_of_touches (touches_loopTakesLost _)
  acceptChange i := trackerInv_of_touches (touches_acceptChange i _)
  sampleInput i v := trackerInv_of_touches (touches_sampleInput i v _)
  attachPort p := trackerInv_of_touches (touches_attachPort p _)
  detachPort p := trackerInv_of_touches (touches_detachPort p _)
  samplePresent p v := trackerInv_of_touches (touches_samplePresent p v _)
  hearAll p cs := trackerInv_of_touches (touches_hearAll p cs _)
  silence p := trackerInv_of_touches (touches_setPort _ p _)
  takeFrameError p := trackerInv_of_touches (touches_takeFrameError p _)
  takeUnknown p kind body := trackerInv_of_touches (touches_takeUnknown p kind body _)
  transmitNext p := trackerInv_of_touches (touches_transmitNext p _)
  transmitEnd p := trackerInv_of_touches (touches_transmitEnd p _)

/-- Settles O53: each operation of a step keeps the invariant. -/
theorem stepKeepsTheTracker : Obligations.StepKeepsTheTracker := by
  unfold Obligations.StepKeepsTheTracker
  exact fun _ _ => kept_trackerInv.step

end Sys2Proof.Machine
end

section
/-! ## RESET_ASSERT (O4) -/

namespace Sys2Proof.Machine

set_option Elab.async false

/-- After device reset no lane has a pip, so no tone line sounds (R99, R111). -/
theorem deviceReset_toneSounding (held : Bool) (x : Straps) (queue : List Instr) (t : ToneId) :
    (State.deviceReset held x queue).toneSounding t = false := by
  have hpip : ∀ l, (State.deviceReset held x queue).pipOn t l = false := fun l => by
    unfold State.pipOn
    rw [deviceReset_markLane]
    rfl
  simp [State.toneSounding, hpip]

/-- No request is taken while RESET is held (R186). -/
theorem takeRequest_of_held {s : State} (h : s.resetHeld = true) (p : PortId) (k : Request) (body : List Byte)
    (block : State → State × Reply) : takeRequest p k body block s = s :=
  takeRequest_of_not_canTake block fun hcan => by simp [hcan.1] at h

/-- While RESET is held no command but RESET_ASSERT and RESET_RELEASE changes anything: the other events are live ones, and the
requests are not taken. -/
theorem exec_of_held {c : Instr} {s : State} (h : s.resetHeld = true) (hassert : c ≠ .resetAssert)
    (hrelease : ∀ o2 o1 o0 : Level, c ≠ .resetRelease o2 o1 o0) : exec c s = .next s := by
  cases c with
  | resetAssert => exact absurd rfl hassert
  | resetRelease o2 o1 o0 => exact absurd rfl (hrelease o2 o1 o0)
  | positionWord bytes => exact live_of_held (f := fun t => bytes.foldl posinByte t) h
  | wordGapTimeout bytes | wordByteWithoutStopBit bytes =>
    exact live_of_held (f := fun t => abandonWord (bytes.foldl posinByte t)) h
  | interByteTimeout p bytes =>
    exact live_of_held
      (f := fun t => (hearAll p (bytes.map wholeByte) t).setPort p ((hearAll p (bytes.map wholeByte) t).port p).silence) h
  | wordWaitExpiry | freewheelStepExpiry | lanePositionAdvance
  | laneRollLost | punchPositionAdvance | markStartHandoff | markEndHandoff | markPositionAdvance | overlayWord
  | loopPositionAdvance | loopLockEntry | loopRollLost | locateTimerExpiry | grantIdleExpiry | inputLineChange | inputSample
  | portAttach | portDetach | presentSample | receiveFrame | frameError | unknownKind | transmitTake
  | transmitComplete => exact live_of_held h
  | identify | portStatus | configurePort | fetchNotices | setParameters | readParameters | requestGrant | releaseGrant
  | tableStatus | insertCue | amendCue | deleteCue | holdCue | clearTable | readCue | nextCue | setProfile | readProfile
  | setLane | readLane | enableLane | disableLane | cancelLane | clearStage | trackerStatus | ready | tally | reconfirm
  | startLoop | stopLoop | readLoop | readJournal | circleTake | uncircleTake | trimJournal | setLine | readLines =>
    exact congrArg Host.Outcome.next (takeRequest_of_held h _ _ _ _)

/-- Settles O4: RESET_ASSERT is a device reset with RESET held, whose pins, ports, tones and receiver are read off it. -/
theorem resetAssertHoldsThePart : Obligations.ResetAssertHoldsThePart := by
  unfold Obligations.ResetAssertHoldsThePart
  intro s
  refine ⟨⟨State.deviceReset true s.straps s.pending, rfl, rfl, rfl, rfl, fun o => ?pins, fun p => ?ports, rfl,
    deviceReset_toneSounding _ _ _, rfl⟩, fun c h => exec_of_held h, fun o2 o1 o0 h => ?release⟩
  case pins =>
    rw [deviceReset_outputPin]
    simp
  case ports =>
    rw [deviceReset_port]
    exact ⟨rfl, rfl, rfl, rfl, rfl, rfl, rfl⟩
  case release =>
    show Host.Outcome.next (releaseReset _ s) = _
    rw [releaseReset, if_neg (by simp [h])]

end Sys2Proof.Machine
end

section
/-! ## Position words on POSIN (O7, O8) -/

namespace Sys2Proof.Machine

set_option Elab.async false

/-! ### Bad and abandoned words (R41, R42) -/

theorem motionOf_eq_none {n : Nat} (h : 5 < n) : motionOf n = none := by
  obtain ⟨k, rfl⟩ := Nat.exists_eq_add_of_le' h
  rfl

/-- A word whose sum, reel, frame or motion fails its test is bad (R42). -/
theorem wordOf_eq_none {b : List Byte}
    (h : byteSum b ≠ 0 ∨ byteAt b 0 = 0 ∨ 99 < byteAt b 0 ∨ 1048575 < frameAt b 1 ∨ 5 < byteAt b 4) : wordOf b = none := by
  unfold wordOf
  split
  · next hrange =>
    obtain ⟨hsum, hlow, hhigh, hframe⟩ := hrange
    unfold Config.lastFrame at hframe
    have hmotion : 5 < byteAt b 4 := by
      rcases h with h | h | h | h | h
      · exact absurd hsum h
      all_goals omega
    rw [motionOf_eq_none hmotion]
    rfl
  · rfl

theorem takeWord_bad {b : List Byte} (h : wordOf b = none) (s : State) : takeWord b s = countBadWord s := by
  unfold takeWord
  rw [h]

theorem abandonWord_hunting {s : State} (h : s.tracker.receiver = none) : abandonWord s = s := by
  unfold abandonWord
  rw [h]

theorem abandonWord_inWord {s : State} {r : List Byte} (h : s.tracker.receiver = some r) :
    abandonWord s = countBadWord (s.setReceiver none) := by
  unfold abandonWord
  rw [h]

theorem setReceiver_twice (s : State) (r q : Option (List Byte)) : (s.setReceiver r).setReceiver q = s.setReceiver q := rfl

theorem setReceiver_self {s : State} {r : Option (List Byte)} (h : s.tracker.receiver = r) : s.setReceiver r = s := by
  subst h
  rfl

/-- A word in progress that is abandoned is counted, and the receiver hunts as before it (R41). -/
theorem abandonWord_part {b : List Byte} {s : State} (hl : b.length ≤ 5) (hr : s.tracker.receiver = none) :
    abandonWord ((0xC5 :: b).foldl posinByte s) = countBadWord s := by
  rw [foldl_posinByte_part hl hr, abandonWord_inWord (r := b) rfl, setReceiver_twice, setReceiver_self hr]

section
variable {s : State} (h : s.resetHeld = false)
include h

theorem exec_wordGapTimeout (b : List Byte) : exec (.wordGapTimeout b) s = .next (abandonWord (b.foldl posinByte s)) :=
  live_of_released (f := fun t => abandonWord (b.foldl posinByte t)) h

theorem exec_wordByteWithoutStopBit (b : List Byte) :
    exec (.wordByteWithoutStopBit b) s = .next (abandonWord (b.foldl posinByte s)) :=
  live_of_released (f := fun t => abandonWord (b.foldl posinByte t)) h

theorem exec_positionWord_bytes (b : List Byte) : exec (.positionWord b) s = .next (b.foldl posinByte s) :=
  live_of_released (f := fun t => b.foldl posinByte t) h

end

/-- Settles O7: what the receiver makes of a whole word, of a part of one, and of bytes while it hunts. -/
theorem badOrAbandonedWordIsOnlyCounted : Obligations.BadOrAbandonedWordIsOnlyCounted := by
  unfold Obligations.BadOrAbandonedWordIsOnlyCounted
  intro b s hreset counted
  have hcounted : countBadWord s = counted := rfl
  refine ⟨fun hr hl hbad => ?_, fun hr hl => ?_, fun hr hsync => ?_, fun r hr => ?_⟩
  · rw [exec_positionWord_bytes hreset, foldl_posinByte_whole hl hr, takeWord_bad (wordOf_eq_none hbad), hcounted]
  · rw [exec_wordGapTimeout hreset, exec_wordByteWithoutStopBit hreset, abandonWord_part hl hr]
    exact ⟨rfl, rfl⟩
  · rw [exec_wordGapTimeout hreset, exec_wordByteWithoutStopBit hreset, foldl_posinByte_hunting hr hsync, abandonWord_hunting hr]
    exact ⟨rfl, rfl⟩
  · rw [exec_wordGapTimeout hreset, exec_wordByteWithoutStopBit hreset, List.foldl_nil, abandonWord_inWord hr]
    exact ⟨rfl, rfl⟩

/-! ### The bytes of a word (R42, 11.8) -/

theorem motionOf_code (m : Motion) : motionOf m.code = some m := by cases m <;> rfl

theorem motion_code_lt (m : Motion) : m.code < 256 := by cases m <;> decide

/-- The check byte brings the sum to 0 (R42, R176). -/
theorem byteSum_append_check (b : List Byte) : byteSum (b ++ [0 - byteSum b]) = 0 := by
  unfold byteSum
  rw [List.foldl_append]
  simp

/-- A number in its range is read back from its three bytes. -/
theorem frameAt_num3_append {n : Nat} (h : n ≤ 16777215) (rest : List Byte) : frameAt (num3 n ++ rest) 0 = n := by
  show 65536 * (BitVec.ofNat 8 (n / 65536)).toNat + 256 * (BitVec.ofNat 8 (n / 256)).toNat + (BitVec.ofNat 8 n).toNat = n
  rw [BitVec.toNat_ofNat, BitVec.toNat_ofNat, BitVec.toNat_ofNat]
  omega

theorem byteAt_num1_append {n : Nat} (h : n < 256) (rest : List Byte) : byteAt (num1 n ++ rest) 0 = n := byteAt_ofNat h

/-- Settles O8: each field of the word is read back from its place, and the sum is 0 by the check byte. -/
theorem wordBytesReadBack : Obligations.WordBytesReadBack := by
  unfold Obligations.WordBytesReadBack
  intro reel frame m hlow hhigh hframe body
  let word : List Byte := body ++ [0 - byteSum body]
  have hreel : byteAt word 0 = reel := byteAt_num1_append (by omega) _
  have hat : frameAt word 1 = frame := frameAt_num3_append (by omega) (num1 m.code ++ [0 - byteSum body])
  have hmotion : byteAt word 4 = m.code := byteAt_num1_append (motion_code_lt m) [0 - byteSum body]
  have hrange : byteSum word = 0 ∧ 1 ≤ byteAt word 0 ∧ byteAt word 0 ≤ 99 ∧ frameAt word 1 ≤ Config.lastFrame := by
    rw [hreel, hat]
    exact ⟨byteSum_append_check body, hlow, hhigh, hframe⟩
  show wordOf word = _
  rw [wordOf, if_pos hrange, hreel, hat, hmotion, motionOf_code]
  rfl

end Sys2Proof.Machine
end

section
/-! ## Words and expiries at the tracker (O10 to O15) -/

namespace Sys2Proof.Machine

set_option Elab.async false

/-! ### The fit of a word (R48) -/

section
variable {w : PositionWord} {q : Position}

theorem fit_otherReel (h : w.reel ≠ q.reel) : w.fit (some q) = .otherReel := if_pos h

theorem fit_contiguous (hreel : w.reel = q.reel) (hframe : w.frame = q.frame + 1) : w.fit (some q) = .contiguous := by
  simp [PositionWord.fit, hreel, hframe]

theorem contiguous_of_fit (h : w.fit (some q) = .contiguous) : w.reel = q.reel ∧ w.frame = q.frame + 1 := by
  by_cases hreel : w.reel = q.reel
  · refine ⟨hreel, ?_⟩
    by_contra hframe
    by_cases hsame : w.frame = q.frame <;> simp [PositionWord.fit, hreel, hframe, hsame] at h
  · rw [fit_otherReel hreel] at h
    cases h

theorem fit_same (hreel : w.reel = q.reel) (hframe : w.frame = q.frame) : w.fit (some q) = .same := by
  simp [PositionWord.fit, hreel, hframe]

theorem fit_otherFrame (hreel : w.reel = q.reel) (hsame : w.frame ≠ q.frame) (hnext : w.frame ≠ q.frame + 1) :
    w.fit (some q) = .otherFrame := by
  simp [PositionWord.fit, hreel, hsame, hnext]

end

/-! ### Words (R45 to R51) -/

theorem onWord_play {w : PositionWord} (h : w.motion = .playFwd) (t : Tracker) (x : Params) : t.onWord x w = t.onPlay x w := by
  unfold Tracker.onWord
  rw [h]

theorem rolling_iff (m : TrackerMode) : m.rolling = true ↔ m = .locked ∨ m = .freewheel := by
  cases m <;> simp [TrackerMode.rolling]

/-- A word of another motion parks the tracker or makes it scan (R50, R51). -/
theorem onWord_parking {w : PositionWord} (h : w.motion ≠ .playFwd) (t : Tracker) (x : Params) :
    t.onWord x w =
      if w.motion = .still then t.onParking x.frameRate w .parked .still else t.onParking x.frameRate w .scanning .scan := by
  unfold Tracker.onWord
  split
  · next hm => exact absurd hm h
  all_goals next hm => simp [hm]

theorem onPlay_idle {t : Tracker} (h : t.mode = .idle) (x : Params) (w : PositionWord) :
    t.onPlay x w = t.startRun x.frameRate w := by
  unfold Tracker.onPlay
  rw [h]

section
variable {t : Tracker} {rate : Nat} {w : PositionWord} {m : TrackerMode} {c : TrackerCause}

theorem onParking_event_of_idle (h : t.mode = .idle) : (t.onParking rate w m c).event = none := by
  simp [Tracker.onParking, Tracker.lostBy, h, TrackerMode.rolling]

theorem onParking_cause_of_idle (h : t.mode = .idle) (hm : m ≠ .idle) : (t.onParking rate w m c).cause = some c := by
  simp [Tracker.onParking, h, hm.symm]

end

/-- A change with a cause and no event is the notice alone (R59). -/
theorem trackerApply_notice {x : TrackerStep} {c : TrackerCause} (hevent : x.event = none) (hcause : x.cause = some c)
    (s : State) :
    trackerApply x s = post .tracker (.trackerState x.tracker.mode x.tracker.position c) { s with tracker := x.tracker } := by
  unfold trackerApply trackerChange
  rw [hevent, hcause]

/-- Settles O10: in IDLE a word starts a run, parks or scans by its motion, and there is no roll to lose. -/
theorem wordInIdle : Obligations.WordInIdle := by
  unfold Obligations.WordInIdle
  intro b w s hw hm row
  rw [exec_positionWord hw]
  refine congrArg Host.Outcome.next ?_
  obtain ⟨reel, frame, motion⟩ := w
  cases motion with
  | playFwd =>
    rw [onWord_play rfl, onPlay_idle hm]
    exact trackerApply_notice rfl rfl s
  | still =>
    rw [onWord_parking (by simp), if_pos rfl]
    exact trackerApply_notice (onParking_event_of_idle hm) (onParking_cause_of_idle hm (by simp)) s
  | playRev | variFwd | variRev | shuttle =>
    rw [onWord_parking (by simp), if_neg (by simp)]
    exact trackerApply_notice (onParking_event_of_idle hm) (onParking_cause_of_idle hm (by simp)) s

/-- Settles O11: the fit of the word decides in ACQUIRING; in PARKED and SCANNING every word starts a run. -/
theorem playWordBeforeLock : Obligations.PlayWordBeforeLock := by
  unfold Obligations.PlayWordBeforeLock
  intro b w q s hw hplay hq t contiguous answer
  have hanswer : ∀ y, s.tracker.onPlay s.params w = y → answer y := fun y hy => by
    show exec _ s = _
    rw [exec_positionWord hw, onWord_play hplay, hy]
  have hrun (hm : s.tracker.mode = .acquiring) : s.tracker.onPlay s.params w = s.tracker.onRun s.params w := by
    simp [Tracker.onPlay, hm]
  refine ⟨fun hm hc hlock => hanswer _ ?_, fun hm hc hlock => hanswer _ ?_, fun hm hc => hanswer _ ?_, fun hm => hanswer _ ?_⟩
  · rw [hrun hm, Tracker.onRun, hq, fit_contiguous hc.1 hc.2]
    exact if_pos hlock
  · rw [hrun hm, Tracker.onRun, hq, fit_contiguous hc.1 hc.2]
    exact if_neg (Nat.not_le.mpr hlock)
  · rw [hrun hm, Tracker.onRun, hq]
    cases hfit : w.fit (some q) with
    | contiguous => exact absurd (contiguous_of_fit hfit) hc
    | same | otherFrame | otherReel => rfl
  · rcases hm with hm | hm <;> simp [Tracker.onPlay, hm, Tracker.startRun, t]

/-- Settles O12: the fit of the word decides in LOCKED and FREEWHEEL. -/
theorem playWordWhileRolling : Obligations.PlayWordWhileRolling := by
  unfold Obligations.PlayWordWhileRolling
  intro b w q s hw hplay hq t answer breaks
  have hanswer : ∀ y, s.tracker.onPlay s.params w = y → answer y := fun y hy => by
    show exec _ s = _
    rw [exec_positionWord hw, onWord_play hplay, hy]
  have hlocked (hm : s.tracker.mode = .locked) : s.tracker.onPlay s.params w = s.tracker.onLocked s.params w := by
    simp [Tracker.onPlay, hm]
  have hfree (hm : s.tracker.mode = .freewheel) : s.tracker.onPlay s.params w = s.tracker.onFreewheel s.params w := by
    simp [Tracker.onPlay, hm]
  refine ⟨fun hm => ⟨fun hreel => hanswer _ ?_, fun hreel hsame hnext => hanswer _ ?_⟩,
    fun hm hreel => ⟨fun hsame => hanswer _ ?_, fun hnext => hanswer _ ?_⟩,
    fun hm hreel => ⟨fun hsame => hanswer _ ?_, fun hnext => hanswer _ ?_⟩⟩
  · rcases hm with hm | hm
    · rw [hlocked hm, Tracker.onLocked, hq, fit_otherReel hreel]; rfl
    · rw [hfree hm, Tracker.onFreewheel, hq, fit_otherReel hreel]; rfl
  · rcases hm with hm | hm
    · rw [hlocked hm, Tracker.onLocked, hq, fit_otherFrame hreel hsame hnext]; rfl
    · rw [hfree hm, Tracker.onFreewheel, hq, fit_otherFrame hreel hsame hnext]; rfl
  · rw [hlocked hm, Tracker.onLocked, hq, fit_same hreel hsame]; rfl
  · rw [hlocked hm, Tracker.onLocked, hq, fit_contiguous hreel hnext]
  · rw [hfree hm, Tracker.onFreewheel, hq, fit_same hreel hsame]; rfl
  · rw [hfree hm, Tracker.onFreewheel, hq, fit_contiguous hreel hnext]

theorem onParking_eq (t : Tracker) (rate : Nat) (w : PositionWord) (m : TrackerMode) (c : TrackerCause) :
    t.onParking rate w m c =
      { tracker := { t.follow rate w with mode := m, run := 0 }
        cause := if t.mode = m then none else some c
        event :=
          if t.mode = .locked ∨ t.mode = .freewheel then
            some (.lost { cause := c, mode := m, position := some { reel := w.reel, frame := w.frame } })
          else none } := by
  simp only [Tracker.onParking, Tracker.lostBy, rolling_iff]
  rfl

/-- Settles O13: every word that is not PLAY_FWD parks or scans, by its motion. -/
theorem stillAndScanningWords : Obligations.StillAndScanningWords := by
  unfold Obligations.StillAndScanningWords
  intro b w s hw hmotion row
  rw [exec_positionWord hw, onWord_parking hmotion]
  by_cases hstill : w.motion = .still
  · rw [if_pos hstill, onParking_eq]
    simp only [row, if_pos hstill]
  · rw [if_neg hstill, onParking_eq]
    simp only [row, if_neg hstill]

/-! ### Expiries (R53, R54) -/

section
variable {s : State} (h : s.resetHeld = false)
include h

theorem exec_wordWaitExpiry_running (hr : s.tracker.wordWait.isRunning = true) :
    exec .wordWaitExpiry s = .next (trackerApply (s.tracker.onWaitExpiry s.params) s) :=
  (live_of_released h).trans (congrArg _ (if_pos hr))

theorem exec_wordWaitExpiry_stopped (hr : s.tracker.wordWait.isRunning = false) : exec .wordWaitExpiry s = .next s :=
  (live_of_released h).trans (congrArg _ (if_neg (by simp [hr])))

theorem exec_freewheelStepExpiry_running (hr : s.tracker.stepTimer.isRunning = true) :
    exec .freewheelStepExpiry s = .next (trackerApply (s.tracker.onStepExpiry s.params) s) :=
  (live_of_released h).trans (congrArg _ (if_pos hr))

theorem exec_freewheelStepExpiry_stopped (hr : s.tracker.stepTimer.isRunning = false) :
    exec .freewheelStepExpiry s = .next s :=
  (live_of_released h).trans (congrArg _ (if_neg (by simp [hr])))

end

section
variable {t : Tracker} {x : Params} {q : Position}

theorem onWaitExpiry_signal (h : t.mode = .acquiring ∨ t.mode = .parked ∨ t.mode = .scanning) :
    t.onWaitExpiry x = { tracker := t.toIdle, cause := some .signal, event := none } := by
  unfold Tracker.onWaitExpiry
  rcases h with h | h | h <;> rw [h]

section
variable (hm : t.mode = .locked) (hq : t.position = some q)
include hm hq

theorem onWaitExpiry_runsOut (h : x.freewheelLimit = 0 ∨ Config.lastFrame ≤ q.frame) : t.onWaitExpiry x = t.runOut := by
  simp only [Tracker.onWaitExpiry, hm, Tracker.lockedExpiry, hq]
  exact if_neg (by omega)

theorem onWaitExpiry_freewheels (hlimit : 1 ≤ x.freewheelLimit) (hframe : q.frame < Config.lastFrame) :
    t.onWaitExpiry x = t.freewheelTo x q (some .loss) := by
  simp only [Tracker.onWaitExpiry, hm, Tracker.lockedExpiry, hq]
  exact if_pos ⟨hlimit, hframe⟩

end

section
variable (hm : t.mode = .freewheel) (hq : t.position = some q)
include hm hq

theorem onStepExpiry_freewheels (hlimit : t.freewheel < x.freewheelLimit) (hframe : q.frame < Config.lastFrame) :
    t.onStepExpiry x = t.freewheelTo x q none := by
  simp only [Tracker.onStepExpiry, hm, Tracker.freewheelStep, hq]
  exact if_pos ⟨hlimit, hframe⟩

theorem onStepExpiry_runsOut (h : x.freewheelLimit ≤ t.freewheel ∨ Config.lastFrame ≤ q.frame) :
    t.onStepExpiry x = t.runOut := by
  simp only [Tracker.onStepExpiry, hm, Tracker.freewheelStep, hq]
  exact if_neg (by omega)

end

end

/-- Settles O14: each expiry by the state, the limit and the frames the reel has left. -/
theorem trackerTimersExpire : Obligations.TrackerTimersExpire := by
  unfold Obligations.TrackerTimersExpire
  intro s hreset idle waits steps
  have hwaits (hr : s.tracker.wordWait.isRunning = true) : ∀ y, s.tracker.onWaitExpiry s.params = y → waits y :=
    fun y hy => hy ▸ exec_wordWaitExpiry_running hreset hr
  have hsteps (hr : s.tracker.stepTimer.isRunning = true) : ∀ y, s.tracker.onStepExpiry s.params = y → steps y :=
    fun y hy => hy ▸ exec_freewheelStepExpiry_running hreset hr
  refine ⟨exec_wordWaitExpiry_stopped hreset, fun hr => ⟨fun hm => hwaits hr _ (onWaitExpiry_signal hm), fun q hm hq =>
    ⟨fun hend => hwaits hr _ (onWaitExpiry_runsOut hm hq hend), fun hlimit hframe hzero => hwaits hr _ ?_⟩⟩,
    exec_freewheelStepExpiry_stopped hreset, fun q hr hm hq => ⟨fun hlimit hframe => hsteps hr _ ?_, fun hend =>
    hsteps hr _ (onStepExpiry_runsOut hm hq hend)⟩⟩
  · rw [onWaitExpiry_freewheels hm hq hlimit hframe, Tracker.freewheelTo, hzero]
  · rw [onStepExpiry_freewheels hm hq hlimit hframe, Tracker.freewheelTo, ← hm]

/-! ### The lengths of the timers (R52) -/

/-- `r` times `n / r` rounded up reaches `n` and passes it by less than `r`. -/
theorem ceilDiv_bounds {n r : Nat} (hn : 0 < n) (h : 0 < r) :
    n ≤ r * ((n + r - 1) / r) ∧ r * ((n + r - 1) / r) < n + r := by
  have hdiv := Nat.div_add_mod (n + r - 1) r
  have hmod := Nat.mod_lt (n + r - 1) h
  omega

/-- Settles O15: both lengths are divisions rounded up, and the table's values are evaluated. -/
theorem timerLengths : Obligations.TimerLengths := by
  unfold Obligations.TimerLengths
  refine ⟨fun r hr => ?_, by decide, by decide⟩
  have hwait : 1500 ≤ r * wordWaitMs r ∧ r * wordWaitMs r < 1500 + r := ceilDiv_bounds (by omega) hr
  have hstep : 1000 ≤ r * freewheelStepMs r ∧ r * freewheelStepMs r < 1000 + r := ceilDiv_bounds (by omega) hr
  have hdouble : 2 * r * wordWaitMs r = 2 * (r * wordWaitMs r) := Nat.mul_assoc 2 r _
  exact ⟨by omega, hstep⟩

end Sys2Proof.Machine
end

section
/-! ## A change at the tracker, its notice and its offer (O9)

Settling what is outstanding runs the receivers' own commands one after another (R56 to R59, R75, R96): the lanes', then for each
hand-off that waits the Mark Generator's, then those of the Mark Generator, the Punch Unit and the Loop Controller. -/

namespace Sys2Proof.Machine

set_option Elab.async false

/-! ### The lanes -/

theorem touches_laneTakes (s : State) (l : LaneId) : TouchesOnly eventParts s (laneTakes s l) :=
  (touches_laneTakesAdvance l s).trans (touches_laneTakesLost l _)

/-- Taking for every lane in turn, by any operation that does what the lanes' two commands do while RESET is released. -/
theorem foldl_laneTakes {f : State → LaneId → State} (hf : ∀ {u : State} (l : LaneId), u.resetHeld = false → f u l = laneTakes u l)
    (ls : List LaneId) {s : State} (h : s.resetHeld = false) : ls.foldl f s = ls.foldl laneTakes s := by
  induction ls generalizing s with
  | nil => rfl
  | cons l ls ih =>
    have hnext : (laneTakes s l).resetHeld = false := (touches_laneTakes s l .resetHeld (by decide)).trans h
    rw [List.foldl_cons, List.foldl_cons, hf l h, ih hnext]

/-! ### The hand-offs -/

/-- The command in which the Mark Generator takes a hand-off (R96, R98). -/
def Handoff.command : Handoff → Instr
  | .start l _ _ => .markStartHandoff l
  | .stop l _ => .markEndHandoff l

/-- The hand-off that waits first is taken by its lane's command. -/
theorem exec_handoff_command {s : State} {h : Handoff} {hs : List Handoff} (hreset : s.resetHeld = false)
    (hwaits : s.handoffs = h :: hs) : exec h.command s = .next (runHandoff { s with handoffs := hs } h) := by
  cases h with
  | start l m p =>
    refine (live_of_released hreset).trans (congrArg _ ?_)
    simp [takeStartHandoff, State.firstHandoff, hwaits, Handoff.lane, dropHandoff, runHandoff]
  | stop l leftTake =>
    refine (live_of_released hreset).trans (congrArg _ ?_)
    simp [takeEndHandoff, State.firstHandoff, hwaits, Handoff.lane, dropHandoff, runHandoff]

/-- Taking the hand-offs in their order, by any operation that takes the one that waits first while RESET is released. -/
theorem foldl_runHandoffs {f : State → Handoff → State}
    (hf : ∀ {u : State} {h : Handoff} {hs : List Handoff}, u.resetHeld = false → u.handoffs = h :: hs →
      f u h = runHandoff { u with handoffs := hs } h)
    {s : State} (hreset : s.resetHeld = false) : s.handoffs.foldl f s = runHandoffs s := by
  have hlist : ∀ (hs : List Handoff) (u : State), u.resetHeld = false → u.handoffs = hs →
      hs.foldl f u = hs.foldl (fun t h => runHandoff { t with handoffs := t.handoffs.tail } h) u := by
    intro hs
    induction hs with
    | nil => intro u _ _; rfl
    | cons h hs ih =>
      intro u hu hwaits
      have htail : u.handoffs.tail = hs := by rw [hwaits, List.tail_cons]
      have htouches := touches_runHandoff { u with handoffs := hs } h
      rw [List.foldl_cons, List.foldl_cons, hf hu hwaits, htail]
      exact ih _ ((htouches .resetHeld (by decide)).trans hu) (htouches .handoffs (by decide))
  exact hlist s.handoffs s hreset rfl

/-! ### The Loop Controller -/

theorem loopTakesRelock_of_advance {s : State} {a : Advance} (h : s.offered.event = some (.advance a)) :
    loopTakesRelock s = s := by
  unfold loopTakesRelock
  rw [h]

theorem loopTakesAdvance_of_none {s : State} (h : s.offeredAdvance = none) : loopTakesAdvance s = s := by
  unfold loopTakesAdvance
  rw [h]

theorem offeredAdvance_of_relock {s : State} {q : Position} (h : s.offered.event = some (.relock q)) :
    s.offeredAdvance = none := by
  unfold State.offeredAdvance
  rw [h]

/-- The Loop Controller takes an advance once: after it the advance is still the event, and no longer the controller's. -/
theorem offered_loopTakesAdvance {s : State} {a : Advance} (h : s.offered.event = some (.advance a)) :
    (loopTakesAdvance s).offered.event = some (.advance a) ∧ (loopTakesAdvance s).offered.loop = false := by
  unfold loopTakesAdvance
  rw [offeredAdvance_of_event h]
  dsimp only
  split
  · have hoffered : (loopTakeAdvance a s.loopTook).offered = s.loopTook.offered :=
      touches_loopTakeAdvance a _ .offered (by decide)
    rw [hoffered]
    exact ⟨h, rfl⟩
  · next hloop => exact ⟨h, by simpa using hloop⟩

theorem loopTakesAdvance_of_taken {s : State} (h : s.offered.loop = false) : loopTakesAdvance s = s := by
  unfold loopTakesAdvance
  split
  · rfl
  · exact if_neg (by simp [h])

theorem event_loopTakesRelock (s : State) : (loopTakesRelock s).offered.event = s.offered.event := by
  unfold loopTakesRelock
  split
  · next q _ =>
    have hoffered : (loopTakeLock q s.loopTook).offered = s.loopTook.offered :=
      touches_loopTakeLock q _ .offered (by decide)
    split
    · rw [hoffered]
      rfl
    · rfl
  all_goals rfl

/-- Once the Loop Controller has taken an advance, with the lock entry it may carry, only a lock entry offered alone is left to
take (R58, R138). -/
theorem loopTakesLock_after_advance (s : State) :
    loopTakesLock (loopTakesAdvance s) = loopTakesRelock (loopTakesAdvance s) := by
  cases he : s.offered.event with
  | none =>
    rw [loopTakesAdvance_of_none (by simp [State.offeredAdvance, he])]
    simp [loopTakesLock, State.offeredLock, loopTakesRelock, he]
  | some e =>
    cases e with
    | advance a =>
      obtain ⟨hevent, htaken⟩ := offered_loopTakesAdvance he
      rw [loopTakesLock, loopTakesRelock_of_advance hevent, loopTakesAdvance_of_taken htaken, ite_self]
    | relock q =>
      have hnone := offeredAdvance_of_relock he
      have hrelock : (loopTakesRelock s).offeredAdvance = none :=
        offeredAdvance_of_relock (q := q) ((event_loopTakesRelock s).trans he)
      rw [loopTakesAdvance_of_none hnone, loopTakesLock, if_pos (by simp [State.offeredLock, he]),
        loopTakesAdvance_of_none hrelock]
    | lost r =>
      rw [loopTakesAdvance_of_none (by simp [State.offeredAdvance, he])]
      simp [loopTakesLock, State.offeredLock, loopTakesRelock, he]

/-! ### Settling by commands -/

/-- The tracker's own change, its notice and its offer (R56, R59). -/
theorem trackerApply_event {x : TrackerStep} {e : TrackerEvent} (h : x.event = some e) (s : State) :
    trackerApply x s = { trackerChange x (settle s) with offered := offeredOf e } := by
  unfold trackerApply
  rw [h]

section
variable {after : Instr → State → State} (hafter : ∀ {c : Instr} {u v : State}, exec c u = .next v → after c u = v)
include hafter

theorem after_of_live {c : Instr} {f : State → State} {u : State} (hc : exec c u = live f u) (hu : u.resetHeld = false) :
    after c u = f u := hafter (hc.trans (live_of_released hu))

/-- What is outstanding is settled by the receivers' commands: the lanes L0 to L7, the hand-offs in their order, the Mark Generator,
the Punch Unit, the Loop Controller (R96; log 4). -/
theorem settle_by_commands {s lanes handed : State} (hreset : s.resetHeld = false)
    (hlanes : lanes = allLanes.foldl (fun u l => after (.laneRollLost l) (after (.lanePositionAdvance l) u)) s)
    (hhanded : handed = lanes.handoffs.foldl (fun u h => after h.command u) lanes) :
    settle s = after .loopRollLost (after .loopLockEntry (after .loopPositionAdvance
      (after .punchPositionAdvance (after .markPositionAdvance handed)))) := by
  have hkeep {u v : State} (ht : TouchesOnly eventParts u v) (hu : u.resetHeld = false) : v.resetHeld = false :=
    (ht .resetHeld (by decide)).trans hu
  have hlane {u : State} (l : LaneId) (hu : u.resetHeld = false) :
      after (.laneRollLost l) (after (.lanePositionAdvance l) u) = laneTakes u l := by
    rw [after_of_live hafter (f := laneTakesAdvance l) rfl hu,
      after_of_live hafter (f := laneTakesLost l) rfl (hkeep (touches_laneTakesAdvance l u) hu)]
    rfl
  have hlanes' : lanes = allLanes.foldl laneTakes s := hlanes.trans (foldl_laneTakes hlane _ hreset)
  have hlanesReset : lanes.resetHeld = false := hlanes' ▸ hkeep (TouchesOnly.foldl touches_laneTakes _ s) hreset
  have hhanded' : handed = runHandoffs lanes :=
    hhanded.trans (foldl_runHandoffs (fun hu hwaits => hafter (exec_handoff_command hu hwaits)) hlanesReset)
  have hmarks : handed.resetHeld = false := hhanded' ▸ hkeep ((touches_runHandoffs lanes).mono (by decide)) hlanesReset
  have hpunch := hkeep (touches_marksTakeAdvance handed) hmarks
  have hadvance := hkeep (touches_punchTakesAdvance _) hpunch
  have hlock := hkeep (touches_loopTakesAdvance _) hadvance
  have hlost := hkeep (touches_loopTakesRelock _) hlock
  rw [after_of_live hafter (f := marksTakeAdvance) rfl hmarks, after_of_live hafter (f := punchTakesAdvance) rfl hpunch,
    after_of_live hafter (f := loopTakesAdvance) rfl hadvance, after_of_live hafter (f := loopTakesLock) rfl hlock,
    loopTakesLock_after_advance, after_of_live hafter (f := loopTakesLost) rfl hlost, hhanded', hlanes']
  rfl

end

/-- Settles O9: the notice by the cause, the offer by the event, and settling as the receivers' commands in their order. -/
theorem trackerChangeIsNoticedThenOffered : Obligations.TrackerChangeIsNoticedThenOffered := by
  unfold Obligations.TrackerChangeIsNoticedThenOffered
  intro x s told offers after lane handOff lanes handed settled
  have htold (u : State) : told u = trackerChange x u := rfl
  have hoffers {u : State} (hu : settle s = u) : offers u := by
    refine ⟨fun a h => ?_, fun q h => ?_, fun r h => ?_⟩
    all_goals rw [trackerApply_event h, hu, htold, offeredOf]
  have hafter {c : Instr} {u v : State} (h : exec c u = .next v) : after c u = v := by simp only [after, h]
  have hhandOff : handOff = fun u h => after h.command u := funext fun u => funext fun h => by cases h <;> rfl
  refine ⟨fun h => ?_, fun hquiet => hoffers (settle_of_quiet hquiet), fun hreset => hoffers ?_⟩
  · rw [trackerApply, h, htold]
  · exact settle_by_commands hafter hreset rfl (congrArg (fun f => lanes.handoffs.foldl f lanes) hhandOff)

end Sys2Proof.Machine
end

section
/-! ## The state reads (O52) -/

namespace Sys2Proof.Machine

set_option Elab.async false

/-! ### What a body names -/

theorem portOf_eq_none {n : Nat} (h : 3 < n) : portOf n = none := dif_neg (by omega)

theorem laneOf_eq_none {n : Nat} (h : 7 < n) : laneOf n = none := dif_neg (by omega)

theorem groupOf_eq_none {n : Nat} (h : n = 0 ∨ 16 < n) : groupOf n = none := dif_neg (by omega)

theorem groupOf_number (g : GroupId) : groupOf (g.val + 1) = some g :=
  (groupOf_eq_iff (x := some g) (by omega)).mpr rfl

/-! ### Codes (R187, 11.4) -/

theorem encFrame_eq (x : Option Nat) : encFrame x = num3 (x.getD 0xFFFFFF) := by cases x <;> rfl

theorem num1_levelCode (v : Level) : num1 (levelCode v) = [if (v == .high) = true then 1 else 0] := by cases v <;> rfl

theorem num1_linkCode (x : LinkState) : num1 x.code = [if (x == .reconfirm) = true then 1 else 0] := by cases x <;> rfl

theorem num1_slotFill (p q : PortId) (x : Port) :
    num1 (slotFill p q x) = [if (p == q || x.slot.isSome) = true then 1 else 0] := by
  unfold slotFill
  by_cases h : p = q
  · simp [h, num1]
  · cases hslot : x.slot.isSome <;> simp [h, num1]

theorem encPosition_eq (x : Option Position) :
    encPosition x = num1 ((x.map fun q => q.reel).getD 0) ++ num3 ((x.map fun q => q.frame).getD 0xFFFFFF) := by
  cases x <;> rfl

/-! ### Taking an item changes no output line's condition (R124, R167) -/

theorem priority_transmitting_dropItem (s : State) (p q : PortId) :
    ((s.dropItem p).port q).priority = (s.port q).priority ∧ ((s.dropItem p).port q).transmitting = (s.port q).transmitting := by
  rw [dropItem_port]
  split
  · next h =>
    subst h
    exact ⟨rfl, rfl⟩
  · exact ⟨rfl, rfl⟩

theorem recordTally_dropItem (s : State) (p : PortId) (l : LaneId) : (s.dropItem p).recordTally l = s.recordTally l := by
  have hport (q : PortId) : ((s.dropItem p).port q).priority.any (fun n => n.isPunchOut l) =
      (s.port q).priority.any (fun n => n.isPunchOut l) ∧
      ((s.dropItem p).port q).sendingPunchOut l = (s.port q).sendingPunchOut l := by
    obtain ⟨hpriority, hsending⟩ := priority_transmitting_dropItem s p q
    unfold Port.sendingPunchOut
    rw [hpriority, hsending]
    exact ⟨rfl, rfl⟩
  unfold State.recordTally
  simp only [hport, dropItem_punchOf]

theorem outputActive_dropItem (s : State) (p : PortId) (o : LineId) : (s.dropItem p).outputActive o = s.outputActive o := by
  have houtput : (s.dropItem p).output o = s.output o := rfl
  unfold State.outputActive
  rw [houtput]
  cases (s.output o).function with
  | recordTally l => exact recordTally_dropItem s p l
  | none | cueLight | rolling | loopActive | grantHeld | manualOn | manualOff => rfl

theorem outputLevel_dropItem (s : State) (p : PortId) (o : LineId) : (s.dropItem p).outputLevel o = s.outputLevel o := by
  unfold State.outputLevel
  rw [outputActive_dropItem]
  rfl

/-! ### The answers -/

section
variable {p : PortId} {s : State}

theorem answers_portStatus {q : PortId} (h : s.admits p .portStatus [BitVec.ofNat 8 q.val]) :
    Answers .portStatus p [BitVec.ofNat 8 q.val] s (s.dropItem p) ([0x00] ++ (s.dropItem p).portReport p q) := by
  refine answers_ok h ?_
  show answerPortStatus p _ _ = _
  rw [answerPortStatus, byteAt_ofNat (by omega), portOf_val]

theorem answers_readLane {l : LaneId} (h : s.admits p .readLane [BitVec.ofNat 8 l.val]) :
    Answers .readLane p [BitVec.ofNat 8 l.val] s (s.dropItem p) ([0x00] ++ (s.dropItem p).laneReport l) := by
  refine answers_ok h ?_
  show answerReadLane _ _ = _
  rw [answerReadLane, byteAt_ofNat (by omega), laneOf_eq_some_iff.mpr rfl]

theorem answers_readLoop {g : GroupId} (h : s.admits p .readLoop [BitVec.ofNat 8 (g.val + 1)]) :
    Answers .readLoop p [BitVec.ofNat 8 (g.val + 1)] s (s.dropItem p) ([0x00] ++ (s.dropItem p).loopReport g) := by
  refine answers_ok h ?_
  show answerReadLoop _ _ = _
  rw [answerReadLoop, byteAt_ofNat (by omega), groupOf_number]

theorem answers_portStatus_range {b : Byte} (hb : 3 < b.toNat) (h : s.admits p .portStatus [b]) :
    Answers .portStatus p [b] s (s.dropItem p) [0x06] := by
  refine answers_bare (x := .range) h ?_
  show answerPortStatus p _ _ = _
  rw [answerPortStatus, byteAt_cons_zero, portOf_eq_none hb]

theorem answers_readLane_range {b : Byte} (hb : 7 < b.toNat) (h : s.admits p .readLane [b]) :
    Answers .readLane p [b] s (s.dropItem p) [0x06] := by
  refine answers_bare (x := .range) h ?_
  show answerReadLane _ _ = _
  rw [answerReadLane, byteAt_cons_zero, laneOf_eq_none hb]

theorem answers_readLoop_range {b : Byte} (hb : b.toNat = 0 ∨ 16 < b.toNat) (h : s.admits p .readLoop [b]) :
    Answers .readLoop p [b] s (s.dropItem p) [0x06] := by
  refine answers_bare (x := .range) h ?_
  show answerReadLoop _ _ = _
  rw [answerReadLoop, byteAt_cons_zero, groupOf_eq_none hb]

end

/-- Settles O52: each read is OK with its block's report, and each report is its fields in the codes of 11.4. -/
theorem stateReadsAnswer : Obligations.StateReadsAnswer := by
  unfold Obligations.StateReadsAnswer
  intro p s u flag index frame small pass group cycle entry level input output
  have hflag (c : Bool) : encBool c = flag c := encBool_eq c
  have hframe (x : Option Nat) : encFrame x = frame x := encFrame_eq x
  have hsmall (x : Option Nat) : encSmall x = small x := rfl
  have hlevel (v : Level) : num1 (levelCode v) = level v := num1_levelCode v
  have hindex {n : Nat} (x : Option (Fin n)) : encIndex x = [index x] := by cases x <;> rfl
  have hpass (x : Option LoopPass) : encLoop x = pass x := by cases x <;> rfl
  have hgroup (x : Group) : x.bytes = group x := by
    simp only [Group.bytes, hsmall, hframe, hindex, group]
  have hcycle (y : Option CycleRecord) : cycleBytes y = cycle y := by
    simp only [cycleBytes, encCue, hsmall, hframe, hflag, hpass, cycle]
  have hentry : JournalEntry.bytes = entry := funext fun e => by
    simp only [JournalEntry.bytes, hflag, hindex, hpass, entry]
  have hinput (i : LineId) : (u.input i).bytes = input i := by
    simp only [InputLine.bytes, hlevel, hflag, input]
    rfl
  have houtput (o : LineId) : u.outputBytes o = output o := by
    simp only [State.outputBytes, u, outputActive_dropItem, outputLevel_dropItem, hlevel, hflag, output]
    rfl
  refine ⟨fun h => ?identify, fun b hb h => answers_portStatus_range hb h, fun q h => ?portStatus, fun h => ?parameters,
    fun h => ?tracker, fun b hb h => answers_readLane_range hb h, fun l h => ?lane,
    fun b hb h => answers_readLoop_range hb h, fun g h => ?loop, fun n hn h => ?journal, fun h => ?lines⟩
  case identify => exact answers_ok h rfl
  case portStatus =>
    have hok := answers_portStatus h
    simp only [State.portReport, hflag, num1_slotFill, num1_linkCode, List.append_assoc] at hok ⊢
    exact hok
  case parameters =>
    have hok := answers_ok h (rfl : answerReadParameters u = _)
    simp only [List.append_assoc] at hok ⊢
    exact hok
  case tracker =>
    have hok := answers_ok h (rfl : answerTrackerStatus u = _)
    simp only [encPosition_eq, List.append_assoc] at hok ⊢
    exact hok
  case lane =>
    have hok := answers_readLane h
    simp only [State.laneReport, Routing.bytes, PunchLane.bytes, encCue, hflag, hframe, hindex, hcycle, List.append_assoc]
      at hok ⊢
    exact hok
  case loop =>
    have hok := answers_readLoop h
    simp only [State.loopReport, hgroup, hflag, List.append_assoc] at hok ⊢
    exact hok
  case journal =>
    have hok := answers_ok h (rfl : answerReadJournal (num3 n) u = _)
    have hn : frameAt (num3 n) 0 = n := by simpa using frameAt_num3_append hn []
    simp only [hn, hentry, hflag, encSequence, List.length_take, List.append_assoc] at hok ⊢
    exact hok
  case lines =>
    have hok := answers_ok h (rfl : answerReadLines u = _)
    simp only [State.linesReport, State.toneBytes, hinput, houtput, hlevel, hflag, List.append_assoc] at hok ⊢
    exact hok

end Sys2Proof.Machine
end

section
/-! ## Cues that go without a take, and the lanes' requests (O23, O44, O45) -/

namespace Sys2Proof.Machine

set_option Elab.async false

/-! ### Letting a cue go while no group drains (R22, R70, R83, R84) -/

theorem setLane_lane (s : State) (l : LaneId) : s.setLane l (s.lane l) = s := by
  simp [State.setLane, State.lane]

section
variable {l : LaneId} {s : State}

theorem releaseClaim_of_notDraining (hdrain : s.notDraining) :
    releaseClaim l s = s.setLane l { s.lane l with pinned := none } := by
  unfold releaseClaim
  split
  · next hpin => rw [← hpin, setLane_lane]
  · exact afterRelease_of_notDraining hdrain

theorem letGo_of_notDraining (m : LaneMode) (hdrain : s.notDraining) :
    letGo l m s = s.setLane l { s.lane l with mode := m, pinned := none, cycle := none, closing := false } := by
  unfold letGo
  dsimp only
  rw [releaseClaim_of_notDraining hdrain, State.lane_setLane_same, State.setLane_twice]

theorem falseStart_of_notDraining (hdrain : s.notDraining) :
    falseStart l s =
      (s.handOff (.stop l false)).setLane l
        { s.lane l with
          mode := (s.lane l).endMode, pinned := none, cycle := none, closing := false
          falseStarts := satInc (s.lane l).falseStarts } := by
  unfold falseStart
  dsimp only
  rw [releaseClaim_of_notDraining (s := s.handOff (.stop l false)) hdrain, State.lane_setLane_same, State.setLane_twice]
  rfl

theorem endMode_eq (x : Lane) : x.endMode = if x.closing = true then .off else .standby := rfl

theorem takeBegun_of_cycle {c : CycleRecord} (hc : (s.lane l).cycle = some c) : s.takeBegun l = c.begun := by
  simp [State.takeBegun, hc]

/-! ### A roll lost, by the lane's state (R83) -/

theorem laneLost_idle (h : (s.lane l).mode = .off ∨ (s.lane l).mode = .standby) : laneLost l s = s := by
  rcases h with h | h <;> simp [laneLost, h]

theorem laneLost_armed (h : (s.lane l).mode = .armed) : laneLost l s = letGo l (s.lane l).endMode s := by
  simp [laneLost, h]

theorem laneLost_leadin (h : (s.lane l).mode = .leadin) :
    laneLost l s = if s.takeBegun l = true then endCycle l stopByRollLost false none s else falseStart l s := by
  simp [laneLost, h]

/-! ### A cancel, by the lane's state (R86) -/

theorem laneCancel_idle (h : (s.lane l).mode = .off ∨ (s.lane l).mode = .standby) : laneCancel l s = s := by
  rcases h with h | h <;> simp [laneCancel, h]

theorem laneCancel_armed (h : (s.lane l).mode = .armed) : laneCancel l s = letGo l .standby s := by
  simp [laneCancel, h]

theorem laneCancel_leadin (h : (s.lane l).mode = .leadin) :
    laneCancel l s = if s.takeBegun l = true then endCycle l stopByCancel false none s else falseStart l s := by
  simp [laneCancel, h]

/-- No take ends while the lane's take has not begun (R86). -/
theorem takeToEnd_of_not_begun (h : (s.lane l).mode.running = false ∨ s.takeBegun l = false) : s.takeToEnd l = none := by
  unfold State.takeToEnd
  rcases h with h | h <;> simp [h]

end

/-- Settles O23, by the lane's state in which the roll is lost. -/
theorem rollLostBeforeTheTake : Obligations.RollLostBeforeTheTake := by
  unfold Obligations.RollLostBeforeTheTake
  intro l s hoffer hdrain next gone
  rw [exec_laneRollLost hoffer]
  refine ⟨fun hidle => ?idle, fun harmed => ?armed, fun c hleadin hc hbegun => ?leadin⟩
  case idle => rw [laneLost_idle (s := s.laneTook l) hidle]
  case armed =>
    rw [laneLost_armed (s := s.laneTook l) harmed, letGo_of_notDraining (s := s.laneTook l) _ hdrain]
    rfl
  case leadin =>
    have hfalse : (s.laneTook l).takeBegun l = false := (takeBegun_of_cycle hc).trans hbegun
    rw [laneLost_leadin (s := s.laneTook l) hleadin, hfalse, falseStart_of_notDraining (s := s.laneTook l) hdrain]
    rfl

/-! ### SET LANE (R65, R66) -/

theorem portOf_eq_some_iff {n : Nat} {q : PortId} : portOf n = some q ↔ n = q.val := by
  constructor
  · intro h
    unfold portOf at h
    split at h
    · rw [← Option.some.inj h]
    · cases h
  · rintro rfl
    exact portOf_val q

/-- An index that may be NONE, as its byte (R187, 11.4). -/
theorem orNone_eq_some_iff {k n : Nat} {f : Nat → Option (Fin k)} (hf : ∀ i : Fin k, f n = some i ↔ n = i.val)
    (hk : k ≤ 0xFF) {x : Option (Fin k)} :
    (if n = 0xFF then some none else (f n).map some) = some x ↔ n = (x.map Fin.val).getD 0xFF := by
  cases x with
  | none =>
    by_cases h : n = 0xFF <;> simp [h]
  | some i =>
    have hi : i.val ≠ 0xFF := by omega
    by_cases h : n = 0xFF
    · simpa [h] using hi.symm
    · simpa [h] using hf i

theorem portOrNone_eq_some_iff {n : Nat} {q : Option PortId} : portOrNone n = some q ↔ n = (q.map Fin.val).getD 0xFF :=
  orNone_eq_some_iff (fun _ => portOf_eq_some_iff) (by decide)

theorem toneOrNone_eq_some_iff {n : Nat} {t : Option ToneId} : toneOrNone n = some t ↔ n = (t.map Fin.val).getD 0xFF :=
  orNone_eq_some_iff (fun _ => laneOf_eq_some_iff) (by decide)

theorem portOrNone_eq_none {n : Nat} (h : 3 < n) (hnone : n ≠ 0xFF) : portOrNone n = none := by
  rw [portOrNone, if_neg hnone, portOf_eq_none h]
  rfl

theorem toneOrNone_eq_none {n : Nat} (h : 7 < n) (hnone : n ≠ 0xFF) : toneOrNone n = none := by
  rw [toneOrNone, if_neg hnone, laneOf_eq_none h]
  rfl

/-- The routing record that a body in range names (R65, R66). -/
theorem routingOf_eq_some {b : List Byte} {q : Option PortId} {t : Option ToneId}
    (hport : byteAt b 1 = (q.map Fin.val).getD 0xFF) (htone : byteAt b 2 = (t.map Fin.val).getD 0xFF)
    (hcolour : byteAt b 3 ≤ 7) (hpriority : byteAt b 4 ≤ 15) (hadvance : byteAt b 5 ≤ 15) (hready : byteAt b 6 ≤ 1) :
    routingOf b =
      some { recordPort := q, tone := t, colour := byteAt b 3, priority := byteAt b 4, advance := byteAt b 5
             requireReady := decide (byteAt b 6 = 1) } := by
  have hbool : boolOf (byteAt b 6) = some (decide (byteAt b 6 = 1)) := by
    rw [boolOf_eq_some_iff]
    by_cases h : byteAt b 6 = 1
    · simp [h]
    · simp [h]
      omega
  unfold routingOf
  rw [portOrNone_eq_some_iff.mpr hport, toneOrNone_eq_some_iff.mpr htone, hbool]
  exact if_pos ⟨hcolour, hpriority, hadvance⟩

/-- A field of the routing record out of its range (R65, R66). -/
theorem routingOf_eq_none {b : List Byte}
    (h : (3 < byteAt b 1 ∧ byteAt b 1 ≠ 0xFF) ∨ (7 < byteAt b 2 ∧ byteAt b 2 ≠ 0xFF) ∨ 7 < byteAt b 3 ∨
      15 < byteAt b 4 ∨ 15 < byteAt b 5 ∨ 1 < byteAt b 6) : routingOf b = none := by
  unfold routingOf
  split
  · next hport htone hready =>
    refine if_neg ?_
    rintro ⟨hcolour, hpriority, hadvance⟩
    rcases h with ⟨h, hne⟩ | ⟨h, hne⟩ | h | h | h | h
    · cases hport.symm.trans (portOrNone_eq_none h hne)
    · cases htone.symm.trans (toneOrNone_eq_none h hne)
    · exact absurd hcolour (not_le.mpr h)
    · exact absurd hpriority (not_le.mpr h)
    · exact absurd hadvance (not_le.mpr h)
    · cases hready.symm.trans (boolOf_eq_none h)
  · rfl

theorem answerSetLane_range {b : List Byte} (h : 7 < byteAt b 0 ∨ routingOf b = none) (s : State) :
    answerSetLane b s = (s, .bare .range) := by
  unfold answerSetLane
  split
  · next hlane hrouting =>
    rcases h with h | h
    · cases hlane.symm.trans (laneOf_eq_none h)
    · cases hrouting.symm.trans h
  · rfl

theorem answerSetLane_inRange {b : List Byte} {l : LaneId} {x : Routing} (hl : byteAt b 0 = l.val)
    (hx : routingOf b = some x) (s : State) :
    answerSetLane b s = if (s.lane l).mode = .off then (writeRouting l x s, .okWith []) else (s, .bare .busy) := by
  unfold answerSetLane
  rw [laneOf_eq_some_iff.mpr hl, hx]

/-- Settles O44: the body's routing record, the lane's state, and whether the record port is a new one. -/
theorem setLaneWritesTheRouting : Obligations.SetLaneWritesTheRouting := by
  unfold Obligations.SetLaneWritesTheRouting
  intro p b s h u indexByte
  have hindex {n : Nat} (x : Option (Fin n)) : indexByte x = (x.map Fin.val).getD 0xFF := by cases x <;> rfl
  refine ⟨fun hrange => ?range, fun l q t hl hport htone hcolour hpriority hadvance hready => ⟨fun hbusy => ?busy,
    fun hoff => ?writes⟩⟩
  case range =>
    exact answers_bare h (answerSetLane_range (hrange.imp_right routingOf_eq_none) u)
  all_goals
    have hx := routingOf_eq_some (hport.trans (hindex q)) (htone.trans (hindex t)) hcolour hpriority hadvance hready
    have hanswer := answerSetLane_inRange hl hx u
  case busy => exact answers_bare h (hanswer.trans (if_neg hbusy))
  case writes =>
    intro x v
    rw [if_pos (show (u.lane l).mode = .off from hoff)] at hanswer
    refine ⟨fun hsame => ?_, fun hnew => ?_⟩
    · have hkept : writeRouting l x u = v := if_pos hsame.symm
      exact answers_ok h (hanswer.trans (by rw [hkept]))
    · have hcleared : writeRouting l x u = clearReady v l := if_neg (Ne.symm hnew)
      exact answers_ok h (hanswer.trans (by rw [hcleared]; rfl))

/-! ### ENABLE LANE, DISABLE LANE and CANCEL LANE (R69, R70, R86) -/

section
variable {p : PortId} {l : LaneId} {s : State}

theorem answers_enableLane (h : s.admits p .enableLane [BitVec.ofNat 8 l.val]) :
    Answers .enableLane p [BitVec.ofNat 8 l.val] s (laneEnable l (s.dropItem p))
      ([0x00] ++ (laneEnable l (s.dropItem p)).laneBrief l) := by
  refine answers_ok h ?_
  show answerEnable _ _ = _
  rw [answerEnable, byteAt_ofNat (by omega), laneOf_eq_some_iff.mpr rfl]

theorem answers_disableLane (h : s.admits p .disableLane [BitVec.ofNat 8 l.val]) :
    Answers .disableLane p [BitVec.ofNat 8 l.val] s (laneDisable l (s.dropItem p))
      ([0x00] ++ (laneDisable l (s.dropItem p)).laneBrief l) := by
  refine answers_ok h ?_
  show answerDisable _ _ = _
  rw [answerDisable, byteAt_ofNat (by omega), laneOf_eq_some_iff.mpr rfl]

theorem answers_cancelLane (h : s.admits p .cancelLane [BitVec.ofNat 8 l.val]) :
    Answers .cancelLane p [BitVec.ofNat 8 l.val] s (laneCancel l (s.dropItem p))
      ([0x00] ++ (num1 ((laneCancel l (s.dropItem p)).lane l).mode.code ++ encSmall ((s.dropItem p).takeToEnd l))) := by
  refine answers_ok h ?_
  show answerCancel _ _ = _
  rw [answerCancel, byteAt_ofNat (by omega), laneOf_eq_some_iff.mpr rfl]

theorem laneEnable_off (h : (s.lane l).mode = .off) : laneEnable l s = s.setLane l { s.lane l with mode := .standby } := by
  simp [laneEnable, h]

theorem laneEnable_idle (h : (s.lane l).mode = .standby ∨ (s.lane l).mode = .armed) : laneEnable l s = s := by
  rcases h with h | h <;> simp [laneEnable, h]

theorem laneEnable_running (h : (s.lane l).mode = .leadin ∨ (s.lane l).mode = .take ∨ (s.lane l).mode = .tail) :
    laneEnable l s = s.setLane l { s.lane l with closing := false } := by
  rcases h with h | h | h <;> simp [laneEnable, h]

theorem laneDisable_off (h : (s.lane l).mode = .off) : laneDisable l s = s := by simp [laneDisable, h]

theorem laneDisable_standby (h : (s.lane l).mode = .standby) :
    laneDisable l s = s.setLane l { s.lane l with mode := .off } := by simp [laneDisable, h]

theorem laneDisable_armed (h : (s.lane l).mode = .armed) : laneDisable l s = letGo l .off s := by simp [laneDisable, h]

theorem laneDisable_running (h : (s.lane l).mode = .leadin ∨ (s.lane l).mode = .take ∨ (s.lane l).mode = .tail) :
    laneDisable l s = s.setLane l { s.lane l with closing := true } := by
  rcases h with h | h | h <;> simp [laneDisable, h]

/-- A lane's state and closing flag just after it was written. -/
theorem laneBrief_setLane (x : Lane) : (s.setLane l x).laneBrief l = num1 x.mode.code ++ encBool x.closing := by
  rw [State.laneBrief, State.lane_setLane_same]

end

/-- Settles O45, each request by the lane's state. -/
theorem enableDisableCancelLane : Obligations.EnableDisableCancelLane := by
  unfold Obligations.EnableDisableCancelLane
  intro p l s hdrain b x u code flag runs gone
  have hcode (m : LaneMode) : num1 m.code = [code m] := by cases m <;> rfl
  have hflag (c : Bool) : encBool c = [flag c] := encBool_eq c
  refine ⟨fun h => ?enable, fun h => ?disable, fun h => ?cancel, fun n hn => ⟨fun h => ?_, fun h => ?_, fun h => ?_⟩⟩
  case enable =>
    have hanswer := answers_enableLane h
    refine ⟨fun hoff => ?_, fun hruns => ?_, fun hidle => ?_⟩
    · rw [laneEnable_off (s := u) hoff, laneBrief_setLane, hcode, hflag] at hanswer
      exact hanswer
    · rw [laneEnable_running (s := u) hruns, laneBrief_setLane, hcode, hflag] at hanswer
      exact hanswer
    · rw [laneEnable_idle (s := u) hidle, State.laneBrief, hcode, hflag] at hanswer
      exact hanswer
  case disable =>
    have hanswer := answers_disableLane h
    refine ⟨fun hoff => ?_, fun hstandby => ?_, fun harmed => ?_, fun hruns => ?_⟩
    · have hmode : code (u.lane l).mode = 0x00 := by rw [show (u.lane l).mode = .off from hoff]
      rw [laneDisable_off (s := u) hoff, State.laneBrief, hcode, hflag, hmode] at hanswer
      exact hanswer
    · rw [laneDisable_standby (s := u) hstandby, laneBrief_setLane, hcode, hflag] at hanswer
      exact hanswer
    · rw [laneDisable_armed (s := u) harmed, letGo_of_notDraining (s := u) _ hdrain, laneBrief_setLane, hcode,
        hflag] at hanswer
      exact hanswer
    · rw [laneDisable_running (s := u) hruns, laneBrief_setLane, hcode, hflag] at hanswer
      exact hanswer
  case cancel =>
    have hanswer := answers_cancelLane h
    refine ⟨fun hidle => ?_, fun harmed => ?_, fun c hleadin hc hbegun => ?_⟩
    · have hnone : u.takeToEnd l = none := by
        refine takeToEnd_of_not_begun (.inl ?_)
        rcases hidle with e | e <;> rw [show (u.lane l).mode = _ from e] <;> rfl
      rw [laneCancel_idle (s := u) hidle, hcode, hnone] at hanswer
      exact hanswer
    · have hnone : u.takeToEnd l = none :=
        takeToEnd_of_not_begun (.inl (by rw [show (u.lane l).mode = .armed from harmed]; rfl))
      rw [laneCancel_armed (s := u) harmed, letGo_of_notDraining (s := u) _ hdrain, State.lane_setLane_same, hcode,
        hnone] at hanswer
      exact hanswer
    · have hfalse : u.takeBegun l = false := (takeBegun_of_cycle (s := u) hc).trans hbegun
      rw [laneCancel_leadin (s := u) hleadin, hfalse, if_neg (by decide), falseStart_of_notDraining (s := u) hdrain,
        State.lane_setLane_same, hcode, takeToEnd_of_not_begun (.inr hfalse)] at hanswer
      exact hanswer
  · refine answers_bare (x := .range) h ?_
    show answerEnable _ _ = _
    rw [answerEnable, byteAt_cons_zero, laneOf_eq_none hn]
  · refine answers_bare (x := .range) h ?_
    show answerDisable _ _ = _
    rw [answerDisable, byteAt_cons_zero, laneOf_eq_none hn]
  · refine answers_bare (x := .range) h ?_
    show answerCancel _ _ = _
    rw [answerCancel, byteAt_cons_zero, laneOf_eq_none hn]

end Sys2Proof.Machine
end

section
/-! ## The begin of a take and the course of a begun one (O19, O21) -/

namespace Sys2Proof.Machine

set_option Elab.async false

/-! ### What an advance leaves in the cycle record (R82) -/

section
variable {l : LaneId} {a : Advance} {c : CycleRecord} {s : State}

theorem modCycle_of_cycle (f : CycleRecord → CycleRecord) (hc : (s.lane l).cycle = some c) :
    modCycle l f s = s.setLane l { s.lane l with cycle := some (f c) } := by
  simp [modCycle, hc]

theorem touch_of_begun (a : Advance) (hbegun : c.begun = true) :
    c.touch a =
      { c with last := a.frame, flags := { c.flags with freewheeled := c.flags.freewheeled || a.freewheel } } := by
  simp [CycleRecord.touch, hbegun]

theorem laneAdvance_leadin (h : (s.lane l).mode = .leadin) (hc : (s.lane l).cycle = some c) :
    laneAdvance l a s = leadinAdvance l a (s.setLane l { s.lane l with cycle := some (c.touch a) }) := by
  simp [laneAdvance, h, modCycle_of_cycle _ hc]

theorem laneAdvance_take (h : (s.lane l).mode = .take) (hc : (s.lane l).cycle = some c) :
    laneAdvance l a s = takeAdvance l a (s.setLane l { s.lane l with cycle := some (c.touch a) }) := by
  simp [laneAdvance, h, modCycle_of_cycle _ hc]

theorem laneAdvance_tail (h : (s.lane l).mode = .tail) (hc : (s.lane l).cycle = some c) :
    laneAdvance l a s = tailAdvance l a (s.setLane l { s.lane l with cycle := some (c.touch a) }) := by
  simp [laneAdvance, h, modCycle_of_cycle _ hc]

/-! ### A LEADIN lane at an advance (R77, R78) -/

/-- A take that has begun does not begin again (R77). -/
theorem takeBeginTest_of_begun (hc : (s.lane l).cycle = some c) (hbegun : c.begun = true) : takeBeginTest l a s = s := by
  simp [takeBeginTest, hc, hbegun]

theorem takeBegin_of_off (hrec : c.record = false) :
    takeBegin l c a s = s.setLane l { s.lane l with cycle := some (s.begunCycle c a) } := by
  simp [takeBegin, hrec]

theorem enterTake_of_on (hrec : c.record = true) : enterTake l c a s = s.setLane l { s.lane l with mode := .take } := by
  simp [enterTake, hrec]

theorem enterTake_of_off (hrec : c.record = false) :
    enterTake l c a s = s.setLane l { s.lane l with mode := .take, cycle := some (s.begunCycle c a) } := by
  have hbegun : (s.setLane l { s.lane l with mode := .take }).begunCycle c a = s.begunCycle c a := rfl
  simp [enterTake, hrec, takeBegin_of_off, hbegun]

/-- Where no take begins in LEADIN, the lane stays until the in frame and then enters TAKE (R78). -/
theorem leadinAdvance_of_test (hc : (s.lane l).cycle = some c) (htest : takeBeginTest l a s = s) :
    leadinAdvance l a s = if c.inFrame ≤ a.frame then enterTake l c a s else s := by
  unfold leadinAdvance
  rw [htest]
  dsimp only
  rw [hc]

/-- The take begins in LEADIN at the punch-in point, and the lane enters TAKE as well when the in frame is there (R77, R78). -/
theorem leadinAdvance_begins (hc : (s.lane l).cycle = some c) (hrec : c.record = true) (hbegun : c.begun = false)
    (hpunch : c.punchIn ≤ a.frame) :
    leadinAdvance l a s =
      if c.inFrame ≤ a.frame then
        (takeBegin l c a s).setLane l { (takeBegin l c a s).lane l with mode := .take }
      else takeBegin l c a s := by
  have hcycle : ((takeBegin l c a s).lane l).cycle = some (s.begunCycle c a) := by
    rw [State.lane, lanes_takeBegin]
    simp
  have henter : enterTake l (s.begunCycle c a) a (takeBegin l c a s) = _ := enterTake_of_on hrec
  unfold leadinAdvance
  rw [takeBeginTest_of_begins hc hrec hbegun hpunch, ← henter]
  dsimp only
  rw [hcycle]
  rfl

end

/-- The lanes after a take has begun in LEADIN (R77, R78). -/
theorem lanes_leadinAdvance_begins {l : LaneId} {a : Advance} {c : CycleRecord} {s : State}
    (hmode : (s.lane l).mode = .leadin) (hc : (s.lane l).cycle = some c) (hrec : c.record = true)
    (hbegun : c.begun = false) (hpunch : c.punchIn ≤ a.frame) :
    (leadinAdvance l a s).lanes =
      s.lanes.set l
        { s.lane l with
          mode := if c.inFrame ≤ a.frame then .take else .leadin, cycle := some (s.begunCycle c a) } := by
  have hlane : (takeBegin l c a s).lane l = { s.lane l with cycle := some (s.begunCycle c a) } := by
    rw [State.lane, lanes_takeBegin]
    simp
  rw [leadinAdvance_begins hc hrec hbegun hpunch]
  split
  · rw [hlane, State.setLane, lanes_takeBegin]
    exact Vector.set_set _ _
  · rw [lanes_takeBegin, ← hmode]

theorem touches_leadinAdvance_begins {l : LaneId} {a : Advance} {c : CycleRecord} {s : State}
    (hc : (s.lane l).cycle = some c) (hrec : c.record = true) (hbegun : c.begun = false)
    (hpunch : c.punchIn ≤ a.frame) : TouchesOnly [.lanes, .punch, .ports] s (leadinAdvance l a s) := by
  rw [leadinAdvance_begins hc hrec hbegun hpunch]
  exact .ite _ ((touches_takeBegin l c a s).andThen (touches_setLane _ l _)) (touches_takeBegin l c a s)

/-- Settles O19: where the take begins is settled by the record mark and the frame. -/
theorem takeBegins : Obligations.TakeBegins := by
  unfold Obligations.TakeBegins
  intro l a c r s hoffer hmode hc hbegun hr y
  -- the state in which the lane has taken the advance and its frame
  let u : State := (s.laneTook l).setLane l { s.lane l with cycle := some { c with last := a.frame } }
  have htouch : c.touch a = { c with last := a.frame } := by simp [CycleRecord.touch, hbegun]
  have hexec : exec (.lanePositionAdvance l) s = .next (leadinAdvance l a u) := by
    rw [exec_lanePositionAdvance hoffer, laneAdvance_leadin (s := s.laneTook l) hmode hc, htouch]
    rfl
  have hlane : u.lane l = { s.lane l with cycle := some { c with last := a.frame } } := State.lane_setLane_same _ _ _
  have hcycle : (u.lane l).cycle = some { c with last := a.frame } := by rw [hlane]
  have hrecord : u.begunCycle { c with last := a.frame } a = y := begunCycle_eq (s := s.laneTook l) a hr
  refine ⟨fun hrec hpunch => ⟨_, hexec, ?_, ?_⟩, fun hrec hin => ?_, fun hnot hin => ?_⟩
  · rw [lanes_leadinAdvance_begins (by rw [hlane]; exact hmode) hcycle hrec hbegun hpunch, hrecord, hlane]
    exact Vector.set_set _ _
  · have hu : TouchesOnly [.offered, .lanes] s u := (touches_offered s _).andThen (touches_setLane _ l _)
    exact hu.andThen (touches_leadinAdvance_begins hcycle hrec hbegun hpunch)
  · rw [hexec, leadinAdvance_of_test hcycle (takeBeginTest_of_not hcycle (.inl hrec)), if_pos hin,
      enterTake_of_off (c := { c with last := a.frame }) hrec, hrecord, hlane]
    exact congrArg _ (State.setLane_twice _ _ _ _)
  · have htest : takeBeginTest l a u = u := takeBeginTest_of_not hcycle <| by
      cases hrec : c.record with
      | false => exact .inl rfl
      | true => exact .inr (hnot hrec)
    rw [hexec, leadinAdvance_of_test hcycle htest, if_neg (not_le.mpr hin)]

/-! ### The tail-yield test (R81) -/

section
variable {s : State} {l : LaneId} {x : Lane}

theorem offer_setLane (hp : x.pinned = (s.lane l).pinned) (hr : x.routing = (s.lane l).routing) (k : LaneId)
    (reel p : Nat) : (s.setLane l x).offer k reel p = s.offer k reel p := by
  unfold State.offer
  simp only [eligible_setLane s l x hp hr]
  rfl

/-- What a lane yields to does not hang on its state or its cycle record. -/
theorem noYield_setLane (hp : x.pinned = (s.lane l).pinned) (hr : x.routing = (s.lane l).routing)
    (hclosing : x.closing = (s.lane l).closing) {reel p : Nat} (h : s.noYield l reel p) :
    (s.setLane l x).noYield l reel p := by
  unfold State.noYield at h ⊢
  simp only [offer_setLane hp hr, frames_setLane s l x hr, State.lane_setLane_same, hclosing]
  exact h

theorem tailYieldTest_of_noYield {a : Advance} (h : s.noYield l a.reel a.frame) : tailYieldTest l a s = s := by
  unfold tailYieldTest
  split
  · next hmay =>
    obtain ⟨hclosing, hconfirmed, hhold⟩ := hmay
    split
    · rfl
    · next r hr =>
      refine if_neg fun hnext => ?_
      rcases h with h | h | h | h
      · cases h.symm.trans hconfirmed
      · cases h.symm.trans hhold
      · cases h.symm.trans hclosing
      · exact h r hr hnext
  · rfl

end

/-! ### TAKE and TAIL lanes at an advance (R79 to R81) -/

section
variable {l : LaneId} {a : Advance} {c : CycleRecord} {s : State}

theorem takeAdvance_stays (hc : (s.lane l).cycle = some c) (hout : a.frame < c.outFrame) : takeAdvance l a s = s := by
  simp only [takeAdvance, hc, if_neg (not_le.mpr hout)]

/-- At the out frame the lane leaves TAKE, telling the Mark Generator, for its tail (R79, R80). -/
theorem takeAdvance_leaves (hc : (s.lane l).cycle = some c) (hout : c.outFrame ≤ a.frame) (hend : a.frame < c.cycleEnd) :
    takeAdvance l a s =
      tailYieldTest l a ((s.setLane l { s.lane l with mode := .tail }).handOff (.stop l true)) := by
  unfold takeAdvance
  split
  · next hnone => cases hnone.symm.trans hc
  · next d hd =>
    obtain rfl := Option.some.inj (hd.symm.trans hc)
    rw [if_pos hout]
    dsimp only
    rw [if_neg (not_le.mpr hend)]
    rfl

/-- A lane whose cycle end is the out frame's own advance ends its cycle there (R79, R90). -/
theorem takeAdvance_ends (hc : (s.lane l).cycle = some c) (hout : c.outFrame ≤ a.frame) (hend : c.cycleEnd ≤ a.frame) :
    takeAdvance l a s =
      endCycle l stopAtEnd true (some { reel := a.reel, frame := a.frame }) (s.handOff (.stop l true)) := by
  simp only [takeAdvance, hc, if_pos hout, if_pos hend]

theorem tailAdvance_runs (hc : (s.lane l).cycle = some c) (hend : a.frame < c.cycleEnd) :
    tailAdvance l a s = tailYieldTest l a s := by
  simp only [tailAdvance, hc, if_neg (not_le.mpr hend)]

theorem tailAdvance_ends (hc : (s.lane l).cycle = some c) (hend : c.cycleEnd ≤ a.frame) :
    tailAdvance l a s = endCycle l stopAtEnd true (some { reel := a.reel, frame := a.frame }) s := by
  simp only [tailAdvance, hc, if_pos hend]

end

/-- Settles O21: each state's advance on the state in which the lane has taken its frame. -/
theorem begunTakeAdvances : Obligations.BegunTakeAdvances := by
  unfold Obligations.BegunTakeAdvances
  intro l a c s hoffer hc hbegun y now answer
  have htouch : c.touch a = y := touch_of_begun a hbegun
  have hnow {m : LaneMode} (hm : (s.lane l).mode = m) :
      (s.laneTook l).setLane l { (s.laneTook l).lane l with cycle := some (c.touch a) } = now m := by
    rw [htouch, ← hm]
    rfl
  have hlane (m : LaneMode) : (now m).lane l = { s.lane l with mode := m, cycle := some y } := State.lane_setLane_same _ _ _
  have hcycle (m : LaneMode) : ((now m).lane l).cycle = some y := by rw [hlane]
  have hmoves (m k : LaneMode) : (now m).setLane l { (now m).lane l with mode := k } = now k := by
    rw [hlane]
    exact State.setLane_twice _ _ _ _
  have hquiet (m : LaneMode) (h : s.noYield l a.reel a.frame) : (now m).noYield l a.reel a.frame :=
    noYield_setLane (s := s.laneTook l) (x := { s.lane l with mode := m, cycle := some y }) rfl rfl rfl h
  have hleadin (hm : (s.lane l).mode = .leadin) (t : State) (h : leadinAdvance l a (now .leadin) = t) : answer t := by
    rw [← h, ← hnow hm, ← laneAdvance_leadin (s := s.laneTook l) hm hc]
    exact exec_lanePositionAdvance hoffer
  have htake (hm : (s.lane l).mode = .take) (t : State) (h : takeAdvance l a (now .take) = t) : answer t := by
    rw [← h, ← hnow hm, ← laneAdvance_take (s := s.laneTook l) hm hc]
    exact exec_lanePositionAdvance hoffer
  have htail (hm : (s.lane l).mode = .tail) (t : State) (h : tailAdvance l a (now .tail) = t) : answer t := by
    rw [← h, ← hnow hm, ← laneAdvance_tail (s := s.laneTook l) hm hc]
    exact exec_lanePositionAdvance hoffer
  refine ⟨fun hm hrec => ⟨fun hin => hleadin hm _ ?_, fun hin => hleadin hm _ ?_⟩,
    fun hm => ⟨fun hout => htake hm _ ?_, fun hout hend hno => htake hm _ ?_⟩, fun hm hend hno => htail hm _ ?_⟩
  · rw [leadinAdvance_of_test (hcycle _) (takeBeginTest_of_begun (hcycle _) hbegun), if_neg (not_le.mpr hin)]
  · rw [leadinAdvance_of_test (hcycle _) (takeBeginTest_of_begun (hcycle _) hbegun), if_pos hin,
      enterTake_of_on (c := y) hrec, hmoves]
  · exact takeAdvance_stays (hcycle _) hout
  · rw [takeAdvance_leaves (hcycle _) hout hend, hmoves]
    exact tailYieldTest_of_noYield (hquiet .tail hno)
  · rw [tailAdvance_runs (hcycle _) hend]
    exact tailYieldTest_of_noYield (hquiet .tail hno)

end Sys2Proof.Machine
end

section
/-! ## The write into the take journal, and the end of a cycle (O22) -/

namespace Sys2Proof.Machine

set_option Elab.async false

/-! ### The write into the take journal (R150 to R153) -/

section
variable {e x : JournalEntry} {s : State} {n : Nat}

theorem journalWrite_sealed (e : JournalEntry) (h : s.journal.isSealed = true) : journalWrite e s = (s, none) := by
  unfold journalWrite
  split
  · rfl
  · exact if_pos h

theorem journalWrite_open (e : JournalEntry) (hnext : s.journal.next = some n) (hopen : s.journal.isSealed = false) :
    journalWrite e s = (appendEntry n e (makeRoom s), some n) := by
  simp [journalWrite, hnext, hopen]

/-- The entry joins the end; the number 16,777,215 seals the journal, and any other is followed by the next (R150, R151). -/
theorem appendEntry_eq (n : Nat) (e : JournalEntry) (hopen : s.journal.isSealed = false) :
    appendEntry n e s =
      if n = 16777215 then
        post .journal (.journalSealed n (s.journal.entries ++ [{ e with sequence := n, circled := false }]).length)
          { s with
            journal :=
              { entries := s.journal.entries ++ [{ e with sequence := n, circled := false }], next := none
                isSealed := true } }
      else
        { s with
          journal :=
            { entries := s.journal.entries ++ [{ e with sequence := n, circled := false }], next := some (n + 1)
              isSealed := false } } := by
  by_cases h : n = 16777215
  · rw [if_pos h]
    exact if_pos h
  · rw [if_neg h]
    exact (if_neg h).trans (by dsimp only; rw [hopen])

theorem isSealed_makeRoom (s : State) : (makeRoom s).journal.isSealed = s.journal.isSealed := by
  have hevict (x : JournalEntry) (rest : List JournalEntry) :
      (evictCircled x rest s).journal.isSealed = s.journal.isSealed := by
    unfold evictCircled
    show (ite _ (clearCircled x.cue x.take (s.setEntries rest)) (s.setEntries rest)).journal.isSealed = _
    split <;> rfl
  unfold makeRoom
  split
  · rfl
  · split
    · rfl
    · split
      · rfl
      · exact hevict _ _

theorem makeRoom_of_room (h : s.journal.entries.length < 1024) : makeRoom s = s := if_pos h

theorem dropFirst_append {f : JournalEntry → Bool} {older newer : List JournalEntry} (hx : f x = true)
    (holder : ∀ z ∈ older, f z = false) : dropFirst f (older ++ x :: newer) = older ++ newer := by
  induction older with
  | nil => simp [dropFirst, hx]
  | cons z older ih =>
    have hz : f z = false := holder z List.mem_cons_self
    simp [dropFirst, hz, ih fun y hy => holder y (List.mem_cons_of_mem z hy)]

/-- A full journal loses its oldest uncircled entry (R152). -/
theorem makeRoom_of_uncircled {older newer : List JournalEntry} (hfull : 1024 ≤ s.journal.entries.length)
    (hentries : s.journal.entries = older ++ x :: newer) (hx : x.circled = false)
    (holder : ∀ z ∈ older, z.circled = true) : makeRoom s = s.setEntries (older ++ newer) := by
  unfold makeRoom
  rw [if_neg (show ¬s.journal.entries.length < Config.journalCapacity from not_lt.mpr hfull),
    if_pos (by simp [hentries, hx]), hentries, dropFirst_append (by simp [hx])]
  simpa using holder

/-- A full journal whose entries are all circled loses the oldest one (R153). -/
theorem makeRoom_of_circled {rest : List JournalEntry} (hfull : 1024 ≤ s.journal.entries.length)
    (hentries : s.journal.entries = x :: rest) (hall : ∀ z ∈ s.journal.entries, z.circled = true) :
    makeRoom s = evictCircled x rest s := by
  unfold makeRoom
  rw [if_neg (show ¬s.journal.entries.length < Config.journalCapacity from not_lt.mpr hfull),
    if_neg (by simpa using hall), hentries]

theorem evictCircled_remains {rest : List JournalEntry} (h : ∃ z ∈ rest, z.cue = x.cue ∧ z.take = x.take) :
    evictCircled x rest s = post .journal (.journalFull x.sequence x.cue x.take false) (s.setEntries rest) := by
  have hany : (rest.any fun z => z.cue == x.cue && z.take == x.take) = true := by simpa using h
  simp [evictCircled, hany]

/-- With the last entry of its cue and take goes the cue's circled take, where it is that one (R153). -/
theorem evictCircled_last {rest : List JournalEntry} (h : ¬∃ z ∈ rest, z.cue = x.cue ∧ z.take = x.take) {k : Bool}
    (hk : k = true ↔ ∃ r : CueRecord, s.record x.cue = some r ∧ r.circled = some x.take) :
    evictCircled x rest s =
      post .journal (.journalFull x.sequence x.cue x.take k) (clearCircled x.cue x.take (s.setEntries rest)) := by
  have hany : (rest.any fun z => z.cue == x.cue && z.take == x.take) = false := by
    rw [← Bool.not_eq_true]
    simpa using h
  cases hrec : s.record x.cue with
  | none =>
    have hheld : k = false := by simpa [hrec] using hk
    simp [evictCircled, hany, hrec, hheld]
  | some r =>
    have hheld : (r.circled == some x.take) = k := by
      rw [Bool.eq_iff_iff, hk]
      simp [hrec]
    simp [evictCircled, hany, hrec, hheld]

theorem clearCircled_eq (cue take : Nat) (s : State) :
    clearCircled cue take s =
      { s with
        table :=
          { s.table with
            records := s.table.records.map fun r =>
              if r.number = cue then (if r.circled = some take then { r with circled := none } else r) else r } } := by
  rw [clearCircled, changeCue_eq_map]
  rfl

end

/-! ### A write leaves the table but for circled takes (R153) -/

/-- The same table but for the circled takes of its records. -/
def CircledOnly (t u : CueTable) : Prop :=
  ∃ f : CueRecord → CueRecord, (∀ r, ∃ x, f r = { r with circled := x }) ∧ u = { t with records := t.records.map f }

theorem CircledOnly.refl (t : CueTable) : CircledOnly t t := ⟨id, fun r => ⟨r.circled, rfl⟩, by simp⟩

theorem circledOnly_clearCircled (cue take : Nat) (s : State) : CircledOnly s.table (clearCircled cue take s).table := by
  rw [clearCircled_eq]
  refine ⟨_, fun r => ?_, rfl⟩
  split
  · split
    · exact ⟨none, rfl⟩
    · exact ⟨r.circled, rfl⟩
  · exact ⟨r.circled, rfl⟩

theorem circledOnly_evictCircled (x : JournalEntry) (rest : List JournalEntry) (s : State) :
    CircledOnly s.table (evictCircled x rest s).table := by
  unfold evictCircled
  dsimp only
  rw [table_post]
  split
  · exact circledOnly_clearCircled _ _ (s.setEntries rest)
  · exact .refl _

theorem circledOnly_makeRoom (s : State) : CircledOnly s.table (makeRoom s).table := by
  unfold makeRoom
  split
  · exact .refl _
  · split
    · exact .refl _
    · split
      · exact .refl _
      · exact circledOnly_evictCircled _ _ s

theorem circledOnly_journalWrite (e : JournalEntry) (s : State) : CircledOnly s.table (journalWrite e s).1.table := by
  unfold journalWrite
  split
  · exact .refl _
  · next n _ =>
    split
    · exact .refl _
    · have happend : (appendEntry n e (makeRoom s)).table = (makeRoom s).table :=
        touches_appendEntry n e _ .table (by decide)
      rw [happend]
      exact circledOnly_makeRoom s

theorem lanes_journalWrite (e : JournalEntry) (s : State) : (journalWrite e s).1.lanes = s.lanes :=
  touches_journalWrite e s .lanes (by decide)

/-! ### The parts of the end of a cycle (R89) -/

section
variable {l : LaneId} {c : CycleRecord} {s : State}

/-- The take of a cue is counted and the lane's pin goes (R22). -/
def takeCounted (l : LaneId) (n : Nat) (s : State) : State :=
  { s with
    table :=
      { s.table with
        records := s.table.records.map fun r => if r.number = n then { r with takeCount := r.takeCount + 1 } else r }
    lanes := s.lanes.set l { s.lane l with pinned := none } }

theorem lane_takeCounted (n : Nat) (s : State) (k : LaneId) :
    (takeCounted l n s).lane k = if l = k then { s.lane l with pinned := none } else s.lane k :=
  State.lane_setLane s l k _

/-- The take-end claim is one step, of which the Loop Controller hears (R22, R141). -/
theorem takeEndClaim_eq {n : Nat} (hpin : (s.lane l).pinned = some n) :
    takeEndClaim l s = afterRelease n (takeCounted l n s) := by
  simp only [takeEndClaim, hpin, changeCue_eq_map]
  rfl

/-- The end of a cycle from the journal entry on, up to the arming attempt (R89, steps 3 to 7). -/
def closeCycle (l : LaneId) (e : CycleStop) (x : PunchEnd) (c : CycleRecord) (s : State) : State :=
  let j := journalWrite (c.entry l e x) s
  let u := takeEndClaim l j.1
  post .lane (.cycleEnded l c.cue (c.take.getD 0) (c.outcome e) x.recorded j.2 (u.lane l).endMode)
    (u.setLane l { u.lane l with mode := (u.lane l).endMode, cycle := none, readyLatch := false, closing := false })

/-- The arming attempt after the end of a cycle: at an advance, of a lane left in STANDBY (R89, step 8). -/
def armAfter (l : LaneId) (advance : Option Position) (t : State) : State :=
  match advance with
  | none => t
  | some q => if (t.lane l).mode = .standby then armingAttempt l q.reel q.frame t else t

theorem lane_closeCycle_mode (e : CycleStop) (x : PunchEnd) :
    ((closeCycle l e x c s).lane l).mode = ((takeEndClaim l (journalWrite (c.entry l e x) s).1).lane l).endMode := by
  show ((State.setLane _ l _).lane l).mode = _
  rw [State.lane_setLane_same]

theorem finishCycle_eq (e : CycleStop) (x : PunchEnd) (q : Option Position) :
    finishCycle l e x q c s = armAfter l q (closeCycle l e x c s) := by
  -- clearing the latch before the notice or with the rest of the lane comes to the same
  have hclose (u : State) (n : Notice) (y : Lane) :
      (post .lane n (u.setLane l { u.lane l with readyLatch := false })).setLane l y = post .lane n (u.setLane l y) :=
    congrArg (post .lane n) (State.setLane_twice u l _ y)
  have hlane (u : State) : (u.setLane l { u.lane l with readyLatch := false }).lane l = { u.lane l with readyLatch := false } :=
    State.lane_setLane_same u l _
  have hpost (u : State) (n : Notice) : (post .lane n u).lane l = u.lane l := rfl
  unfold finishCycle armAfter
  rw [lane_closeCycle_mode]
  simp only [hpost, hlane, hclose]
  rfl

theorem lane_journalWrite (e : JournalEntry) (s : State) (k : LaneId) : (journalWrite e s).1.lane k = s.lane k := by
  rw [State.lane, lanes_journalWrite]
  rfl

/-- The end of a cycle on a lane that pins its cue, part by part (R89, steps 3 to 7). -/
theorem closeCycle_eq (e : CycleStop) (x : PunchEnd) {n : Nat} (hpin : (s.lane l).pinned = some n) :
    closeCycle l e x c s =
      post .lane
        (.cycleEnded l c.cue (c.take.getD 0) (c.outcome e) x.recorded (journalWrite (c.entry l e x) s).2 (s.lane l).endMode)
        ((afterRelease n (takeCounted l n (journalWrite (c.entry l e x) s).1)).setLane l
          { s.lane l with
            mode := (s.lane l).endMode, pinned := none, cycle := none, readyLatch := false, closing := false }) := by
  have hlane := lane_journalWrite (c.entry l e x) s l
  unfold closeCycle
  dsimp only
  rw [takeEndClaim_eq (hlane ▸ hpin), lane_afterRelease, lane_takeCounted, if_pos rfl, hlane]
  rfl

/-! ### What the Punch Unit makes of the end of a take (R120 to R122) -/

/-- The port a take that ends is recorded on (R120). -/
def PunchMode.recordedPort : PunchMode → Option PortId
  | .recording p _ => some p
  | .broken p => some p
  | .idle => none
  | .dry _ => none
  | .queued _ => none

/-- Why a take that ends is dry (R120). -/
def PunchMode.dryAtEnd : PunchMode → Option DryReason
  | .dry r => some r
  | .queued _ => some .notSent
  | .idle => none
  | .recording _ _ => none
  | .broken _ => none

/-- A port's priority queue after the end of a take: the pair cancel of a PUNCH IN not sent yet, or the PUNCH OUT (R121, R122). -/
def PunchMode.priorityAtEnd (m : PunchMode) (l : LaneId) (out : PriorityNotice) (p : PortId) (x : Port) :
    List PriorityNotice :=
  match m with
  | .queued q => if p = q then x.priority.filter (fun n => !n.isPunchIn l) else x.priority
  | .recording q _ => if p = q ∧ x.attached = true then x.priority ++ [out] else x.priority
  | .idle => x.priority
  | .dry _ => x.priority
  | .broken _ => x.priority

theorem ending_eq (x : PunchLane) :
    x.ending =
      { recorded := x.mode.recordedPort.isSome, port := x.mode.recordedPort
        misses := if x.mode.recordedPort.isSome = true then x.total else 0, dry := x.mode.dryAtEnd } := by
  unfold PunchLane.ending
  cases x.mode <;> rfl

theorem punch_punchEnd (l : LaneId) (c : CycleRecord) (r : PunchReason) (s : State) :
    (punchEnd l c r s).punch = s.punch.set l { s.punchOf l with mode := .idle } := by
  have hidle {u : State} (hu : u.punch = s.punch) :
      (u.setPunch l { u.punchOf l with mode := .idle }).punch = s.punch.set l { s.punchOf l with mode := .idle } := by
    simp only [State.setPunch, State.punchOf, hu]
  unfold punchEnd
  split
  · exact hidle rfl
  · exact hidle rfl
  · exact hidle rfl
  · exact hidle (touches_postPunch _ _ s .punch (by decide))
  · exact hidle rfl

theorem port_postPunch (q : PortId) (n : PriorityNotice) (s : State) (p : PortId) :
    (postPunch q n s).port p =
      { s.port p with
        priority := if p = q ∧ (s.port p).attached = true then (s.port p).priority ++ [n] else (s.port p).priority } := by
  unfold postPunch
  by_cases hposts : p = q ∧ (s.port p).attached = true
  · rw [if_pos hposts]
    obtain ⟨rfl, hattached⟩ := hposts
    rw [if_pos hattached, State.port_setPort_same]
  · rw [if_neg hposts]
    split
    · next hattached =>
      refine State.port_setPort_ne _ _ _ _ fun hqp => hposts ?_
      subst hqp
      exact ⟨rfl, hattached⟩
    · rfl

theorem port_pairCancel (q : PortId) (s : State) (p : PortId) :
    (pairCancel l q s).port p =
      { s.port p with
        priority := if p = q then (s.port p).priority.filter (fun n => !n.isPunchIn l) else (s.port p).priority } := by
  unfold pairCancel
  by_cases hp : p = q
  · subst hp
    simp
  · rw [State.port_setPort_ne _ _ _ _ (Ne.symm hp)]
    simp [hp]

theorem port_punchEnd (l : LaneId) (c : CycleRecord) (r : PunchReason) (s : State) (p : PortId) :
    (punchEnd l c r s).port p =
      { s.port p with
        priority :=
          (s.punchOf l).mode.priorityAtEnd l (.punchOut l c.cue (c.take.getD 0) r c.last) p (s.port p) } := by
  unfold punchEnd
  cases (s.punchOf l).mode with
  | idle | dry | broken => rfl
  | queued q => exact port_pairCancel q s p
  | recording q n => exact port_postPunch q _ s p

/-! ### The end of a begun take (R89, R90) -/

/-- What an end adds to the flags of the entry (R90). -/
def CycleStop.added (e : CycleStop) (f : Flags) : Flags :=
  { f with tailCut := f.tailCut || e.tailCut, tailShort := f.tailShort || e.tailShort }

theorem added_stopAtEnd : stopAtEnd.added = id := by
  funext f
  simp [CycleStop.added, stopAtEnd]

theorem added_stopByYield : stopByYield.added = fun f => { f with tailCut := true } := by
  funext f
  simp [CycleStop.added, stopByYield]

theorem added_stopInTail : stopInTail.added = fun f => { f with tailShort := true } := by
  funext f
  simp [CycleStop.added, stopInTail]

theorem added_stopByRollLost : stopByRollLost.added = id := by
  funext f
  simp [CycleStop.added, stopByRollLost]

theorem added_stopByCancel : stopByCancel.added = id := by
  funext f
  simp [CycleStop.added, stopByCancel]

/-- The entry of a cycle, with what the Punch Unit gives at the end (R89, R120, R149). -/
theorem entry_ending (l : LaneId) (c : CycleRecord) (e : CycleStop) (x : PunchLane) :
    c.entry l e x.ending =
      { sequence := 0, cue := c.cue, lane := l, reel := c.reel, take := c.take.getD 0, outcome := c.outcome e
        recorded := x.mode.recordedPort.isSome, flags := { e.added c.flags with dry := x.mode.dryAtEnd }
        circled := false, begin := c.begin.getD 0, last := c.last, recordPort := x.mode.recordedPort
        misses := if x.mode.recordedPort.isSome = true then x.total else 0, loop := c.loop } := by
  rw [ending_eq]
  rfl

/-- A cycle that ends: the Punch Unit and the Mark Generator are told, the cycle record keeps all but its flags, the cycle closes,
and the lane may arm (R89). -/
theorem endCycle_eq (hc : (s.lane l).cycle = some c) (e : CycleStop) (told : Bool) :
    ∃ flags : Flags,
      (endMarks l told (punchEnd l c e.reason s)).lane l = { s.lane l with cycle := some { c with flags := flags } } ∧
        ∀ q : Option Position,
          endCycle l e told q s =
            armAfter l q (closeCycle l e (s.punchOf l).ending { c with flags := flags }
              (endMarks l told (punchEnd l c e.reason s))) := by
  have hlane : (punchEnd l c e.reason s).lane l = s.lane l := by
    have hlanes : (punchEnd l c e.reason s).lanes = s.lanes := touches_punchEnd l c e.reason s .lanes (by decide)
    rw [State.lane, hlanes]
    rfl
  obtain ⟨flags, hflags⟩ := (flagsOnly_endMarks l told (punchEnd l c e.reason s)).cycle (hlane ▸ hc)
  rw [hlane] at hflags
  refine ⟨flags, hflags, fun q => ?_⟩
  have hcycle : ((endMarks l told (punchEnd l c e.reason s)).lane l).cycle = some { c with flags := flags } := by
    rw [hflags]
  unfold endCycle
  rw [hc]
  dsimp only
  rw [hcycle]
  exact finishCycle_eq e _ q

theorem endedTake_closeCycle {take : Nat} {flags : Flags} (e : CycleStop) (told : Bool) (hreset : s.resetHeld = false)
    (hpin : (s.lane l).pinned = some c.cue) (htake : c.take.getD 0 = take)
    (hflags : (endMarks l told (punchEnd l c e.reason s)).lane l =
      { s.lane l with cycle := some { c with flags := flags } }) :
    EndedTake l c take told e.outcome e.reason e.added s
      (closeCycle l e (s.punchOf l).ending { c with flags := flags } (endMarks l told (punchEnd l c e.reason s))) := by
  subst htake
  unfold EndedTake
  intro recorded dry priority final next entry
  have hrecorded : (s.punchOf l).mode.recordedPort = recorded := by
    simp only [recorded]
    cases (s.punchOf l).mode <;> rfl
  have hdry : (s.punchOf l).mode.dryAtEnd = dry := by
    simp only [dry]
    cases (s.punchOf l).mode <;> rfl
  have hpriority (p : PortId) :
      (s.punchOf l).mode.priorityAtEnd l (.punchOut l c.cue (c.take.getD 0) e.reason c.last) p (s.port p) = priority p := by
    simp only [priority]
    cases (s.punchOf l).mode <;> rfl
  have hentry : CycleRecord.entry { c with flags := flags } l e (s.punchOf l).ending = entry flags := by
    rw [entry_ending, hrecorded, hdry]
    rfl
  have hpinned : ((endMarks l told (punchEnd l c e.reason s)).lane l).pinned = some c.cue := by rw [hflags]; exact hpin
  refine ⟨_, endMarks l told (punchEnd l c e.reason s), flags, punch_punchEnd l c e.reason s, fun p => ?ports,
    touches_punchEnd l c e.reason s, ?marks, ?cycle, ?closes⟩
  case ports => rw [port_punchEnd, hpriority]
  case marks =>
    cases told with
    | true =>
      have hheld : (punchEnd l c e.reason s).resetHeld = false :=
        (touches_punchEnd l c e.reason s .resetHeld (by decide)).trans hreset
      exact live_of_released hheld
    | false => exact rfl
  case cycle => rw [hflags]
  case closes =>
    intro j u
    have hcounted : takeCounted l c.cue j.1 = u := by
      rw [takeCounted, lane_journalWrite, lanes_journalWrite]
    rw [closeCycle_eq e _ hpinned, hentry, hcounted, ending_eq, hrecorded, hflags]
    rfl

/-! ### What is on offer after the end of a cycle (R19, R89) -/

theorem lane_closeCycle (e : CycleStop) (x : PunchEnd) {n : Nat} (hpin : (s.lane l).pinned = some n) (k : LaneId) :
    (closeCycle l e x c s).lane k =
      if l = k then
        { s.lane l with
          mode := (s.lane l).endMode, pinned := none, cycle := none, readyLatch := false, closing := false }
      else s.lane k := by
  rw [closeCycle_eq e x hpin]
  show (State.setLane _ l _).lane k = _
  rw [State.lane_setLane]
  split
  · rfl
  · next hk => rw [lane_afterRelease, lane_takeCounted, if_neg hk, lane_journalWrite]

theorem table_closeCycle (e : CycleStop) (x : PunchEnd) {n : Nat} (hpin : (s.lane l).pinned = some n) :
    (closeCycle l e x c s).table = (takeCounted l n (journalWrite (c.entry l e x) s).1).table := by
  rw [closeCycle_eq e x hpin]
  exact touches_afterRelease n _ .table (by decide)

theorem loop_closeCycle (e : CycleStop) (x : PunchEnd) {n : Nat} (hpin : (s.lane l).pinned = some n) (hdrain : s.notDraining) :
    (closeCycle l e x c s).loop = s.loop := by
  have hloop : (takeCounted l n (journalWrite (c.entry l e x) s).1).loop = s.loop :=
    touches_journalWrite (c.entry l e x) s .loop (by decide)
  have hquiet : (takeCounted l n (journalWrite (c.entry l e x) s).1).notDraining := by
    intro g hg
    rw [activeGroup_of_loop hloop] at hg
    rw [group_of_loop hloop]
    exact hdrain g hg
  rw [closeCycle_eq e x hpin, afterRelease_of_notDraining hquiet]
  exact hloop

end

/-- A change of the records that keeps their numbers finds a record of the same number, where the tests agree. -/
theorem map_number_find? {rs : List CueRecord} {f : CueRecord → CueRecord} {good good' : CueRecord → Bool}
    (hnumber : ∀ r, (f r).number = r.number) (hgood : ∀ r ∈ rs, good' (f r) = good r) :
    ((rs.map f).find? good').map CueRecord.number = (rs.find? good).map CueRecord.number := by
  induction rs with
  | nil => rfl
  | cons r rs ih =>
    have hr := hgood r List.mem_cons_self
    have hrs := ih fun y hy => hgood y (List.mem_cons_of_mem r hy)
    cases h : good r with
    | true => simp [hr.trans h, h, hnumber]
    | false => simpa [hr.trans h, h] using hrs

/-- Where a lane's pin goes, and of the table only circled takes and the count of the cue it pinned have changed, the same cue is
on offer, as long as the released cue's lead-in is behind (R19). -/
theorem offer_of_released {s t : State} {l : LaneId} {n reel p : Nat} {f : CueRecord → CueRecord}
    (hprofiles : t.table.profiles = s.table.profiles) (hrecords : t.table.records = s.table.records.map f)
    (hf : ∀ r, ∃ circled count,
      f r = { r with circled := circled, takeCount := count } ∧ (r.number ≠ n → count = r.takeCount))
    (hloop : t.loop = s.loop) (hrouting : ∀ k : LaneId, (t.lane k).routing = (s.lane k).routing)
    (hpinned : (s.lane l).pinned = some n) (hgone : (t.lane l).pinned = none)
    (hothers : ∀ k : LaneId, k ≠ l → (t.lane k).pinned = (s.lane k).pinned)
    (hbehind : ∀ r ∈ s.table.records, r.number = n → (s.frames r).leadIn ≤ p) :
    (t.offer l reel p).map CueRecord.number = (s.offer l reel p).map CueRecord.number := by
  have hnumber (r : CueRecord) : (f r).number = r.number := by
    obtain ⟨_, _, hr, -⟩ := hf r
    rw [hr]
  have hframes (r : CueRecord) : t.frames (f r) = s.frames r := by
    obtain ⟨_, _, hr, -⟩ := hf r
    rw [State.frames, State.profile, hr, hprofiles, hrouting]
    rfl
  have hpin {m : Nat} (hm : m ≠ n) : t.isPinned m = s.isPinned m := by
    rw [Bool.eq_iff_iff, isPinned_eq_true_iff, isPinned_eq_true_iff]
    refine exists_congr fun k => ?_
    by_cases hk : k = l
    · subst hk
      simp [hgone, hpinned, Ne.symm hm]
    · rw [hothers k hk]
  unfold State.offer
  rw [hrecords]
  refine map_number_find? hnumber fun r hr => ?_
  by_cases hrn : r.number = n
  · have hbefore : s.isPinned r.number = true := (isPinned_eq_true_iff s _).mpr ⟨l, hrn ▸ hpinned⟩
    have hlate : ¬p < (s.frames r).leadIn := not_lt.mpr (hbehind r hr hrn)
    simp [State.eligible, hframes, hbefore, hlate]
  · have hallows : t.groupAllows (f r) = s.groupAllows r := by
      obtain ⟨_, _, hfr, -⟩ := hf r
      rw [State.groupAllows, State.groupAllows, activeGroup_of_loop hloop, hfr]
    unfold State.eligible
    rw [hframes, hnumber, hpin hrn, hallows]
    obtain ⟨_, _, hfr, hcount⟩ := hf r
    rw [hfr, hcount hrn]

section
variable {l : LaneId} {c : CycleRecord} {s : State}

/-- The end of a begun take: what it makes of the state, the arming attempt after it, and what is on offer then (R89, R90). -/
theorem endCycle_ends {take : Nat} (e : CycleStop) (told : Bool) (hreset : s.resetHeld = false)
    (hc : (s.lane l).cycle = some c) (hpin : (s.lane l).pinned = some c.cue) (htake : c.take.getD 0 = take) :
    ∃ t : State, EndedTake l c take told e.outcome e.reason e.added s t ∧
      (∀ q : Option Position, endCycle l e told q s = armAfter l q t) ∧ (t.lane l).mode = (s.lane l).endMode ∧
      (s.notDraining → ∀ reel p : Nat, (∀ r ∈ s.table.records, r.number = c.cue → (s.frames r).leadIn ≤ p) →
        (t.offer l reel p).map CueRecord.number = (s.offer l reel p).map CueRecord.number) := by
  obtain ⟨flags, hflags, hend⟩ := endCycle_eq hc e told
  refine ⟨_, endedTake_closeCycle e told hreset hpin htake hflags, hend, ?_⟩
  have htouch : TouchesOnly [.lanes, .handoffs, .marks, .punch, .ports] s (endMarks l told (punchEnd l c e.reason s)) :=
    (touches_punchEnd l c e.reason s).andThen (touches_endMarks l told _)
  have hother : FlagsOnly s (endMarks l told (punchEnd l c e.reason s)) :=
    (FlagsOnly.of_lanes (touches_punchEnd l c e.reason s .lanes (by decide))).trans (flagsOnly_endMarks l told _)
  generalize endMarks l told (punchEnd l c e.reason s) = w at hflags htouch hother ⊢
  have hpinned : (w.lane l).pinned = some c.cue := by rw [hflags]; exact hpin
  have hlane := lane_closeCycle (c := { c with flags := flags }) e (s.punchOf l).ending hpinned
  refine ⟨by rw [hlane, if_pos rfl, hflags]; rfl, fun hdrain reel p hbehind => ?_⟩
  have hloop : w.loop = s.loop := htouch .loop (by decide)
  have htable : w.table = s.table := htouch .table (by decide)
  have hquiet : w.notDraining := by
    intro g hg
    rw [activeGroup_of_loop hloop] at hg
    rw [group_of_loop hloop]
    exact hdrain g hg
  have hsame (k : LaneId) : (w.lane k).routing = (s.lane k).routing ∧ (w.lane k).pinned = (s.lane k).pinned := by
    obtain ⟨_, hk⟩ := hother k
    rw [hk]
    exact ⟨rfl, rfl⟩
  obtain ⟨f, hf, hwritten⟩ :=
    circledOnly_journalWrite (CycleRecord.entry { c with flags := flags } l e (s.punchOf l).ending) w
  have hclosed := table_closeCycle (c := { c with flags := flags }) e (s.punchOf l).ending hpinned
  refine offer_of_released (f := fun r => if (f r).number = c.cue then { f r with takeCount := (f r).takeCount + 1 } else f r)
    (hloop := (loop_closeCycle e _ hpinned hquiet).trans hloop) (hpinned := hpin) (hbehind := hbehind) ?profiles ?records
    (fun r => ?counted) (fun k => ?routing) ?gone (fun k hk => ?others)
  case profiles =>
    rw [hclosed, ← htable]
    show (journalWrite _ w).1.table.profiles = w.table.profiles
    rw [hwritten]
  case records =>
    rw [hclosed, takeCounted, hwritten, htable]
    exact List.map_map
  case counted =>
    obtain ⟨x, hr⟩ := hf r
    dsimp only
    rw [hr]
    split
    · next hn => exact ⟨x, r.takeCount + 1, rfl, fun hne => absurd hn hne⟩
    · exact ⟨x, r.takeCount, rfl, fun _ => rfl⟩
  case routing =>
    rw [hlane]
    split
    · next hk => rw [← hk]; exact (hsame l).1
    · exact (hsame k).1
  case gone => rw [hlane, if_pos rfl]
  case others => rw [hlane, if_neg (Ne.symm hk)]; exact (hsame k).2

end

end Sys2Proof.Machine
end

section
/-! ## The five ends of a begun take (O22) -/

namespace Sys2Proof.Machine

set_option Elab.async false

section
variable {l : LaneId} {c : CycleRecord} {s : State}

/-! ### After an end at an advance (R89, step 8) -/

/-- A begun take that ends at an advance: the lane may arm with the cue then on offer, and what is on offer is what was (R72,
R89). -/
theorem endCycle_goesOn {take reel frame : Nat} {answer : State → Prop} (e : CycleStop) (hreset : s.resetHeld = false)
    (hc : (s.lane l).cycle = some c) (hpin : (s.lane l).pinned = some c.cue) (htake : c.take = some take)
    (hanswer : answer (endCycle l e true (some { reel := reel, frame := frame }) s)) :
    ∃ t : State, EndedTake l c take true e.outcome e.reason e.added s t ∧
      let may : Prop := (s.lane l).closing = false ∧ t.armingAllowed l
      (¬may ∨ t.offer l reel frame = none → answer t) ∧
        (∀ r : CueRecord, may → t.offer l reel frame = some r → answer (armCue l r frame t)) ∧
        (s.notDraining → (∀ r ∈ s.table.records, r.number = c.cue → (s.frames r).leadIn ≤ frame) →
          (t.offer l reel frame).map CueRecord.number = (s.offer l reel frame).map CueRecord.number) := by
  obtain ⟨t, hended, hend, hmode, hoffer⟩ := endCycle_ends e true hreset hc hpin (by rw [htake, Option.getD_some])
  rw [hend] at hanswer
  refine ⟨t, hended, fun hnot => ?stays, fun r hmay hr => ?arms, fun hdrain hbehind => hoffer hdrain reel frame hbehind⟩
  all_goals rw [endMode_eq] at hmode
  case stays =>
    cases hclosing : (s.lane l).closing with
    | true =>
      have hoff : (t.lane l).mode = .off := by rw [hmode, hclosing]; rfl
      simpa [armAfter, hoff] using hanswer
    | false =>
      have hstandby : (t.lane l).mode = .standby := by rw [hmode, hclosing]; rfl
      have hnone : armingAttempt l reel frame t = t :=
        armingAttempt_of_not (hnot.imp_left fun h hmay => h ⟨hclosing, hmay⟩)
      simpa [armAfter, hstandby, hnone] using hanswer
  case arms =>
    obtain ⟨hclosing, hmay⟩ := hmay
    have hstandby : (t.lane l).mode = .standby := by rw [hmode, hclosing]; rfl
    simpa [armAfter, hstandby, armingAttempt_of_offer hmay hr] using hanswer

theorem tailYieldTest_of_yields {a : Advance} {r : CueRecord} (hconfirmed : s.table.confirmed = true)
    (hhold : s.directorHold = false) (hclosing : (s.lane l).closing = false) (hr : s.offer l a.reel a.frame = some r)
    (hnext : (s.frames r).leadIn = a.frame + 1) :
    tailYieldTest l a s = endCycle l stopByYield true (some { reel := a.reel, frame := a.frame }) s := by
  unfold tailYieldTest
  rw [if_pos ⟨hclosing, hconfirmed, hhold⟩, hr]
  exact if_pos hnext

/-! ### A roll lost and a cancel in a begun take (R83, R86) -/

theorem laneLost_tail (h : (s.lane l).mode = .tail) : laneLost l s = endCycle l stopInTail true none s := by
  simp [laneLost, h]

theorem laneLost_begun (h : (s.lane l).mode = .take ∨ (s.lane l).mode = .leadin) (hc : (s.lane l).cycle = some c)
    (hbegun : c.begun = true) : laneLost l s = endCycle l stopByRollLost false none s := by
  rcases h with h | h
  · simp [laneLost, h]
  · rw [laneLost_leadin h, if_pos ((takeBegun_of_cycle hc).trans hbegun)]

/-- A cancel ends a begun take, and tells the Mark Generator unless the lane has left TAKE (R86, R89). -/
theorem laneCancel_begun (h : (s.lane l).mode = .leadin ∨ (s.lane l).mode = .take ∨ (s.lane l).mode = .tail)
    (hc : (s.lane l).cycle = some c) (hbegun : c.begun = true) :
    laneCancel l s = endCycle l stopByCancel (decide ((s.lane l).mode = .tail)) none s := by
  rcases h with h | h | h
  · rw [laneCancel_leadin h, if_pos ((takeBegun_of_cycle hc).trans hbegun)]
    simp [h]
  · simp [laneCancel, h]
  · simp [laneCancel, h]

theorem takeToEnd_of_begun (h : (s.lane l).mode = .leadin ∨ (s.lane l).mode = .take ∨ (s.lane l).mode = .tail)
    (hc : (s.lane l).cycle = some c) (hbegun : c.begun = true) : s.takeToEnd l = c.take := by
  have hruns : (s.lane l).mode.running = true := by rcases h with h | h | h <;> rw [h] <;> rfl
  simp [State.takeToEnd, hruns, takeBegun_of_cycle hc, hbegun, hc]

/-- An end at no advance leaves the lane as the end made it (R83, R86). -/
theorem endCycle_ends_still {take : Nat} (e : CycleStop) (told : Bool) (hreset : s.resetHeld = false)
    (hc : (s.lane l).cycle = some c) (hpin : (s.lane l).pinned = some c.cue) (htake : c.take.getD 0 = take) :
    EndedTake l c take told e.outcome e.reason e.added s (endCycle l e told none s) ∧
      ((endCycle l e told none s).lane l).mode = (s.lane l).endMode := by
  obtain ⟨t, hended, hend, hmode, -⟩ := endCycle_ends e told hreset hc hpin htake
  rw [show endCycle l e told none s = t from hend none]
  exact ⟨hended, hmode⟩

end

/-! ### The parts of O22 -/

section
variable {l : LaneId} {c : CycleRecord} {take : Nat} {s : State}

theorem takeEnds_atRollLost (hc : (s.lane l).cycle = some c) (hpin : (s.lane l).pinned = some c.cue)
    (hbegun : c.begun = true) (htake : c.take = some take) (hoffer : s.offersLaneLost l) :
    ((s.lane l).mode = .tail →
      ∃ t : State, exec (.laneRollLost l) s = .next t ∧
        EndedTake l c take true .complete .finish (fun f => { f with tailShort := true }) (s.laneTook l) t) ∧
      ((s.lane l).mode = .take ∨ (s.lane l).mode = .leadin →
        ∃ t : State, exec (.laneRollLost l) s = .next t ∧
          EndedTake l c take false .stopped .stop id (s.laneTook l) t) := by
  obtain ⟨hreset, -, -⟩ := id hoffer
  have hends (e : CycleStop) (told : Bool) :
      EndedTake l c take told e.outcome e.reason e.added (s.laneTook l) (endCycle l e told none (s.laneTook l)) :=
    (endCycle_ends_still (s := s.laneTook l) e told hreset hc hpin (by rw [htake, Option.getD_some])).1
  refine ⟨fun htail => ⟨_, exec_laneRollLost hoffer, ?_⟩, fun hruns => ⟨_, exec_laneRollLost hoffer, ?_⟩⟩
  · rw [laneLost_tail (s := s.laneTook l) htail, ← added_stopInTail]
    exact hends stopInTail true
  · rw [laneLost_begun (s := s.laneTook l) hruns hc hbegun, ← added_stopByRollLost]
    exact hends stopByRollLost false

theorem takeEnds_byCancel (hc : (s.lane l).cycle = some c) (hpin : (s.lane l).pinned = some c.cue)
    (hbegun : c.begun = true) (htake : c.take = some take) {p : PortId}
    (hcan : s.canTake p .cancelLane [BitVec.ofNat 8 l.val]) (hallowed : s.allowed p .cancelLane)
    (hruns : (s.lane l).mode = .leadin ∨ (s.lane l).mode = .take ∨ (s.lane l).mode = .tail) :
    ∃ t : State, EndedTake l c take (decide ((s.lane l).mode = .tail)) .cancelled .cancel id (s.dropItem p) t ∧
      exec (.cancelLane p [BitVec.ofNat 8 l.val]) s =
        .next (t.answered p 0x9E ([0x00] ++ num1 (if (s.lane l).closing = true then 0 else 1) ++ num1 take)) := by
  obtain ⟨hended, hmode⟩ :=
    endCycle_ends_still (s := s.dropItem p) stopByCancel (decide (((s.dropItem p).lane l).mode = .tail)) hcan.1 hc hpin
      (by rw [htake, Option.getD_some])
  have hanswer := answers_cancelLane ⟨hcan, rfl, hallowed⟩
  have hcode : ((s.lane l).endMode).code = if (s.lane l).closing = true then 0 else 1 := by
    rw [endMode_eq]
    split <;> rfl
  refine ⟨_, added_stopByCancel ▸ hended, ?_⟩
  rw [show laneCancel l (s.dropItem p) = _ from laneCancel_begun (s := s.dropItem p) hruns hc hbegun, hmode,
    takeToEnd_of_begun (s := s.dropItem p) hruns hc hbegun, htake] at hanswer
  rw [List.append_assoc, ← hcode]
  exact hanswer

end

/-- Settles O22: each end is `endCycle_ends` at its stop, and the write into the journal goes by what makes room. -/
theorem takeEnds : Obligations.TakeEnds := by
  unfold Obligations.TakeEnds
  refine ⟨fun l c take s hc hpin hbegun htake => ⟨fun a hoffer => ?advance, takeEnds_atRollLost hc hpin hbegun htake,
    fun p => takeEnds_byCancel hc hpin hbegun htake⟩, fun e s => ?journal⟩
  case advance =>
    intro y now answer goesOn yields
    have htouch : c.touch a = y := touch_of_begun a hbegun
    have hnow {m : LaneMode} (hm : (s.lane l).mode = m) :
        (s.laneTook l).setLane l { (s.laneTook l).lane l with cycle := some (c.touch a) } = now m := by
      rw [htouch, ← hm]
      rfl
    have hlane (m : LaneMode) : (now m).lane l = { s.lane l with mode := m, cycle := some y } :=
      State.lane_setLane_same _ _ _
    have hcycle (m : LaneMode) : ((now m).lane l).cycle = some y := by rw [hlane]
    have hmoves (m k : LaneMode) : (now m).setLane l { (now m).lane l with mode := k } = now k := by
      rw [hlane]
      exact State.setLane_twice _ _ _ _
    have hoffered (m : LaneMode) : (now m).offer l a.reel a.frame = s.offer l a.reel a.frame :=
      offer_setLane (s := s.laneTook l) (x := { s.lane l with mode := m, cycle := some y }) rfl rfl l _ _
    have hframes (m : LaneMode) (r : CueRecord) : (now m).frames r = s.frames r :=
      frames_setLane (s.laneTook l) l { s.lane l with mode := m, cycle := some y } rfl r
    have hleave (hm : (s.lane l).mode = .take) (t : State) (h : takeAdvance l a (now .take) = t) : answer t := by
      rw [← h, ← hnow hm, ← laneAdvance_take (s := s.laneTook l) hm hc]
      exact exec_lanePositionAdvance hoffer
    have hrun (hm : (s.lane l).mode = .tail) (t : State) (h : tailAdvance l a (now .tail) = t) : answer t := by
      rw [← h, ← hnow hm, ← laneAdvance_tail (s := s.laneTook l) hm hc]
      exact exec_lanePositionAdvance hoffer
    -- the end at the stop, of the state in which the lane took its frame, whatever hand-offs wait
    have hends (e : CycleStop) (m : LaneMode) (hs : List Handoff)
        (h : answer (endCycle l e true (some { reel := a.reel, frame := a.frame }) { now m with handoffs := hs })) :
        ∃ t : State, EndedTake l y take true e.outcome e.reason e.added { now m with handoffs := hs } t ∧ goesOn t := by
      have hx : State.lane { now m with handoffs := hs } l = { s.lane l with mode := m, cycle := some y } := hlane m
      obtain ⟨t, hended, hstays, harms, hsame⟩ :=
        endCycle_goesOn (s := { now m with handoffs := hs }) (c := y) (take := take) e hoffer.1 (hcycle m)
          (by rw [hx]; exact hpin) htake h
      rw [hx] at hstays harms
      refine ⟨t, hended, hstays, harms, fun hdrain hbehind => ?_⟩
      rw [← hoffered m]
      exact hsame hdrain fun r hr hn => (congrArg DerivedFrames.leadIn (hframes m r)).trans_le (hbehind r hr hn)
    have hfinish (m : LaneMode) (hs : List Handoff)
        (h : answer (endCycle l stopAtEnd true (some { reel := a.reel, frame := a.frame }) { now m with handoffs := hs })) :
        ∃ t : State, EndedTake l y take true .complete .finish id { now m with handoffs := hs } t ∧ goesOn t := by
      have h := hends stopAtEnd m hs h
      rwa [added_stopAtEnd] at h
    have hyield (hs : List Handoff) (hyields : yields)
        (h : answer (tailYieldTest l a { now .tail with handoffs := hs })) :
        ∃ t : State,
          EndedTake l y take true .complete .yield (fun f => { f with tailCut := true }) { now .tail with handoffs := hs } t ∧
            goesOn t := by
      obtain ⟨hconfirmed, hhold, hclosing, r, hr, hnext⟩ := hyields
      have hclosing : ((now .tail).lane l).closing = false := by rw [hlane]; exact hclosing
      rw [tailYieldTest_of_yields (s := { now .tail with handoffs := hs }) hconfirmed hhold hclosing
        ((hoffered .tail).trans hr) ((congrArg DerivedFrames.leadIn (hframes .tail r)).trans hnext)] at h
      have h := hends stopByYield .tail hs h
      rwa [added_stopByYield] at h
    refine ⟨fun hm hend => ?_, fun hm hout hend => ?_, fun hm hend hyields => ?_, fun hm hout hend hyields => ?_⟩
    · exact hfinish .tail _ (hrun hm _ (tailAdvance_ends (hcycle _) hend))
    · exact hfinish .take _ (hleave hm _ (takeAdvance_ends (hcycle _) hout hend))
    · exact hyield _ hyields (hrun hm _ (tailAdvance_runs (hcycle _) hend))
    · refine hyield _ hyields (hleave hm _ ((takeAdvance_leaves (hcycle _) hout hend).trans ?_))
      rw [hmoves]
      rfl
  case journal =>
    intro written without
    have hwrites (n : Nat) (hnext : s.journal.next = some n) (hopen : s.journal.isSealed = false) :
        journalWrite e s = (written n (makeRoom s), some n) := by
      have hroom : (makeRoom s).journal.isSealed = false := (isSealed_makeRoom s).trans hopen
      rw [journalWrite_open e hnext hopen, appendEntry_eq n e hroom]
    refine ⟨journalWrite_sealed e, fun n hnext hopen => ⟨fun hroom => ?room,
      fun older newer x hfull hentries hx holder => ?uncircled, fun x rest hfull hentries hall => ?circled⟩⟩
    all_goals rw [hwrites n hnext hopen]
    case room => rw [makeRoom_of_room hroom]
    case uncircled =>
      rw [makeRoom_of_uncircled hfull hentries hx holder]
      rfl
    case circled =>
      intro remains told
      rw [makeRoom_of_circled hfull hentries hall]
      refine ⟨fun hremains => ?_, fun hremains k hk => ?_⟩
      · rw [evictCircled_remains hremains]
        rfl
      · rw [evictCircled_last hremains hk, clearCircled_eq]
        rfl

end Sys2Proof.Machine
end

section
/-! ## What the cancel of a lane makes of the state, and of one lane after another (O46) -/

namespace Sys2Proof.Machine

set_option Elab.async false

/-! ### The hand-offs that wait for the Mark Generator (R96, R98) -/

section
variable {l : LaneId} {s : State}

theorem firstHandoff_handOff_ne {h : Handoff} {k : LaneId} (hk : h.lane ≠ k) :
    (s.handOff h).firstHandoff k = s.firstHandoff k := by
  simp [State.firstHandoff, State.handOff, List.find?_append, hk]

/-- Where no hand-off of the lane waits, the end of its marks only hands the end on (R98). -/
theorem endMarks_of_none (told : Bool) (h : s.firstHandoff l = none) :
    endMarks l told s = if told = true then s else s.handOff (.stop l false) := by
  have hnone : takeEndHandoff l s = s := by
    unfold takeEndHandoff
    rw [h]
  rw [endMarks, hnone]

theorem takeBegun_of_lane {t : State} {k : LaneId} (h : t.lane k = s.lane k) : t.takeBegun k = s.takeBegun k := by
  rw [State.takeBegun, State.takeBegun, h]

end

/-! ### What the cancel of some lanes leaves of the others -/

/-- The loop groups, the marks, and the other lanes with their punch records and their hand-offs are as before. -/
structure Spares (ls : List LaneId) (s t : State) : Prop where
  loop : t.loop = s.loop
  marks : t.marks = s.marks
  lane : ∀ k : LaneId, k ∉ ls → t.lane k = s.lane k
  punch : ∀ k : LaneId, k ∉ ls → t.punchOf k = s.punchOf k
  handoff : ∀ k : LaneId, k ∉ ls → t.firstHandoff k = s.firstHandoff k

theorem Spares.refl (ls : List LaneId) (s : State) : Spares ls s s :=
  ⟨rfl, rfl, fun _ _ => rfl, fun _ _ => rfl, fun _ _ => rfl⟩

theorem Spares.trans {ls : List LaneId} {s t u : State} (h : Spares ls s t) (h' : Spares ls t u) : Spares ls s u :=
  ⟨h'.loop.trans h.loop, h'.marks.trans h.marks, fun k hk => (h'.lane k hk).trans (h.lane k hk),
    fun k hk => (h'.punch k hk).trans (h.punch k hk), fun k hk => (h'.handoff k hk).trans (h.handoff k hk)⟩

theorem Spares.mono {ks ls : List LaneId} {s t : State} (h : Spares ks s t) (hs : ∀ k ∈ ks, k ∈ ls) : Spares ls s t :=
  ⟨h.loop, h.marks, fun k hk => h.lane k fun hm => hk (hs k hm), fun k hk => h.punch k fun hm => hk (hs k hm),
    fun k hk => h.handoff k fun hm => hk (hs k hm)⟩

theorem Spares.notDraining {ls : List LaneId} {s t : State} (h : Spares ls s t) (hdrain : s.notDraining) : t.notDraining := by
  intro g hg
  rw [activeGroup_of_loop h.loop] at hg
  rw [group_of_loop h.loop]
  exact hdrain g hg

section
variable {l : LaneId} {c : CycleRecord} {s : State}

theorem spares_setLane (l : LaneId) (s : State) (x : Lane) : Spares [l] s (s.setLane l x) :=
  ⟨rfl, rfl, fun k hk => State.lane_setLane_ne _ _ _ _ fun h => hk (by simp [h]), fun _ _ => rfl, fun _ _ => rfl⟩

theorem spares_handOff (l : LaneId) (leftTake : Bool) (s : State) : Spares [l] s (s.handOff (.stop l leftTake)) :=
  ⟨rfl, rfl, fun _ _ => rfl, fun _ _ => rfl, fun _ hk => firstHandoff_handOff_ne fun h => hk (List.mem_singleton.mpr h.symm)⟩

theorem spares_endMarks (told : Bool) (h : s.firstHandoff l = none) : Spares [l] s (endMarks l told s) := by
  rw [endMarks_of_none told h]
  split
  · exact .refl _ s
  · exact spares_handOff l false s

theorem spares_punchEnd (l : LaneId) (c : CycleRecord) (r : PunchReason) (s : State) : Spares [l] s (punchEnd l c r s) := by
  have htouch := touches_punchEnd l c r s
  have hlanes : (punchEnd l c r s).lanes = s.lanes := htouch .lanes (by decide)
  have hhandoffs : (punchEnd l c r s).handoffs = s.handoffs := htouch .handoffs (by decide)
  refine ⟨htouch .loop (by decide), htouch .marks (by decide), fun k _ => ?_, fun k hk => ?_, fun k _ => ?_⟩
  · rw [State.lane, hlanes, State.lane]
  · have hne : l ≠ k := fun h => hk (by simp [h])
    have hset : (punchEnd l c r s).punchOf k = (s.setPunch l { s.punchOf l with mode := .idle }).punchOf k := by
      rw [State.punchOf, punch_punchEnd]
      rfl
    rw [hset, State.punchOf_setPunch_ne _ _ _ _ hne]
  · rw [State.firstHandoff, hhandoffs, State.firstHandoff]

/-- From the journal entry on, the end of a cycle leaves the punch records, the marks and the hand-offs alone (R89). -/
theorem touches_closeCycle (l : LaneId) (e : CycleStop) (x : PunchEnd) (c : CycleRecord) (s : State) :
    TouchesOnly [.table, .lanes, .loop, .journal, .ports] s (closeCycle l e x c s) := by
  refine (touches_journalWrite (c.entry l e x) s).andThen (ys := [.table, .lanes, .loop, .ports]) ?_
  refine (touches_takeEndClaim l _).andThen (ys := [.lanes, .ports]) ?_
  exact (touches_setLane _ l _).andThen (touches_post _ _ _)

theorem spares_closeCycle (e : CycleStop) (x : PunchEnd) {n : Nat} (hpin : (s.lane l).pinned = some n)
    (hdrain : s.notDraining) : Spares [l] s (closeCycle l e x c s) := by
  have htouch := touches_closeCycle l e x c s
  have hpunch : (closeCycle l e x c s).punch = s.punch := htouch .punch (by decide)
  have hhandoffs : (closeCycle l e x c s).handoffs = s.handoffs := htouch .handoffs (by decide)
  refine ⟨loop_closeCycle e x hpin hdrain, htouch .marks (by decide), fun k hk => ?_, fun k _ => ?_, fun k _ => ?_⟩
  · rw [lane_closeCycle e x hpin, if_neg fun h => hk (by simp [h])]
  · rw [State.punchOf, hpunch, State.punchOf]
  · rw [State.firstHandoff, hhandoffs, State.firstHandoff]

/-! ### The four courses of a cancel (R86) -/

/-- What a cancel of the lane makes of the state while no group drains, by the lane's state. -/
inductive CancelCourse (l : LaneId) (s : State) : State → Prop
  | idle (h : (s.lane l).mode = .off ∨ (s.lane l).mode = .standby) : CancelCourse l s s
  | armed (h : (s.lane l).mode = .armed) :
    CancelCourse l s
      (s.setLane l { s.lane l with mode := .standby, pinned := none, cycle := none, closing := false })
  | falseStart (c : CycleRecord) (h : (s.lane l).mode = .leadin) (hc : (s.lane l).cycle = some c) (hbegun : c.begun = false) :
    CancelCourse l s
      ((s.handOff (.stop l false)).setLane l
        { s.lane l with
          mode := (s.lane l).endMode, pinned := none, cycle := none, closing := false
          falseStarts := satInc (s.lane l).falseStarts })
  | ends (c : CycleRecord) (hruns : (s.lane l).mode.running = true) (hc : (s.lane l).cycle = some c)
      (hpin : (s.lane l).pinned = some c.cue) (hbegun : (s.lane l).mode = .leadin → c.begun = true) :
    CancelCourse l s (endCycle l stopByCancel (decide ((s.lane l).mode = .tail)) none s)

theorem laneCancel_take (h : (s.lane l).mode = .take) : laneCancel l s = endCycle l stopByCancel false none s := by
  simp [laneCancel, h]

theorem laneCancel_tail (h : (s.lane l).mode = .tail) : laneCancel l s = endCycle l stopByCancel true none s := by
  simp [laneCancel, h]

/-- A lane that runs a cycle pins the cue of its cycle record (R67). -/
theorem cycle_of_laneInv (hinv : s.laneInv l) (hin : (s.lane l).mode.inCycle = true) :
    ∃ c : CycleRecord, (s.lane l).cycle = some c ∧ (s.lane l).pinned = some c.cue := by
  obtain ⟨-, hpin⟩ := hinv
  cases hp : (s.lane l).pinned with
  | none =>
    rw [hp] at hpin
    cases hpin.1.symm.trans hin
  | some n =>
    rw [hp] at hpin
    obtain ⟨-, ⟨c, hc, rfl⟩, -⟩ := hpin
    exact ⟨c, hc, rfl⟩

theorem idle_of_laneInv (hinv : s.laneInv l) (hidle : (s.lane l).mode.inCycle = false) :
    (s.lane l).cycle = none ∧ (s.lane l).pinned = none := by
  obtain ⟨-, hpin⟩ := hinv
  cases hp : (s.lane l).pinned with
  | none =>
    rw [hp] at hpin
    exact ⟨hpin.2, rfl⟩
  | some n =>
    rw [hp] at hpin
    cases hpin.1.symm.trans hidle

theorem cancelCourse_laneCancel (hdrain : s.notDraining) (hinv : s.laneInv l) : CancelCourse l s (laneCancel l s) := by
  cases hm : (s.lane l).mode with
  | off =>
    rw [laneCancel_idle (.inl hm)]
    exact .idle (.inl hm)
  | standby =>
    rw [laneCancel_idle (.inr hm)]
    exact .idle (.inr hm)
  | armed =>
    rw [laneCancel_armed hm, letGo_of_notDraining _ hdrain]
    exact .armed hm
  | leadin =>
    obtain ⟨c, hc, hpin⟩ := cycle_of_laneInv hinv (by rw [hm]; rfl)
    rw [laneCancel_leadin hm, takeBegun_of_cycle hc]
    cases hbegun : c.begun with
    | false =>
      rw [if_neg Bool.false_ne_true, falseStart_of_notDraining hdrain]
      exact .falseStart c hm hc hbegun
    | true =>
      have hends := CancelCourse.ends c (by rw [hm]; rfl) hc hpin fun _ => hbegun
      rwa [hm] at hends
  | take =>
    obtain ⟨c, hc, hpin⟩ := cycle_of_laneInv hinv (by rw [hm]; rfl)
    have hends := CancelCourse.ends c (by rw [hm]; rfl) hc hpin fun h => by cases h.symm.trans hm
    rw [laneCancel_take hm]
    rwa [hm] at hends
  | tail =>
    obtain ⟨c, hc, hpin⟩ := cycle_of_laneInv hinv (by rw [hm]; rfl)
    have hends := CancelCourse.ends c (by rw [hm]; rfl) hc hpin fun h => by cases h.symm.trans hm
    rw [laneCancel_tail hm]
    rwa [hm] at hends

end

/-! ### A lane and its punch record after the cancel (R86, R122) -/

/-- The lane after its cancel, with its ready latch CLEAR (R86, R87). -/
def Lane.cancelled (x : Lane) (begun : Bool) : Lane :=
  { x with
    mode := if x.mode = .off ∨ x.closing = true then .off else .standby, pinned := none, cycle := none, readyLatch := false
    closing := false
    falseStarts := if x.mode = .leadin ∧ begun = false then satInc x.falseStarts else x.falseStarts }

theorem Lane.cancelled_of_idle {x : Lane} (begun : Bool) (h : x.mode = .off ∨ x.mode = .standby) (hpin : x.pinned = none)
    (hc : x.cycle = none) (hclosing : x.closing = false) : x.cancelled begun = { x with readyLatch := false } := by
  obtain ⟨routing, mode, pinned, cycle, latch, closing, falseStarts⟩ := x
  rcases h with h | h <;> simp_all [Lane.cancelled]

theorem Lane.cancelled_of_armed {x : Lane} (begun : Bool) (h : x.mode = .armed) (hclosing : x.closing = false) :
    x.cancelled begun =
      { x with mode := .standby, pinned := none, cycle := none, readyLatch := false, closing := false } := by
  simp [Lane.cancelled, h, hclosing]

theorem Lane.cancelled_of_falseStart {x : Lane} (h : x.mode = .leadin) :
    x.cancelled false =
      { x with
        mode := x.endMode, pinned := none, cycle := none, readyLatch := false, closing := false
        falseStarts := satInc x.falseStarts } := by
  simp [Lane.cancelled, h, endMode_eq]

theorem Lane.cancelled_of_end {x : Lane} {begun : Bool} (hruns : x.mode.running = true)
    (hbegun : x.mode = .leadin → begun = true) :
    x.cancelled begun =
      { x with mode := x.endMode, pinned := none, cycle := none, readyLatch := false, closing := false } := by
  have hon : x.mode ≠ .off := fun h => by rw [h] at hruns; cases hruns
  have hnot : ¬(x.mode = .leadin ∧ begun = false) := fun h => by cases h.2.symm.trans (hbegun h.1)
  simp only [Lane.cancelled, hon, hnot, endMode_eq, false_or, if_false]

section
variable {l : LaneId} {s t : State}

theorem closing_of_laneInv (hinv : s.laneInv l) (h : (s.lane l).mode.running = false) : (s.lane l).closing = false := by
  by_contra hclosing
  cases h.symm.trans (hinv.1 (by simpa using hclosing))

theorem firstHandoff_punchEnd (k : LaneId) (c : CycleRecord) (r : PunchReason) (s : State) :
    (punchEnd l c r s).firstHandoff k = s.firstHandoff k := by
  have hhandoffs : (punchEnd l c r s).handoffs = s.handoffs := touches_punchEnd l c r s .handoffs (by decide)
  rw [State.firstHandoff, hhandoffs, State.firstHandoff]

theorem CancelCourse.spares (h : CancelCourse l s t) (hdrain : s.notDraining) (hwaits : s.firstHandoff l = none) :
    Spares [l] s t := by
  cases h with
  | idle => exact .refl _ s
  | armed => exact spares_setLane l s _
  | falseStart => exact (spares_handOff l false s).trans (spares_setLane l _ _)
  | ends c hruns hc hpin =>
    obtain ⟨flags, hflags, hend⟩ := endCycle_eq hc stopByCancel (decide ((s.lane l).mode = .tail))
    rw [hend none]
    have hends := (spares_punchEnd l c stopByCancel.reason s).trans
      (spares_endMarks (decide ((s.lane l).mode = .tail)) ((firstHandoff_punchEnd l c _ s).trans hwaits))
    exact hends.trans (spares_closeCycle _ _ (by rw [hflags]; exact hpin) (hends.notDraining hdrain))

theorem CancelCourse.lane (h : CancelCourse l s t) (hinv : s.laneInv l) :
    { t.lane l with readyLatch := false } = (s.lane l).cancelled (s.takeBegun l) := by
  cases h with
  | idle h =>
    have hidle : (s.lane l).mode.inCycle = false ∧ (s.lane l).mode.running = false := by
      rcases h with h | h <;> rw [h] <;> exact ⟨rfl, rfl⟩
    obtain ⟨hc, hpin⟩ := idle_of_laneInv hinv hidle.1
    rw [Lane.cancelled_of_idle _ h hpin hc (closing_of_laneInv hinv hidle.2)]
  | armed h =>
    rw [Lane.cancelled_of_armed _ h (closing_of_laneInv hinv (by rw [h]; rfl)), State.lane_setLane_same]
  | falseStart c h hc hbegun =>
    rw [takeBegun_of_cycle hc, hbegun, Lane.cancelled_of_falseStart h, State.lane_setLane_same]
  | ends c hruns hc hpin hbegun =>
    obtain ⟨flags, hflags, hend⟩ := endCycle_eq hc stopByCancel (decide ((s.lane l).mode = .tail))
    have hlane : (endCycle l stopByCancel (decide ((s.lane l).mode = .tail)) none s).lane l = _ :=
      (congrArg (fun u => State.lane u l) (hend none)).trans (lane_closeCycle _ _ (by rw [hflags]; exact hpin) l)
    rw [hlane, if_pos rfl, hflags, Lane.cancelled_of_end hruns fun h => (takeBegun_of_cycle hc).trans (hbegun h)]
    rfl

/-- A take that is punched is one that a cancel ends (R122). -/
theorem CancelCourse.punch (h : CancelCourse l s t)
    (hpunch : (s.punchOf l).mode ≠ .idle → (s.lane l).mode.running = true ∧ s.takeBegun l = true) :
    (t.punchOf l).mode = .idle := by
  have hunpunched (hnot : (s.lane l).mode.running = false ∨ s.takeBegun l = false) : (s.punchOf l).mode = .idle := by
    by_contra hne
    obtain ⟨hruns, hbegun⟩ := hpunch hne
    rcases hnot with hnot | hnot
    · cases hnot.symm.trans hruns
    · cases hnot.symm.trans hbegun
  cases h with
  | idle h => exact hunpunched (.inl (by rcases h with h | h <;> rw [h] <;> rfl))
  | armed h => exact hunpunched (.inl (by rw [h]; rfl))
  | falseStart c h hc hbegun => exact hunpunched (.inr ((takeBegun_of_cycle hc).trans hbegun))
  | ends c hruns hc hpin =>
    obtain ⟨flags, hflags, hend⟩ := endCycle_eq hc stopByCancel (decide ((s.lane l).mode = .tail))
    have hmarks : TouchesOnly [.lanes, .handoffs, .marks] (punchEnd l c stopByCancel.reason s) _ :=
      touches_endMarks l (decide ((s.lane l).mode = .tail)) _
    have hclose := touches_closeCycle l stopByCancel (s.punchOf l).ending { c with flags := flags }
      (endMarks l (decide ((s.lane l).mode = .tail)) (punchEnd l c stopByCancel.reason s))
    have hset : (endCycle l stopByCancel (decide ((s.lane l).mode = .tail)) none s).punch = _ :=
      (congrArg State.punch (hend none)).trans
        ((hclose .punch (by decide)).trans ((hmarks .punch (by decide)).trans (punch_punchEnd l c _ s)))
    rw [State.punchOf, hset]
    simp

/-- Each course is the one the statement of a cancelled lane describes (R84, R86, R87). -/
theorem CancelCourse.cancelledLane (h : CancelCourse l s t) (hreset : s.resetHeld = false) : CancelledLane l s t := by
  cases h with
  | idle h => rcases h with h | h <;> simp [CancelledLane, h]
  | armed h => simp [CancelledLane, h]
  | falseStart c h hc hbegun => simp [CancelledLane, h, hc, hbegun, endMode_eq]
  | ends c hruns hc hpin hbegun =>
    have hended := (endCycle_ends_still stopByCancel (decide ((s.lane l).mode = .tail)) hreset hc hpin rfl).1
    rw [added_stopByCancel] at hended
    refine ⟨fun hidle => ?notIdle, fun harmed => ?notArmed, fun y hy => ⟨fun hleadin hnot => ?begun, fun _ _ => ?ended⟩⟩
    case notIdle => rcases hidle with h | h <;> rw [h] at hruns <;> cases hruns
    case notArmed => rw [harmed] at hruns; cases hruns
    all_goals obtain rfl := Option.some.inj (hy.symm.trans hc)
    case begun => cases hnot.symm.trans (hbegun hleadin)
    case ended => exact hended

end

/-! ### One lane after another (R87) -/

/-- No group drains, RESET is not held, the pins meet their invariant, no hand-off of the lanes named waits, and none of them is
punched but for a begun take. -/
structure MayCancel (ls : List LaneId) (s : State) : Prop where
  quiet : s.notDraining
  released : s.resetHeld = false
  cues : s.cueInv
  waits : ∀ l ∈ ls, s.firstHandoff l = none
  punch : ∀ l ∈ ls, (s.punchOf l).mode ≠ .idle → (s.lane l).mode.running = true ∧ s.takeBegun l = true

/-- The lanes are cancelled one after another. -/
def cancelLanes (ls : List LaneId) (s : State) : State := ls.foldl (fun t l => laneCancel l t) s

section
variable {l : LaneId} {ls : List LaneId} {s : State}

theorem MayCancel.course (h : MayCancel (l :: ls) s) : CancelCourse l s (laneCancel l s) :=
  cancelCourse_laneCancel h.quiet (h.cues.2 l)

theorem MayCancel.spares (h : MayCancel (l :: ls) s) : Spares [l] s (laneCancel l s) :=
  h.course.spares h.quiet (h.waits l List.mem_cons_self)

theorem MayCancel.rest (h : MayCancel (l :: ls) s) (hl : l ∉ ls) : MayCancel ls (laneCancel l s) := by
  have hspares := h.spares
  have hne {k : LaneId} (hk : k ∈ ls) : k ∉ [l] := fun hm => hl (List.mem_singleton.mp hm ▸ hk)
  refine ⟨hspares.notDraining h.quiet, ?_, cueInv_laneCancel l h.cues, fun k hk => ?_, fun k hk => ?_⟩
  · exact (touches_laneCancel l s .resetHeld (by decide)).trans h.released
  · exact (hspares.handoff k (hne hk)).trans (h.waits k (List.mem_cons_of_mem l hk))
  · rw [hspares.punch k (hne hk), hspares.lane k (hne hk), takeBegun_of_lane (hspares.lane k (hne hk))]
    exact h.punch k (List.mem_cons_of_mem l hk)

theorem MayCancel.cancelLanes_append {pre post : List LaneId} (h : MayCancel (pre ++ post) s) (hnodup : (pre ++ post).Nodup) :
    MayCancel post (cancelLanes pre s) := by
  induction pre generalizing s with
  | nil => exact h
  | cons k pre ih =>
    obtain ⟨hk, hnodup⟩ := List.nodup_cons.mp hnodup
    exact ih (h.rest hk) hnodup

theorem spares_cancelLanes (h : MayCancel ls s) (hnodup : ls.Nodup) : Spares ls s (cancelLanes ls s) := by
  induction ls generalizing s with
  | nil => exact .refl [] s
  | cons k ls ih =>
    obtain ⟨hk, hnodup⟩ := List.nodup_cons.mp hnodup
    exact (h.spares.mono (by simp)).trans ((ih (h.rest hk) hnodup).mono fun j hj => List.mem_cons_of_mem k hj)

/-- Each lane is the one its own cancel left (R87). -/
theorem lane_cancelLanes (h : MayCancel ls s) (hnodup : ls.Nodup) (hl : l ∈ ls) :
    { (cancelLanes ls s).lane l with readyLatch := false } = (s.lane l).cancelled (s.takeBegun l) ∧
      ((cancelLanes ls s).punchOf l).mode = .idle := by
  induction ls generalizing s with
  | nil => cases hl
  | cons k ls ih =>
    obtain ⟨hk, hlist⟩ := List.nodup_cons.mp hnodup
    by_cases hkl : l = k
    · subst hkl
      have hlater := spares_cancelLanes (h.rest hk) hlist
      have hlane : (cancelLanes (l :: ls) s).lane l = (laneCancel l s).lane l := hlater.lane l hk
      have hpunch : (cancelLanes (l :: ls) s).punchOf l = (laneCancel l s).punchOf l := hlater.punch l hk
      rw [hlane, hpunch]
      exact ⟨h.course.lane (h.cues.2 l), h.course.punch (h.punch l hl)⟩
    · have hlane := h.spares.lane l (by simpa using hkl)
      have hrest := ih (h.rest hk) hlist ((List.mem_cons.mp hl).resolve_left hkl)
      rwa [hlane, takeBegun_of_lane hlane] at hrest

end

end Sys2Proof.Machine
end

section
/-! ## CLEAR STAGE (O46) -/

namespace Sys2Proof.Machine

set_option Elab.async false

/-! ### The active group is stopped (R133, R137, R146) -/

section
variable {g : GroupId} {s : State}

theorem mem_allGroups : ∀ g : GroupId, g ∈ allGroups := by decide

theorem activeGroup_eq_none_iff (s : State) : s.activeGroup = none ↔ ∀ g : GroupId, (s.group g).mode.isActive = false := by
  simp [State.activeGroup, List.find?_eq_none, mem_allGroups]

theorem isActive_of_activeGroup (h : s.activeGroup = some g) : (s.group g).mode.isActive = true := by
  simpa using List.find?_some h

theorem loopStopActive_of_none (c : LoopCause) (h : s.activeGroup = none) : loopStopActive c s = s := by
  simp [loopStopActive, h]

theorem loopStopActive_of_some (c : LoopCause) (h : s.activeGroup = some g) : loopStopActive c s = loopHalt g .idle c s := by
  simp [loopStopActive, h]

theorem postToTransport_of_port {q : PortId} (n : PriorityNotice) (h : (s.group g).port = some q) :
    postToTransport g n s = postTransport q n s := by
  simp [postToTransport, h]

/-- What a change of a group's state to one but LOCATING makes of the state (R133, R146). -/
theorem loopChange_eq (m : LoopMode) (c : LoopCause) (hm : m ≠ .locating) :
    loopChange g m c s =
      post .loop (.loopState g m (s.group g).passes c none)
        { s with
          loop :=
            { groups := s.loop.groups.set g { s.group g with mode := m, cause := c }, locateTimer := .stopped
              locateSent := false } } := by
  unfold loopChange Group.notice
  dsimp only
  rw [if_neg hm]
  rfl

theorem group_loopHalt (m : LoopMode) (c : LoopCause) (h : GroupId) :
    (loopHalt g m c s).group h = if g = h then { s.group g with mode := m, cause := c } else s.group h := by
  have hloop : (postToTransport g (.halt g c) s).loop = s.loop := touches_postToTransport g _ s .loop (by decide)
  have hset : (loopHalt g m c s).group h =
      (State.setGroup (postToTransport g (.halt g c) s) g
        { (postToTransport g (.halt g c) s).group g with mode := m, cause := c }).group h := rfl
  rw [hset, State.group_setGroup, group_of_loop hloop, group_of_loop hloop]

/-- The stop of the active group, which no other group joins, leaves none active (R133). -/
theorem activeGroup_loopStopActive (c : LoopCause) (hinv : s.loopInv) : (loopStopActive c s).activeGroup = none := by
  cases hg : s.activeGroup with
  | none => rw [loopStopActive_of_none c hg, hg]
  | some g =>
    obtain ⟨hone, -, -⟩ := hinv
    rw [loopStopActive_of_some c hg, activeGroup_eq_none_iff]
    intro h
    rw [group_loopHalt]
    split
    · rfl
    · next hne =>
      by_contra hactive
      exact hne (hone g h (isActive_of_activeGroup hg) (by simpa using hactive))

theorem loopHalt_eq {q : PortId} (c : LoopCause) (hport : (s.group g).port = some q) :
    loopHalt g .idle c s =
      post .loop (.loopState g .idle (s.group g).passes c none)
        { postTransport q (.halt g c) s with
          loop :=
            { groups := s.loop.groups.set g { s.group g with mode := .idle, cause := c }, locateTimer := .stopped
              locateSent := false } } := by
  have hloop : (postTransport q (.halt g c) s).loop = s.loop := touches_postTransport q _ s .loop (by decide)
  rw [loopHalt, postToTransport_of_port _ hport, loopChange_eq _ _ (by decide), group_of_loop hloop, hloop]

end

/-! ### What follows the cancels (R87, R112, R132, R148) -/

/-- The latches, the marks, the Punch Unit's flags and the links go. -/
def clearRest (s : State) : State :=
  { allLanes.foldl clearTallied (allLanes.foldl clearReady (clearMarks (allLanes.foldl clearLatch s))) with
    links := Vector.replicate 4 .normal }

/-- The stage as the active group's stop leaves it to the cancels (R87; log 16). -/
def stageStopped (s : State) : State := loopStopActive .clear { s with handoffs := [] }

/-- CLEAR STAGE, part by part (R87; log 16). -/
theorem clearStage_eq (s : State) : clearStage s = clearRest (cancelLanes allLanes (stageStopped s)) := rfl

section
variable (s : State)

theorem touches_clearLatches : TouchesOnly [.lanes] s (allLanes.foldl clearLatch s) :=
  TouchesOnly.foldl (fun s l => touches_setLane s l _) _ s

theorem touches_clearReadies : TouchesOnly [.punch] s (allLanes.foldl clearReady s) :=
  TouchesOnly.foldl (fun s l => touches_setPunch s l _) _ s

theorem touches_clearTallies : TouchesOnly [.punch] s (allLanes.foldl clearTallied s) :=
  TouchesOnly.foldl (fun s l => touches_setPunch s l _) _ s

theorem lane_clearLatches (l : LaneId) :
    (allLanes.foldl clearLatch s).lane l = { s.lane l with readyLatch := false } :=
  foldl_lanewise (read := State.lane) (g := fun x => { x with readyLatch := false }) (fun s l => State.lane_setLane_same s l _)
    (fun s l k h => State.lane_setLane_ne s l k _ h) s l

theorem punchOf_clearReadies (l : LaneId) :
    (allLanes.foldl clearReady s).punchOf l = { s.punchOf l with ready := false } :=
  foldl_lanewise (read := State.punchOf) (g := fun x => { x with ready := false })
    (fun s l => State.punchOf_setPunch_same s l _) (fun s l k h => State.punchOf_setPunch_ne s l k _ h) s l

theorem punchOf_clearTallies (l : LaneId) :
    (allLanes.foldl clearTallied s).punchOf l = { s.punchOf l with tallied := false } :=
  foldl_lanewise (read := State.punchOf) (g := fun x => { x with tallied := false })
    (fun s l => State.punchOf_setPunch_same s l _) (fun s l k h => State.punchOf_setPunch_ne s l k _ h) s l

/-- Channels released one after another: each named one is BLANK with no holder, and nothing else of the marks changes (R105). -/
theorem marks_releaseChannels (cs : List ChannelId) (s : State) :
    (∀ c : ChannelId, (cs.foldl (fun t c => releaseChannel c t) s).channel c =
      if c ∈ cs then { s.channel c with holder := none, drawing := .blank } else s.channel c) ∧
      (cs.foldl (fun t c => releaseChannel c t) s).marks.collisions = s.marks.collisions := by
  induction cs generalizing s with
  | nil => exact ⟨fun _ => rfl, rfl⟩
  | cons d cs ih =>
    obtain ⟨hchannel, hcollisions⟩ := ih (releaseChannel d s)
    refine ⟨fun c => ?_, hcollisions⟩
    rw [List.foldl_cons, hchannel]
    by_cases hd : d = c
    · subst hd
      simp [releaseChannel]
    · simp [releaseChannel, State.channel_setChannel_ne _ _ _ _ hd, Ne.symm hd]

theorem mem_allChannels : ∀ c : ChannelId, c ∈ allChannels := by decide

theorem channel_clearMarks (c : ChannelId) :
    (clearMarks s).channel c = { s.channel c with holder := none, drawing := .blank } := by
  have h := (marks_releaseChannels allChannels s).1 c
  rw [if_pos (mem_allChannels c)] at h
  exact h

theorem markLane_clearMarks (l : LaneId) : (clearMarks s).markLane l = idleMarkLane := by
  simp [State.markLane, clearMarks]

/-- What comes after the marks writes the punch records and the links alone (R132). -/
theorem touches_clearRest_ofMarks :
    TouchesOnly [.punch, .links] (clearMarks (allLanes.foldl clearLatch s)) (clearRest s) := by
  have hlinks (t : State) : TouchesOnly [.links] t { t with links := Vector.replicate 4 .normal } := by
    intro x hx
    cases x with
    | links => simp at hx
    | _ => rfl
  unfold clearRest
  refine (touches_clearReadies _).andThen (ys := [.punch, .links]) ?_
  exact (touches_clearTallies _).andThen (hlinks _)

theorem touches_clearRest : TouchesOnly [.lanes, .handoffs, .marks, .punch, .links] s (clearRest s) := by
  refine (touches_clearLatches s).andThen (ys := [.handoffs, .marks, .punch, .links]) ?_
  exact (touches_clearMarks _).andThen (touches_clearRest_ofMarks s)

theorem lane_clearRest (l : LaneId) : (clearRest s).lane l = { s.lane l with readyLatch := false } := by
  have hpunch : (clearRest s).lanes = (clearMarks (allLanes.foldl clearLatch s)).lanes :=
    touches_clearRest_ofMarks s .lanes (by decide)
  have hmarks : (clearMarks (allLanes.foldl clearLatch s)).lanes = (allLanes.foldl clearLatch s).lanes :=
    touches_clearMarks _ .lanes (by decide)
  rw [State.lane, hpunch, hmarks]
  exact lane_clearLatches s l

theorem punchOf_clearRest (l : LaneId) :
    (clearRest s).punchOf l = { s.punchOf l with ready := false, tallied := false } := by
  have hmarks : (clearMarks (allLanes.foldl clearLatch s)).punch = (allLanes.foldl clearLatch s).punch :=
    touches_clearMarks _ .punch (by decide)
  have hlatches : (allLanes.foldl clearLatch s).punch = s.punch := touches_clearLatches s .punch (by decide)
  have hsame : (clearMarks (allLanes.foldl clearLatch s)).punchOf l = s.punchOf l := by
    rw [State.punchOf, hmarks, hlatches, State.punchOf]
  have hlinks (t : State) : State.punchOf { t with links := Vector.replicate 4 .normal } l = t.punchOf l := rfl
  rw [clearRest, hlinks, punchOf_clearTallies, punchOf_clearReadies, hsame]

theorem marks_clearRest : (clearRest s).marks = (clearMarks (allLanes.foldl clearLatch s)).marks :=
  touches_clearRest_ofMarks s .marks (by decide)

theorem marks_clearLatches : (allLanes.foldl clearLatch s).marks = s.marks := touches_clearLatches s .marks (by decide)

theorem markLane_clearRest (l : LaneId) : (clearRest s).markLane l = idleMarkLane := by
  rw [State.markLane, marks_clearRest]
  exact markLane_clearMarks _ l

theorem channel_clearRest (c : ChannelId) :
    (clearRest s).channel c = { s.channel c with holder := none, drawing := .blank } := by
  have hchannel : (allLanes.foldl clearLatch s).channel c = s.channel c := by
    rw [State.channel, marks_clearLatches, State.channel]
  rw [State.channel, marks_clearRest, ← hchannel]
  exact channel_clearMarks _ c

theorem collisions_clearRest : (clearRest s).marks.collisions = s.marks.collisions := by
  rw [marks_clearRest, ← marks_clearLatches s]
  exact (marks_releaseChannels allChannels _).2

theorem handoffs_clearRest : (clearRest s).handoffs = [] :=
  touches_clearRest_ofMarks s .handoffs (by decide)

theorem link_clearRest (q : PortId) : (clearRest s).link q = .normal := by
  simp [State.link, clearRest]

end

/-! ### The request (R87) -/

/-- A lane runs the cycle of a cue exactly while it pins one (R67). -/
theorem inCycle_eq_pinned {s : State} (hcue : s.cueInv) (l : LaneId) : (s.lane l).mode.inCycle = (s.lane l).pinned.isSome := by
  cases hin : (s.lane l).mode.inCycle with
  | true =>
    obtain ⟨c, -, hpin⟩ := cycle_of_laneInv (hcue.2 l) hin
    rw [hpin]
    rfl
  | false =>
    rw [(idle_of_laneInv (hcue.2 l) hin).2]
    rfl

theorem lanesInCycle_eq {s : State} (hcue : s.cueInv) :
    s.lanesInCycle = allLanes.countP fun l => (s.lane l).pinned.isSome := by
  simp only [State.lanesInCycle, inCycle_eq_pinned hcue]

section
variable {s : State}

theorem touches_stageStopped (s : State) : TouchesOnly [.handoffs, .loop, .ports] s (stageStopped s) :=
  (touches_handoffs s []).andThen (touches_loopStopActive .clear _)

theorem lane_stageStopped (l : LaneId) : (stageStopped s).lane l = s.lane l := by
  have hlanes : (stageStopped s).lanes = s.lanes := touches_stageStopped s .lanes (by decide)
  rw [State.lane, hlanes, State.lane]

theorem punchOf_stageStopped (l : LaneId) : (stageStopped s).punchOf l = s.punchOf l := by
  have hpunch : (stageStopped s).punch = s.punch := touches_stageStopped s .punch (by decide)
  rw [State.punchOf, hpunch, State.punchOf]

theorem marks_stageStopped : (stageStopped s).marks = s.marks := touches_stageStopped s .marks (by decide)

theorem handoffs_stageStopped : (stageStopped s).handoffs = [] :=
  touches_loopStopActive .clear { s with handoffs := [] } .handoffs (by decide)

theorem group_stageStopped_of_active {g : GroupId} (hg : s.activeGroup = some g) (h : GroupId) :
    (stageStopped s).group h = if g = h then { s.group g with mode := .idle, cause := .clear } else s.group h := by
  have hactive : State.activeGroup { s with handoffs := [] } = some g := hg
  rw [stageStopped, loopStopActive_of_some .clear hactive, group_loopHalt]
  rfl

theorem group_stageStopped_of_not {h : GroupId} (hh : s.activeGroup ≠ some h) : (stageStopped s).group h = s.group h := by
  cases hg : s.activeGroup with
  | none =>
    have hnone : State.activeGroup { s with handoffs := [] } = none := hg
    rw [stageStopped, loopStopActive_of_none .clear hnone]
    rfl
  | some g => rw [group_stageStopped_of_active hg, if_neg fun e => hh (hg.trans (congrArg some e))]

theorem activeGroup_stageStopped (hloop : s.loopInv) : (stageStopped s).activeGroup = none :=
  activeGroup_loopStopActive (s := { s with handoffs := [] }) .clear hloop

theorem mayCancel_stageStopped (hreset : s.resetHeld = false) (hcue : s.cueInv) (hloop : s.loopInv)
    (hbegun : ∀ l : LaneId, (s.punchOf l).mode ≠ .idle → (s.lane l).mode.running = true ∧ s.takeBegun l = true) :
    MayCancel allLanes (stageStopped s) := by
  refine ⟨fun g hg => ?_, (touches_stageStopped s .resetHeld (by decide)).trans hreset,
    cueInv_of_touches hcue (touches_stageStopped s), fun l _ => ?_, fun l _ => ?_⟩
  · cases hg.symm.trans (activeGroup_stageStopped hloop)
  · rw [State.firstHandoff, handoffs_stageStopped]
    rfl
  · rw [punchOf_stageStopped, lane_stageStopped, takeBegun_of_lane (lane_stageStopped l)]
    exact hbegun l

/-- The stage once the lanes below a number have been cancelled. -/
def stageCancelled (s : State) (k : Fin 9) : State := cancelLanes (allLanes.take k) (stageStopped s)

theorem take_allLanes : ∀ l : LaneId, allLanes.take l.succ = allLanes.take l.castSucc ++ [l] := by decide

theorem stageCancelled_succ (s : State) (l : LaneId) :
    stageCancelled s l.succ = laneCancel l (stageCancelled s l.castSucc) := by
  rw [stageCancelled, take_allLanes, cancelLanes, List.foldl_append]
  rfl

theorem cancelledLane_stageCancelled (h : MayCancel allLanes (stageStopped s)) (l : LaneId) :
    CancelledLane l (stageCancelled s l.castSucc) (stageCancelled s l.succ) := by
  have hsplit : ∀ l : LaneId, allLanes = allLanes.take l.castSucc ++ l :: allLanes.drop l.succ := by decide
  have hnodup : allLanes.Nodup := by decide
  have hmay : MayCancel (l :: allLanes.drop l.succ) (stageCancelled s l.castSucc) := by
    rw [hsplit l] at h hnodup
    exact h.cancelLanes_append hnodup
  rw [stageCancelled_succ]
  exact hmay.course.cancelledLane hmay.released

end

section
variable {s : State}

theorem loop_clearStage (h : MayCancel allLanes (stageStopped s)) : (clearStage s).loop = (stageStopped s).loop := by
  rw [clearStage_eq]
  exact (touches_clearRest _ .loop (by decide)).trans (spares_cancelLanes h (by decide)).loop

theorem marks_cancelLanes_stage (h : MayCancel allLanes (stageStopped s)) :
    (cancelLanes allLanes (stageStopped s)).marks = s.marks :=
  (spares_cancelLanes h (by decide)).marks.trans marks_stageStopped

theorem lane_clearStage (h : MayCancel allLanes (stageStopped s)) (l : LaneId) :
    (clearStage s).lane l = (s.lane l).cancelled (s.takeBegun l) := by
  have hlane := (lane_cancelLanes h (by decide) (mem_allLanes l)).1
  rw [lane_stageStopped, takeBegun_of_lane (lane_stageStopped l)] at hlane
  rw [clearStage_eq, lane_clearRest, hlane]

/-- No take is punched, and the lane's flags are CLEAR (R122, R132). -/
theorem punchOf_clearStage (h : MayCancel allLanes (stageStopped s)) (l : LaneId) :
    ((clearStage s).punchOf l).ready = false ∧ ((clearStage s).punchOf l).tallied = false ∧
      ((clearStage s).punchOf l).mode = .idle := by
  have hmode := (lane_cancelLanes h (by decide) (mem_allLanes l)).2
  rw [clearStage_eq, punchOf_clearRest]
  generalize cancelLanes allLanes (stageStopped s) = u at hmode ⊢
  exact ⟨rfl, rfl, hmode⟩

theorem channel_clearStage (h : MayCancel allLanes (stageStopped s)) (c : ChannelId) :
    (clearStage s).channel c = { s.channel c with holder := none, drawing := .blank } := by
  have hchannel : (cancelLanes allLanes (stageStopped s)).channel c = s.channel c := by
    rw [State.channel, marks_cancelLanes_stage h, State.channel]
  rw [clearStage_eq, channel_clearRest, hchannel]

theorem collisions_clearStage (h : MayCancel allLanes (stageStopped s)) :
    (clearStage s).marks.collisions = s.marks.collisions := by
  rw [clearStage_eq, collisions_clearRest, marks_cancelLanes_stage h]

end

/-- Settles O46: the active group's stop, the eight cancels, each on the stage the one before left, and what follows them. -/
theorem clearStageClears : Obligations.ClearStageClears := by
  unfold Obligations.ClearStageClears
  intro p s h hcue hpunch hloop
  obtain ⟨-, -, -, -, hbegun⟩ := hpunch
  have hcues : (s.dropItem p).cueInv := cueInv_of_touches hcue (touches_setPort s p _)
  have hmay := mayCancel_stageStopped (s := s.dropItem p) h.1.1 hcues hloop hbegun
  have hstage := loop_clearStage hmay
  refine ⟨clearStage (s.dropItem p), ?answer, ?noGroup, fun l => ?lane, fun c => ?channel, fun q => link_clearRest _ q,
    handoffs_clearRest _, collisions_clearStage hmay, fun g hg => ?active, fun g hg => ?other,
    (touches_clearStage _).mono (by decide), stageCancelled (s.dropItem p),
    ⟨fun hnone => loopStopActive_of_none .clear hnone, fun g q hg hport => ?stopped⟩, cancelledLane_stageCancelled hmay,
    touches_clearRest _⟩
  case answer =>
    have hcount := lanesInCycle_eq hcues
    have hanswer := answers_ok h (t := clearStage (s.dropItem p)) rfl
    rwa [hcount] at hanswer
  case noGroup => rw [activeGroup_of_loop hstage, activeGroup_stageStopped (s := s.dropItem p) hloop]
  case lane =>
    have hmarks : (clearStage (s.dropItem p)).markLane l = idleMarkLane := by rw [clearStage_eq, markLane_clearRest]
    rw [lane_clearStage hmay, hmarks]
    exact ⟨rfl, rfl, rfl, rfl, rfl, rfl, rfl, rfl, rfl, rfl, punchOf_clearStage hmay l⟩
  case channel =>
    rw [channel_clearStage hmay]
    exact ⟨rfl, rfl, rfl⟩
  case active => rw [group_of_loop hstage, group_stageStopped_of_active (s := s.dropItem p) hg, if_pos rfl]; rfl
  case other => rw [group_of_loop hstage, group_stageStopped_of_not (s := s.dropItem p) hg]; rfl
  case stopped =>
    have hactive : State.activeGroup { s.dropItem p with handoffs := [] } = some g := hg
    have hq : (State.group { s.dropItem p with handoffs := [] } g).port = some q := hport
    exact (loopStopActive_of_some .clear hactive).trans (loopHalt_eq .clear hq)

end Sys2Proof.Machine
end

section
/-! ## The marks past flags and channels

What a wipe flag leaves of the lanes' marks and the channels, and how writes of the two commute (R95 to R107). -/

namespace Sys2Proof.Machine

set_option Elab.async false

theorem markLane_of_marks {s t : State} (h : t.marks = s.marks) (l : LaneId) : t.markLane l = s.markLane l := by
  rw [State.markLane, h, State.markLane]

theorem channel_of_marks {s t : State} (h : t.marks = s.marks) (c : ChannelId) : t.channel c = s.channel c := by
  rw [State.channel, h, State.channel]

section
variable (s : State) (l k : LaneId) (c : ChannelId)

/-! ### Flags (R104, R106) -/

@[simp] theorem marks_addMarkFlag (cue : Nat) (f : Flags → Flags) : (addMarkFlag l cue f s).marks = s.marks :=
  touches_addMarkFlag l cue f s .marks (by decide)

@[simp] theorem markLane_addMarkFlag (cue : Nat) (f : Flags → Flags) : (addMarkFlag l cue f s).markLane k = s.markLane k :=
  markLane_of_marks (marks_addMarkFlag s l cue f) k

@[simp] theorem channel_addMarkFlag (cue : Nat) (f : Flags → Flags) : (addMarkFlag l cue f s).channel c = s.channel c :=
  channel_of_marks (marks_addMarkFlag s l cue f) c

/-! ### Marks and channels (R104 to R107) -/

/-- A lane's marks and a channel are written in either order. -/
theorem setMarkLane_setChannel (x : MarkLane) (y : Channel) :
    (s.setChannel c y).setMarkLane l x = (s.setMarkLane l x).setChannel c y := rfl

end

/-- A free channel has no holder (R103). -/
theorem holder_of_freeChannel {s : State} {c : ChannelId} (h : s.freeChannel = some c) : (s.channel c).holder = none := by
  simpa using List.find?_some h

theorem bid_of_channel {x : MarkLane} {c : ChannelId} (h : x.channel = some c) : x.bid = .holding c := by
  unfold MarkLane.channel at h
  split at h
  · next heq => rw [heq, Option.some.inj h]
  all_goals cases h

end Sys2Proof.Machine
end

section
/-! ## Every step keeps the overlay (O60) -/

namespace Sys2Proof.Machine

set_option Elab.async false

section
variable {s t : State} {l : LaneId} {c : ChannelId}

/-! ### Single updates -/

/-- The invariant reads the lanes' marks and the channels alone. -/
theorem overlayInv_of_overlay (h : s.overlayInv) (hlane : ∀ k, t.markLane k = s.markLane k)
    (hchannel : ∀ d, t.channel d = s.channel d) : t.overlayInv := by
  unfold State.overlayInv
  simp only [hlane, hchannel]
  exact h

theorem overlayInv_of_marks (hmarks : t.marks = s.marks) (h : s.overlayInv) : t.overlayInv :=
  overlayInv_of_overlay h (markLane_of_marks hmarks) (channel_of_marks hmarks)

theorem overlayInv_of_touches {xs : List Part} (ht : TouchesOnly xs s t) (h : s.overlayInv)
    (hmarks : Part.marks ∉ xs := by decide) : t.overlayInv := overlayInv_of_marks (ht .marks hmarks) h

theorem overlayInv_ite {p : Prop} [Decidable p] (hs : s.overlayInv) (ht : t.overlayInv) :
    (if p then s else t).overlayInv := by
  split
  · exact hs
  · exact ht

theorem overlayInv_foldl {α : Type} {f : State → α → State} (hf : ∀ {u : State} (x : α), u.overlayInv → (f u x).overlayInv)
    (xs : List α) {s : State} (h : s.overlayInv) : (xs.foldl f s).overlayInv := by
  induction xs generalizing s with
  | nil => exact h
  | cons x xs ih => exact ih (hf x h)

/-- A lane's marks are written: a channel they hold is the lane's, and with no setup they are idle. -/
theorem overlayInv_setMarkLane {x : MarkLane} (h : s.overlayInv)
    (hholds : ∀ c, x.bid = .holding c → (s.channel c).holder = some l) (hidle : x.setup = none → x.bid = .idle) :
    (s.setMarkLane l x).overlayInv := by
  obtain ⟨hblank, hheld, hnone⟩ := h
  refine ⟨hblank, fun k d hk => ?_, fun k hk => ?_⟩
  all_goals
    rw [State.markLane_setMarkLane] at hk
    split at hk
  · next hlk => exact hlk ▸ hholds d hk
  · exact hheld k d hk
  · next hlk => rw [← hlk, State.markLane_setMarkLane_same]; exact hidle hk
  · next hlk => rw [State.markLane_setMarkLane_ne _ _ _ _ hlk]; exact hnone k hk

/-- A channel is written: it is BLANK exactly with no holder, and still its lane's where a lane holds it. -/
theorem overlayInv_setChannel {x : Channel} (h : s.overlayInv) (hx : x.holder = none ↔ x.drawing = .blank)
    (hheld : ∀ l, (s.markLane l).bid = .holding c → x.holder = some l) : (s.setChannel c x).overlayInv := by
  obtain ⟨hblank, hholder, hnone⟩ := h
  refine ⟨fun d => ?_, fun k d hk => ?_, hnone⟩
  all_goals
    rw [State.channel_setChannel]
    split
  · exact hx
  · exact hblank d
  · next hcd => exact hheld k (hcd ▸ hk)
  · exact hholder k d hk

/-- A channel that a lane holds is drawn anew. -/
theorem overlayInv_draw {d : Drawing} (h : s.overlayInv) (hl : (s.markLane l).bid = .holding c) (hd : d ≠ .blank) :
    (s.setChannel c { s.channel c with drawing := d }).overlayInv := by
  have hc : (s.channel c).holder = some l := h.2.1 l c hl
  exact overlayInv_setChannel h (by simp [hc, hd]) fun k hk => h.2.1 k c hk

/-- A lane gives its channel up: no other lane holds it (R105, R107). -/
theorem overlayInv_giveUp {x : MarkLane} (h : s.overlayInv) (hl : (s.markLane l).bid = .holding c)
    (hfree : ∀ d, x.bid ≠ .holding d) (hidle : x.setup = none → x.bid = .idle) :
    ((releaseChannel c s).setMarkLane l x).overlayInv := by
  have hclosed : (s.setMarkLane l x).overlayInv := overlayInv_setMarkLane h (fun d hd => absurd hd (hfree d)) hidle
  rw [releaseChannel, setMarkLane_setChannel]
  refine overlayInv_setChannel hclosed (by simp) fun k hk => ?_
  rw [State.markLane_setMarkLane] at hk
  split at hk
  · exact absurd hk (hfree c)
  · next hlk => exact absurd (Option.some.inj ((h.2.1 l c hl).symm.trans (h.2.1 k c hk))) hlk

/-- A lane with a setup bids, waits or closes. -/
theorem overlayInv_setBid {b : BidState} (h : s.overlayInv) (hsetup : (s.markLane l).setup ≠ none) (hb : ∀ d, b ≠ .holding d) :
    (setBid l b s).overlayInv :=
  overlayInv_setMarkLane h (fun d hd => absurd hd (hb d)) fun hnone => absurd hnone hsetup

theorem overlayInv_addMarkFlag (cue : Nat) (f : Flags → Flags) (h : s.overlayInv) : (addMarkFlag l cue f s).overlayInv :=
  overlayInv_of_marks (marks_addMarkFlag s l cue f) h

theorem overlayInv_dropWipe (cue : Nat) (h : s.overlayInv) (hsetup : (s.markLane l).setup ≠ none) :
    (dropWipe l cue s).overlayInv :=
  overlayInv_addMarkFlag _ _ (overlayInv_setBid h hsetup (by simp))

/-! ### Decision passes (R103, R104) -/

theorem drawingAt_ne_blank (m : MarkSetup) (p : Nat) : m.drawingAt p ≠ .blank := by
  unfold MarkSetup.drawingAt
  split <;> simp

/-- A channel without a holder is granted: no lane held it. -/
theorem overlayInv_grantChannel (p : Nat) (h : s.overlayInv) (hfree : (s.channel c).holder = none) :
    (grantChannel l c p s).overlayInv := by
  unfold grantChannel
  split
  · exact h
  · next m hm =>
    have hdrawn : (s.setChannel c { s.channel c with holder := some l, drawing := m.drawingAt p }).overlayInv := by
      refine overlayInv_setChannel h (by simp [drawingAt_ne_blank]) fun k hk => ?_
      have hholder := h.2.1 k c hk
      rw [hfree] at hholder
      cases hholder
    have hgranted : (setBid l (.holding c)
        (s.setChannel c { s.channel c with holder := some l, drawing := m.drawingAt p })).overlayInv := by
      refine overlayInv_setMarkLane hdrawn (fun d hd => ?_) fun hnone => ?_
      · cases hd
        rw [State.channel_setChannel_same]
      · exact absurd (hm.symm.trans hnone) (by simp)
    exact overlayInv_ite (overlayInv_addMarkFlag _ _ hgranted) hgranted

theorem overlayInv_decisionGrants (n p : Nat) (h : s.overlayInv) : (decisionGrants n p s).overlayInv := by
  induction n generalizing s with
  | zero => exact h
  | succ n ih =>
    unfold decisionGrants
    split
    · next hfree _ => exact ih (overlayInv_grantChannel p h (holder_of_freeChannel hfree))
    · exact h

theorem overlayInv_decisionPass (p : Nat) (h : s.overlayInv) : (decisionPass p s).overlayInv := overlayInv_decisionGrants 4 p h

/-! ### The evaluation of a lane (R97) -/

theorem overlayInv_evaluateBidding (m : MarkSetup) (p : Nat) (h : s.overlayInv) (hsetup : (s.markLane l).setup ≠ none) :
    (evaluateBidding l m p s).overlayInv :=
  overlayInv_ite (overlayInv_dropWipe _ h hsetup) (overlayInv_setBid h hsetup (by simp))

theorem overlayInv_evaluateHolding (m : MarkSetup) (p : Nat) (h : s.overlayInv) (hsetup : (s.markLane l).setup ≠ none)
    (hl : (s.markLane l).bid = .holding c) : (evaluateHolding l c m p s).overlayInv := by
  unfold evaluateHolding
  split
  · exact overlayInv_draw h hl (by simp)
  · exact overlayInv_draw h hl (by simp)
  · exact overlayInv_giveUp h hl (by simp) fun hnone => absurd hnone hsetup
  · exact h

theorem overlayInv_evaluateBid (m : MarkSetup) (p : Nat) (h : s.overlayInv) (hsetup : (s.markLane l).setup ≠ none) :
    (evaluateBid l m p s).overlayInv := by
  unfold evaluateBid
  split
  · exact h
  · exact overlayInv_ite (overlayInv_evaluateBidding m p h hsetup) h
  · exact overlayInv_evaluateBidding m p h hsetup
  · next hl => exact overlayInv_evaluateHolding m p h hsetup hl
  · exact h

/-- An evaluation leaves the lane's setup and its bid to what its bid state makes of them. -/
theorem overlayInv_evaluateLane (p : Nat) (l : LaneId) (h : s.overlayInv) : (evaluateLane p s l).overlayInv := by
  unfold evaluateLane
  dsimp only
  split
  · exact h
  · next m hm =>
    split
    · exact h
    · refine overlayInv_evaluateBid m p (overlayInv_setMarkLane h (fun c hc => h.2.1 l c hc) fun hnone => ?_) ?_
      · exact absurd (hm.symm.trans hnone) (by simp)
      · rw [State.markLane_setMarkLane_same]
        simp [hm]

/-- The collision counts are no part of the invariant. -/
theorem overlayInv_evaluateLanes (ls : List LaneId) (p : Nat) (h : s.overlayInv) : (evaluateLanes ls p s).overlayInv :=
  overlayInv_of_overlay (overlayInv_foldl (overlayInv_evaluateLane p) ls h) (fun _ => rfl) fun _ => rfl

theorem overlayInv_marksAdvance (p : Nat) (h : s.overlayInv) : (marksAdvance p s).overlayInv := by
  have heval := overlayInv_evaluateLanes allLanes p h
  unfold marksAdvance
  generalize evaluateLanes allLanes p s = u at heval
  exact overlayInv_decisionPass p (overlayInv_of_overlay heval (fun _ => rfl) fun _ => rfl)

/-! ### Hand-offs (R96, R98) -/

theorem overlayInv_markStart (m : MarkSetup) (p : Nat) (h : s.overlayInv) : (markStart l m p s).overlayInv := by
  have hstarted : (s.setMarkLane l (startedMarkLane m)).overlayInv := by
    refine overlayInv_setMarkLane h (fun c hc => ?_) fun hnone => by cases hnone
    unfold startedMarkLane at hc
    dsimp only at hc
    split at hc <;> cases hc
  have heval := overlayInv_evaluateLanes [l] p hstarted
  unfold markStart
  exact overlayInv_ite hstarted (overlayInv_ite (overlayInv_decisionPass p heval) heval)

theorem overlayInv_dropAtExit (left : Bool) (h : s.overlayInv) : (dropAtExit l left s).overlayInv := by
  unfold dropAtExit
  split
  · exact h
  · next hm => exact overlayInv_ite (overlayInv_dropWipe _ h (by simp [hm])) h

theorem overlayInv_markEnd (left : Bool) (h : s.overlayInv) : (markEnd l left s).overlayInv := by
  unfold markEnd
  split
  · exact overlayInv_setMarkLane (overlayInv_dropAtExit left h) (by simp [idleMarkLane]) fun _ => rfl
  · next hc =>
    exact overlayInv_decisionPass _ (overlayInv_giveUp h (bid_of_channel hc) (by simp [idleMarkLane]) fun _ => rfl)

theorem overlayInv_runHandoff (x : Handoff) (h : s.overlayInv) : (runHandoff s x).overlayInv := by
  cases x with
  | start l m p => exact overlayInv_markStart m p h
  | stop l left => exact overlayInv_markEnd left h

theorem overlayInv_runHandoffs (h : s.overlayInv) : (runHandoffs s).overlayInv :=
  overlayInv_foldl (fun x hu => overlayInv_runHandoff x (overlayInv_of_touches (touches_handoffs _ _) hu)) _ h

theorem overlayInv_takeStartHandoff (l : LaneId) (h : s.overlayInv) : (takeStartHandoff l s).overlayInv := by
  unfold takeStartHandoff
  split
  · exact h
  · exact overlayInv_markStart _ _ (overlayInv_of_touches (touches_handoffs _ _) h)
  · exact h

theorem overlayInv_takeEndHandoff (l : LaneId) (h : s.overlayInv) : (takeEndHandoff l s).overlayInv := by
  unfold takeEndHandoff
  split
  · exact h
  · exact overlayInv_markEnd _ (overlayInv_of_touches (touches_handoffs _ _) h)
  · exact h

theorem overlayInv_marksTakeAdvance (h : s.overlayInv) : (marksTakeAdvance s).overlayInv := by
  unfold marksTakeAdvance
  split
  · exact h
  · exact overlayInv_ite (overlayInv_marksAdvance _ (overlayInv_of_touches (touches_offered _ _) h)) h

/-- An overlay word changes what was sent last, not what a channel shows (R110). -/
theorem overlayInv_sendOverlayWord (h : s.overlayInv) : (sendOverlayWord s).overlayInv := by
  unfold sendOverlayWord
  split
  · exact h
  · next c _ =>
    have hsent : (s.setChannel c { s.channel c with lastSent := some (s.channel c).drawing }).overlayInv :=
      overlayInv_setChannel h (h.1 c) fun k hk => h.2.1 k c hk
    exact overlayInv_of_overlay hsent (fun _ => rfl) fun _ => rfl

/-! ### The lanes (R67 to R91): their marks change where a cycle's end is told to the Mark Generator (R89, step 2) -/

theorem overlayInv_endMarks (told : Bool) (h : s.overlayInv) : (endMarks l told s).overlayInv :=
  overlayInv_ite (overlayInv_takeEndHandoff l h) (overlayInv_of_touches (touches_handOff s _) h)

theorem marks_finishCycle (e : CycleStop) (x : PunchEnd) (q : Option Position) (r : CycleRecord) (s : State) :
    (finishCycle l e x q r s).marks = s.marks := by
  have hclaim : (takeEndClaim l (journalWrite (r.entry l e x) s).1).marks = s.marks :=
    (touches_takeEndClaim l _ .marks (by decide)).trans (touches_journalWrite _ s .marks (by decide))
  unfold finishCycle
  dsimp only
  split
  · exact hclaim
  · split
    · exact (touches_armingAttempt l _ _ _ .marks (by decide)).trans hclaim
    · exact hclaim

theorem overlayInv_endCycle (e : CycleStop) (told : Bool) (q : Option Position) (h : s.overlayInv) :
    (endCycle l e told q s).overlayInv := by
  have hended (r : CycleRecord) : (endMarks l told (punchEnd l r e.reason s)).overlayInv :=
    overlayInv_endMarks told (overlayInv_of_touches (touches_punchEnd l r _ s) h)
  unfold endCycle
  split
  · exact h
  · dsimp only
    split
    · exact hended _
    · exact overlayInv_of_marks (marks_finishCycle e _ q _ _) (hended _)

theorem overlayInv_falseStart (h : s.overlayInv) : (falseStart l s).overlayInv :=
  overlayInv_of_touches (((touches_handOff s _).andThen (touches_releaseClaim l _) (zs := [.handoffs, .lanes, .loop, .ports])).trans
    ((touches_setLane _ l _).mono (by decide))) h

theorem overlayInv_tailYieldTest (a : Advance) (h : s.overlayInv) : (tailYieldTest l a s).overlayInv := by
  unfold tailYieldTest
  refine overlayInv_ite ?_ h
  split
  · exact h
  · exact overlayInv_ite (overlayInv_endCycle _ _ _ h) h

theorem overlayInv_armedAdvance (a : Advance) (h : s.overlayInv) : (armedAdvance l a s).overlayInv := by
  unfold armedAdvance
  dsimp only
  have hrearm : (if s.table.confirmed then rearm l a.reel a.frame s else s).overlayInv :=
    overlayInv_ite (overlayInv_of_touches (touches_rearm l _ _ s) h) h
  split
  · exact overlayInv_ite (overlayInv_of_touches (touches_enterLeadin l _ a _) hrearm) hrearm
  · exact hrearm

theorem overlayInv_leadinAdvance (a : Advance) (h : s.overlayInv) : (leadinAdvance l a s).overlayInv := by
  unfold leadinAdvance
  dsimp only
  have hbegin : (takeBeginTest l a s).overlayInv := overlayInv_of_touches (touches_takeBeginTest l a s) h
  split
  · exact hbegin
  · exact overlayInv_ite (overlayInv_of_touches (touches_enterTake l _ a _) hbegin) hbegin

theorem overlayInv_takeAdvance (a : Advance) (h : s.overlayInv) : (takeAdvance l a s).overlayInv := by
  have hexit : (s.handOff (.stop l true)).overlayInv := overlayInv_of_touches (touches_handOff s _) h
  unfold takeAdvance
  split
  · exact h
  · refine overlayInv_ite (overlayInv_ite (overlayInv_endCycle _ _ _ hexit) ?_) h
    exact overlayInv_tailYieldTest a (overlayInv_of_touches (touches_setLane _ l _) hexit)

theorem overlayInv_tailAdvance (a : Advance) (h : s.overlayInv) : (tailAdvance l a s).overlayInv := by
  unfold tailAdvance
  split
  · exact h
  · exact overlayInv_ite (overlayInv_endCycle _ _ _ h) (overlayInv_tailYieldTest a h)

theorem overlayInv_laneAdvance (a : Advance) (h : s.overlayInv) : (laneAdvance l a s).overlayInv := by
  have htouched : (modCycle l (fun r => r.touch a) s).overlayInv := overlayInv_of_touches (touches_modCycle l _ s) h
  unfold laneAdvance
  split
  · exact h
  · exact overlayInv_of_touches (touches_armingAttempt l _ _ s) h
  · exact overlayInv_armedAdvance a htouched
  · exact overlayInv_leadinAdvance a htouched
  · exact overlayInv_takeAdvance a htouched
  · exact overlayInv_tailAdvance a htouched

theorem overlayInv_laneLost (h : s.overlayInv) : (laneLost l s).overlayInv := by
  unfold laneLost
  split
  · exact h
  · exact h
  · exact overlayInv_of_touches (touches_letGo l _ s) h
  · exact overlayInv_ite (overlayInv_endCycle _ _ _ h) (overlayInv_falseStart h)
  · exact overlayInv_endCycle _ _ _ h
  · exact overlayInv_endCycle _ _ _ h

theorem overlayInv_laneCancel (h : s.overlayInv) : (laneCancel l s).overlayInv := by
  unfold laneCancel
  split
  · exact h
  · exact h
  · exact overlayInv_of_touches (touches_letGo l _ s) h
  · exact overlayInv_ite (overlayInv_endCycle _ _ _ h) (overlayInv_falseStart h)
  · exact overlayInv_endCycle _ _ _ h
  · exact overlayInv_endCycle _ _ _ h

/-- CLEAR STAGE leaves every channel BLANK with no holder and every lane without marks (R112). -/
theorem overlayInv_clearStage (s : State) : (clearStage s).overlayInv := by
  unfold State.overlayInv
  rw [clearStage_eq]
  simp only [channel_clearRest, markLane_clearRest]
  simp [idleMarkLane]

/-! ### The tracker's events (R42 to R59) -/

theorem overlayInv_laneTakesAdvance (l : LaneId) (h : s.overlayInv) : (laneTakesAdvance l s).overlayInv := by
  unfold laneTakesAdvance
  split
  · exact h
  · exact overlayInv_ite (overlayInv_laneAdvance _ (overlayInv_of_touches (touches_offered s _) h)) h

theorem overlayInv_laneTakesLost (l : LaneId) (h : s.overlayInv) : (laneTakesLost l s).overlayInv :=
  overlayInv_ite (overlayInv_laneLost (overlayInv_of_touches (touches_offered s _) h)) h

theorem marks_punchTakesAdvance (s : State) : (punchTakesAdvance s).marks = s.marks := by
  unfold punchTakesAdvance
  split
  · rfl
  · split
    · exact touches_punchAdvance _ _ .marks (by decide)
    · rfl

theorem marks_loopTakesAdvance (s : State) : (loopTakesAdvance s).marks = s.marks := by
  unfold loopTakesAdvance
  split
  · rfl
  · split
    · exact touches_loopTakeAdvance _ _ .marks (by decide)
    · rfl

theorem marks_loopTakesRelock (s : State) : (loopTakesRelock s).marks = s.marks := by
  unfold loopTakesRelock
  split
  · split
    · exact touches_loopTakeLock _ _ .marks (by decide)
    · rfl
  all_goals rfl

theorem marks_loopTakesLock (s : State) : (loopTakesLock s).marks = s.marks := by
  unfold loopTakesLock
  split
  · exact (marks_loopTakesAdvance _).trans (marks_loopTakesRelock s)
  · rfl

theorem marks_loopTakesLost (s : State) : (loopTakesLost s).marks = s.marks := by
  unfold loopTakesLost
  split
  · exact touches_loopTakeLost _ .marks (by decide)
  · rfl

theorem overlayInv_settle (h : s.overlayInv) : (settle s).overlayInv := by
  have hlanes : (allLanes.foldl laneTakes s).overlayInv :=
    overlayInv_foldl (fun l hu => overlayInv_laneTakesLost l (overlayInv_laneTakesAdvance l hu)) _ h
  have hmarks := overlayInv_marksTakeAdvance (overlayInv_runHandoffs hlanes)
  refine overlayInv_of_marks ?_ hmarks
  rw [settle, marks_loopTakesLost, marks_loopTakesRelock, marks_loopTakesAdvance, marks_punchTakesAdvance]

theorem overlayInv_trackerApply (x : TrackerStep) (h : s.overlayInv) : (trackerApply x s).overlayInv := by
  unfold trackerApply
  split
  · exact overlayInv_of_touches (touches_trackerChange x s) h
  · exact overlayInv_of_touches ((touches_trackerChange x _).andThen (touches_offered _ _) (zs := [.tracker, .ports, .offered]))
      (overlayInv_settle h)

theorem overlayInv_posinByte (b : Byte) (h : s.overlayInv) : (posinByte s b).overlayInv := by
  have hrec (r : Option (List Byte)) : (s.setReceiver r).overlayInv := overlayInv_of_touches (touches_setReceiver s r) h
  unfold posinByte
  split
  · exact overlayInv_ite (hrec _) h
  · refine overlayInv_ite (hrec _) ?_
    unfold takeWord
    split
    · exact overlayInv_of_touches (touches_countBadWord _) (hrec none)
    · exact overlayInv_trackerApply _ (hrec none)

theorem overlayInv_waitExpiry (h : s.overlayInv) : (waitExpiry s).overlayInv :=
  overlayInv_ite (overlayInv_trackerApply _ h) h

theorem overlayInv_stepExpiry (h : s.overlayInv) : (stepExpiry s).overlayInv :=
  overlayInv_ite (overlayInv_trackerApply _ h) h

end

/-! ### Requests (R178) -/

/-- Every kind's block but those of CANCEL LANE and CLEAR STAGE leaves the marks alone. -/
theorem marks_block {k : Request} (hcancel : k ≠ .cancelLane) (hclear : k ≠ .clearStage) (p : PortId) (body : List Byte) (s : State) :
    (k.block p body s).1.marks = s.marks := by
  cases k with
  | cancelLane => exact absurd rfl hcancel
  | clearStage => exact absurd rfl hclear
  | identify | readParameters | tableStatus | trackerStatus | readJournal | readLines | fetchNotices | reconfirm => rfl
  | portStatus | readProfile | readLane | readLoop =>
    dsimp only [Request.block, answerPortStatus, answerReadProfile, answerReadLane, answerReadLoop]
    split <;> rfl
  | readCue =>
    dsimp only [Request.block, answerReadCue]
    split
    · rfl
    · split <;> rfl
  | nextCue =>
    dsimp only [Request.block, answerNextCue]
    split <;> rfl
  | configurePort =>
    dsimp only [Request.block, answerConfigurePort]
    split
    · split
      · rfl
      · exact touches_writeSettings p _ _ s .marks (by decide)
    · rfl
  | setParameters =>
    rcases answerSetParameters_cases body s with he | ⟨-, -, he⟩ <;>
    · show (answerSetParameters body s).1.marks = s.marks
      rw [he]
  | requestGrant =>
    dsimp only [Request.block, answerRequestGrant]
    split
    · exact touches_giveAtOnce p s .marks (by decide)
    · split
      · rfl
      · split <;> rfl
  | releaseGrant =>
    dsimp only [Request.block, answerReleaseGrant]
    split
    · exact touches_releaseByHolder p s .marks (by decide)
    · split <;> rfl
  | insertCue =>
    dsimp only [Request.block, answerInsert]
    split
    · rfl
    · split
      · rfl
      · split
        · rfl
        · split <;> rfl
  | amendCue =>
    dsimp only [Request.block, answerAmend]
    split
    · rfl
    · split
      · rfl
      · exact touches_amendFound _ _ s .marks (by decide)
  | deleteCue =>
    dsimp only [Request.block, answerDelete]
    split
    · rfl
    · split
      · rfl
      · split <;> rfl
  | holdCue =>
    dsimp only [Request.block, answerHold]
    split
    · rfl
    · split
      · rfl
      · split <;> rfl
  | clearTable =>
    dsimp only [Request.block, answerClearTable]
    split <;> rfl
  | setProfile =>
    dsimp only [Request.block, answerSetProfile]
    split
    · split <;> rfl
    · rfl
  | setLane =>
    dsimp only [Request.block, answerSetLane]
    split
    · split
      · exact touches_writeRouting _ _ s .marks (by decide)
      · rfl
    · rfl
  | enableLane =>
    dsimp only [Request.block, answerEnable]
    split
    · rfl
    · exact touches_laneEnable _ s .marks (by decide)
  | disableLane =>
    dsimp only [Request.block, answerDisable]
    split
    · rfl
    · exact touches_laneDisable _ s .marks (by decide)
  | ready =>
    dsimp only [Request.block, answerReady]
    split
    · split <;> rfl
    · rfl
  | tally =>
    dsimp only [Request.block, answerTally]
    split
    · rfl
    · exact touches_tallyLane p _ s .marks (by decide)
  | startLoop =>
    dsimp only [Request.block, answerStartLoop]
    split
    · rfl
    · exact touches_startLoop _ s .marks (by decide)
  | stopLoop =>
    dsimp only [Request.block, answerStopLoop, stopGroup]
    split
    · rfl
    · split
      · exact touches_loopStopActive _ s .marks (by decide)
      · rfl
  | circleTake =>
    dsimp only [Request.block, answerCircle]
    split
    · rfl
    · split
      · rfl
      · exact touches_circle _ _ s .marks (by decide)
  | uncircleTake =>
    dsimp only [Request.block, answerUncircle]
    split
    · rfl
    · split
      · rfl
      · exact touches_uncircle _ _ s .marks (by decide)
  | trimJournal =>
    dsimp only [Request.block, answerTrim]
    split <;> rfl
  | setLine =>
    dsimp only [Request.block, answerSetLine]
    split
    · rfl
    · exact touches_setInputFrom _ body s .marks (by decide)
    · exact touches_setOutputFrom _ body s .marks (by decide)

theorem overlayInv_block (k : Request) (p : PortId) (body : List Byte) {s : State} (h : s.overlayInv) :
    (k.block p body s).1.overlayInv := by
  by_cases hclear : k = .clearStage
  · subst hclear
    exact overlayInv_clearStage s
  · by_cases hcancel : k = .cancelLane
    · subst hcancel
      dsimp only [Request.block, answerCancel]
      split
      · exact h
      · exact overlayInv_laneCancel h
    · exact overlayInv_of_marks (marks_block hcancel hclear p body s) h

/-! ### The step -/

/-- Every operation of a step keeps the channels and their holders. -/
theorem kept_overlayInv : Kept State.overlayInv where
  reset := overlayInv_deviceReset
  pending _ h := h
  countDown h := h
  request k p body := takeRequest_keeps (fun ht h => overlayInv_of_touches ht h) k p body (overlayInv_block k p body)
  posinByte := overlayInv_posinByte
  abandonWord := overlayInv_of_touches (touches_abandonWord _)
  waitExpiry := overlayInv_waitExpiry
  stepExpiry := overlayInv_stepExpiry
  idleExpiry := overlayInv_of_touches (touches_idleExpiry _)
  locateExpiry := overlayInv_of_touches (touches_locateExpiry _)
  laneTakesAdvance := overlayInv_laneTakesAdvance
  laneTakesLost := overlayInv_laneTakesLost
  punchTakesAdvance := overlayInv_of_marks (marks_punchTakesAdvance _)
  takeStartHandoff := overlayInv_takeStartHandoff
  takeEndHandoff := overlayInv_takeEndHandoff
  marksTakeAdvance := overlayInv_marksTakeAdvance
  sendOverlayWord := overlayInv_sendOverlayWord
  loopTakesAdvance := overlayInv_of_marks (marks_loopTakesAdvance _)
  loopTakesLock := overlayInv_of_marks (marks_loopTakesLock _)
  loopTakesLost := overlayInv_of_marks (marks_loopTakesLost _)
  acceptChange i := overlayInv_of_touches (touches_acceptChange i _)
  sampleInput i v := overlayInv_of_touches (touches_sampleInput i v _)
  attachPort p := overlayInv_of_touches (touches_attachPort p _)
  detachPort p := overlayInv_of_touches (touches_detachPort p _)
  samplePresent p v := overlayInv_of_touches (touches_samplePresent p v _)
  hearAll p cs := overlayInv_of_touches (touches_hearAll p cs _)
  silence p := overlayInv_of_touches (touches_setPort _ p _)
  takeFrameError p := overlayInv_of_touches (touches_takeFrameError p _)
  takeUnknown p kind body := overlayInv_of_touches (touches_takeUnknown p kind body _)
  transmitNext p := overlayInv_of_touches (touches_transmitNext p _)
  transmitEnd p := overlayInv_of_touches (touches_transmitEnd p _)

/-- Settles O60: each operation of a step keeps the invariant. -/
theorem stepKeepsTheOverlay : Obligations.StepKeepsTheOverlay := by
  unfold Obligations.StepKeepsTheOverlay
  exact fun _ _ => kept_overlayInv.step

end Sys2Proof.Machine
end

section
/-! ## The overlay line (O28) -/

namespace Sys2Proof.Machine

set_option Elab.async false

/-- The lowest-numbered channel with a property (R103, R110). -/
theorem find_allChannels {f : ChannelId → Bool} {c : ChannelId} (hc : f c = true) (hlow : ∀ d : ChannelId, d < c → f d = false) :
    allChannels.find? f = some c := by
  have hsplit : ∀ c : ChannelId, allChannels = allChannels.take c ++ c :: allChannels.drop (c + 1) := by decide
  have hbelow : ∀ c d : ChannelId, d ∈ allChannels.take c → d < c := by decide
  rw [List.find?_eq_some_iff_append]
  exact ⟨hc, _, _, hsplit c, fun d hd => by simp [hlow d (hbelow c d hd)]⟩

theorem channelToSend_eq_some {s : State} {c : ChannelId} (hc : (s.channel c).lastSent ≠ some (s.channel c).drawing)
    (hlow : ∀ d : ChannelId, d < c → (s.channel d).lastSent = some (s.channel d).drawing) : s.channelToSend = some c :=
  find_allChannels (by simpa using hc) fun d hd => by simpa using hlow d hd

theorem channelToSend_eq_none {s : State} (h : ∀ c : ChannelId, (s.channel c).lastSent = some (s.channel c).drawing) :
    s.channelToSend = none := by
  simp [State.channelToSend, List.find?_eq_none, h]

/-- Settles O28: the lowest channel that differs is the one to send, and its word ends with the check byte of its fields. -/
theorem overlayWordReportsTheLowestChange : Obligations.OverlayWordReportsTheLowestChange := by
  unfold Obligations.OverlayWordReportsTheLowestChange
  intro s hreset
  have hexec : exec .overlayWord s = .next (sendOverlayWord s) := live_of_released hreset
  refine ⟨fun hall => ?idle, fun c hc hlow => ?word⟩
  case idle => rw [hexec, sendOverlayWord, channelToSend_eq_none hall]
  case word =>
    intro fields
    have hfields : (s.channel c).drawing.fields = fields := by
      unfold Drawing.fields
      cases hd : (s.channel c).drawing <;> simp only [fields, hd] <;> rfl
    refine ⟨0 - byteSum (num1 c.val ++ fields), byteSum_append_check (num1 c.val ++ fields), ?_⟩
    rw [hexec, sendOverlayWord, channelToSend_eq_some hc hlow]
    dsimp only [overlayWordOf]
    rw [hfields]
    rfl

end Sys2Proof.Machine
end

section
/-! ## SET LINE, and the conditions of the output and tone lines (O50) -/

namespace Sys2Proof.Machine

set_option Elab.async false

/-! ### The record tally (R124) -/

theorem isPunchOut_iff {l : LaneId} {n : PriorityNotice} :
    n.isPunchOut l = true ↔ ∃ (cue take : Nat) (r : PunchReason) (frame : Nat), n = .punchOut l cue take r frame := by
  cases n with
  | punchOut k cue take r frame => simp [PriorityNotice.isPunchOut]
  | punchIn | locate | halt => simp [PriorityNotice.isPunchOut]

theorem sendingPunchOut_iff {x : Port} {l : LaneId} :
    x.sendingPunchOut l = true ↔ ∃ (t : Transmission) (cue take : Nat) (r : PunchReason) (frame : Nat),
      x.transmitting = some t ∧ t.message = .notice (.punchOut l cue take r frame) := by
  unfold Port.sendingPunchOut
  cases ht : x.transmitting with
  | none => simp
  | some t => cases hm : t.message <;> simp [hm, isPunchOut_iff]

/-- From QUEUED until the PUNCH OUT has been sent (R124). -/
def State.tallyOn (s : State) (l : LaneId) : Prop :=
  (∃ q : PortId, (s.punchOf l).mode = .queued q) ∨ (∃ (q : PortId) (n : Nat), (s.punchOf l).mode = .recording q n) ∨
    ∃ (q : PortId) (cue take : Nat) (r : PunchReason) (frame : Nat),
      .punchOut l cue take r frame ∈ (s.port q).priority ∨
        ∃ t : Transmission, (s.port q).transmitting = some t ∧ t.message = .notice (.punchOut l cue take r frame)

theorem mem_allPorts : ∀ p : PortId, p ∈ allPorts := by decide

/-- A PUNCH OUT of the lane waits at a port or is being sent there. -/
theorem any_punchOut_iff (s : State) (l : LaneId) :
    (allPorts.any fun p => (s.port p).priority.any (fun n => n.isPunchOut l) || (s.port p).sendingPunchOut l) = true ↔
      ∃ (q : PortId) (cue take : Nat) (r : PunchReason) (frame : Nat),
        .punchOut l cue take r frame ∈ (s.port q).priority ∨
          ∃ t : Transmission, (s.port q).transmitting = some t ∧ t.message = .notice (.punchOut l cue take r frame) := by
  simp only [List.any_eq_true, Bool.or_eq_true, mem_allPorts, true_and, isPunchOut_iff, sendingPunchOut_iff]
  refine exists_congr fun q => ⟨?_, ?_⟩
  · rintro (⟨_, hmem, cue, take, r, frame, rfl⟩ | ⟨t, cue, take, r, frame, ht⟩)
    · exact ⟨cue, take, r, frame, .inl hmem⟩
    · exact ⟨cue, take, r, frame, .inr ⟨t, ht⟩⟩
  · rintro ⟨cue, take, r, frame, hmem | ⟨t, ht⟩⟩
    · exact .inl ⟨_, hmem, cue, take, r, frame, rfl⟩
    · exact .inr ⟨t, cue, take, r, frame, ht⟩

theorem recordTally_iff (s : State) (l : LaneId) : s.recordTally l = true ↔ s.tallyOn l := by
  unfold State.recordTally State.tallyOn
  rw [Bool.or_eq_true, any_punchOut_iff]
  cases (s.punchOf l).mode <;> simp

/-! ### Output lines (R167, R168) and tone lines (R99) -/

theorem activeGroup_isSome_iff (s : State) :
    s.activeGroup.isSome = true ↔
      ∃ g : GroupId, (s.group g).mode = .locating ∨ (s.group g).mode = .running ∨ (s.group g).mode = .draining := by
  have hactive (m : LoopMode) : m.isActive = true ↔ m = .locating ∨ m = .running ∨ m = .draining := by
    cases m <;> simp [LoopMode.isActive]
  rw [Option.isSome_iff_ne_none, Ne, activeGroup_eq_none_iff, not_forall]
  simp only [Bool.not_eq_false, hactive]

/-- The condition of an output line's function (R167). -/
def State.condition (s : State) (o : LineId) : Prop :=
  match (s.output o).function with
  | .none => False
  | .cueLight k => (s.lane k).mode = .leadin ∨ ((s.output o).span = .toOut ∧ (s.lane k).mode = .take)
  | .recordTally k => s.tallyOn k
  | .rolling => s.tracker.mode = .locked ∨ s.tracker.mode = .freewheel
  | .loopActive =>
    ∃ g : GroupId, (s.group g).mode = .locating ∨ (s.group g).mode = .running ∨ (s.group g).mode = .draining
  | .grantHeld => s.grant.holder ≠ none
  | .manualOn => True
  | .manualOff => False

theorem outputActive_iff (s : State) (o : LineId) : s.outputActive o = true ↔ s.condition o := by
  unfold State.outputActive State.condition
  cases (s.output o).function with
  | none | manualOn | manualOff => simp
  | cueLight k => cases (s.output o).span <;> simp
  | recordTally k => exact recordTally_iff s k
  | rolling => cases s.tracker.mode <;> simp [TrackerMode.rolling]
  | loopActive => exact activeGroup_isSome_iff s
  | grantHeld => exact Option.isSome_iff_ne_none

theorem outputLevel_of_active {s : State} {o : LineId} (h : s.outputActive o = true) :
    s.outputLevel o = (s.output o).polarity := if_pos h

theorem outputLevel_of_not_active {s : State} {o : LineId} (h : ¬s.outputActive o = true) :
    s.outputLevel o ≠ (s.output o).polarity := by
  rw [State.outputLevel, if_neg h]
  cases (s.output o).polarity <;> simp [otherLevel]

theorem outputPin_of_released {s : State} (h : s.resetHeld = false) (o : LineId) : s.outputPin o = some (s.outputLevel o) := by
  simp [State.outputPin, h]

theorem pipOn_iff {s : State} {t : ToneId} {l : LaneId} :
    s.pipOn t l = true ↔ ∃ m : MarkSetup, (s.markLane l).setup = some m ∧ m.tone = some t ∧ (s.markLane l).pip ≠ none := by
  unfold State.pipOn
  cases (s.markLane l).setup with
  | none => simp
  | some m => simp [Option.isSome_iff_ne_none, and_comm]

theorem toneSounding_iff (s : State) (t : ToneId) :
    s.toneSounding t = true ↔
      ∃ (k : LaneId) (m : MarkSetup), (s.markLane k).setup = some m ∧ m.tone = some t ∧ (s.markLane k).pip ≠ none := by
  simp only [State.toneSounding, any_allLanes, pipOn_iff]

/-! ### The hold toggle (R164) -/

theorem mem_allLines : ∀ i : LineId, i ∈ allLines := by decide

theorem hasEdgeHold_iff (s : State) :
    s.hasEdgeHold = true ↔ ∃ j : LineId, (s.input j).function = .directorHold ∧ (s.input j).trigger = .edge := by
  simp [State.hasEdgeHold, List.any_eq_true, mem_allLines]

theorem releaseToggle_of_hold {s : State} (h : s.hasEdgeHold = true) : releaseToggle s = s := if_pos h

theorem releaseToggle_of_not_hold {s : State} (h : ¬s.hasEdgeHold = true) :
    releaseToggle s = { s with lines := { s.lines with holdToggle := false } } := if_neg h

/-- The toggle is no part of an input line. -/
theorem input_releaseToggle (s : State) (i : LineId) : (releaseToggle s).input i = s.input i := by
  unfold releaseToggle
  split <;> rfl

theorem output_releaseToggle (s : State) (o : LineId) : (releaseToggle s).output o = s.output o := by
  unfold releaseToggle
  split <;> rfl

/-! ### The fields of SET LINE (R170, 11.4) -/

theorem lineOf_input {n : Nat} {i : LineId} (h : n = i.val) : lineOf n = some (.input i) := by
  rw [lineOf, if_pos (by omega), laneOf_eq_some_iff.mpr h]
  rfl

theorem lineOf_output {n : Nat} {o : LineId} (h : n = 16 + o.val) : lineOf n = some (.output o) := by
  rw [lineOf, if_neg (by omega), (laneOf_eq_some_iff (l := o)).mpr (by omega)]
  rfl

theorem lineOf_eq_none {n : Nat} (h : (7 < n ∧ n < 16) ∨ 23 < n) : lineOf n = none := by
  unfold lineOf
  split
  · rw [laneOf_eq_none (by omega)]
    rfl
  · rw [laneOf_eq_none (by omega)]
    rfl

/-- A lane's code above the first one of its function. -/
theorem laneOf_sub_iff {n base : Nat} (h : base ≤ n) {l : LaneId} : laneOf (n - base) = some l ↔ base + l.val = n := by
  rw [laneOf_eq_some_iff]
  omega

theorem inputFunctionOf_eq_some_iff {n : Nat} {f : InputFunction} : inputFunctionOf n = some f ↔ f.code = n := by
  constructor
  · intro h
    unfold inputFunctionOf at h
    split_ifs at h with h0 h1 h2 h3 h4
    · cases h; exact h0.symm
    · cases h; exact h1.symm
    · cases h; exact h2.symm
    · obtain ⟨l, hl, rfl⟩ := Option.map_eq_some_iff.mp h
      exact (laneOf_sub_iff h3.1).mp hl
    · obtain ⟨l, hl, rfl⟩ := Option.map_eq_some_iff.mp h
      exact (laneOf_sub_iff h4).mp hl
  · rintro rfl
    cases f with
    | none | directorHold | loopStop => rfl
    | actorReady l | circleLast l => revert l; decide

theorem outputFunctionOf_eq_some_iff {n : Nat} {f : OutputFunction} : outputFunctionOf n = some f ↔ f.code = n := by
  constructor
  · intro h
    unfold outputFunctionOf at h
    split_ifs at h with h0 h1 h2 h3 h4 h5 h6 h7
    · cases h; exact h0.symm
    · cases h; exact h1.symm
    · cases h; exact h2.symm
    · cases h; exact h3.symm
    · cases h; exact h4.symm
    · cases h; exact h5.symm
    · obtain ⟨l, hl, rfl⟩ := Option.map_eq_some_iff.mp h
      exact (laneOf_sub_iff h6.1).mp hl
    · obtain ⟨l, hl, rfl⟩ := Option.map_eq_some_iff.mp h
      exact (laneOf_sub_iff h7).mp hl
  · rintro rfl
    cases f with
    | none | rolling | loopActive | grantHeld | manualOn | manualOff => rfl
    | cueLight l | recordTally l => revert l; decide

/-- Codes of two values: 0 and 1 name them, and no other code has a meaning (R188, 11.4). -/
theorem triggerOf_of_le {n : Nat} (h : n ≤ 1) : triggerOf n = some (if n = 0 then .edge else .level) := by
  rcases Nat.le_one_iff_eq_zero_or_eq_one.mp h with rfl | rfl <;> rfl

theorem polarityOf_of_le {n : Nat} (h : n ≤ 1) : polarityOf n = some (if n = 0 then .low else .high) := by
  rcases Nat.le_one_iff_eq_zero_or_eq_one.mp h with rfl | rfl <;> rfl

theorem spanOf_of_le {n : Nat} (h : n ≤ 1) : spanOf n = some (if n = 0 then .toIn else .toOut) := by
  rcases Nat.le_one_iff_eq_zero_or_eq_one.mp h with rfl | rfl <;> rfl

theorem triggerOf_eq_none {n : Nat} (h : 1 < n) : triggerOf n = none := by
  obtain ⟨k, rfl⟩ := Nat.exists_eq_add_of_le' h
  rfl

theorem polarityOf_eq_none {n : Nat} (h : 1 < n) : polarityOf n = none := by
  obtain ⟨k, rfl⟩ := Nat.exists_eq_add_of_le' h
  rfl

theorem spanOf_eq_none {n : Nat} (h : 1 < n) : spanOf n = none := by
  obtain ⟨k, rfl⟩ := Nat.exists_eq_add_of_le' h
  rfl

theorem code_triggerOf {n : Nat} (h : n ≤ 1) : (if n = 0 then Trigger.edge else .level).code = n := by
  rcases Nat.le_one_iff_eq_zero_or_eq_one.mp h with rfl | rfl <;> rfl

theorem code_polarityOf {n : Nat} (h : n ≤ 1) : levelCode (if n = 0 then .low else .high) = n := by
  rcases Nat.le_one_iff_eq_zero_or_eq_one.mp h with rfl | rfl <;> rfl

theorem code_spanOf {n : Nat} (h : n ≤ 1) : (if n = 0 then Span.toIn else .toOut).code = n := by
  rcases Nat.le_one_iff_eq_zero_or_eq_one.mp h with rfl | rfl <;> rfl

/-! ### SET LINE of an input line (R170) -/

section
variable {b : List Byte} {s : State}

theorem setInputFrom_range {i : LineId}
    (h : 1 < byteAt b 2 ∨ 1 < byteAt b 3 ∨ byteAt b 4 = 0 ∨ 15 < byteAt b 4 ∨ ∀ f : InputFunction, f.code ≠ byteAt b 1) :
    setInputFrom i b s = (s, .bare .range) := by
  unfold setInputFrom
  split
  · next f t v hf ht hv =>
    refine if_neg ?_
    rintro ⟨hlow, hhigh⟩
    rcases h with h | h | h | h | h
    · cases ht.symm.trans (triggerOf_eq_none h)
    · cases hv.symm.trans (polarityOf_eq_none h)
    · omega
    · omega
    · exact h f (inputFunctionOf_eq_some_iff.mp hf)
  · rfl

theorem setInputFrom_inRange {i : LineId} {f : InputFunction} (hf : f.code = byteAt b 1) (ht : byteAt b 2 ≤ 1)
    (hv : byteAt b 3 ≤ 1) (hlow : 1 ≤ byteAt b 4) (hhigh : byteAt b 4 ≤ 15) :
    setInputFrom i b s =
      (setInputLine i f (if byteAt b 2 = 0 then .edge else .level) (if byteAt b 3 = 0 then .low else .high) (byteAt b 4) s,
        .okWith ((setInputLine i f (if byteAt b 2 = 0 then .edge else .level) (if byteAt b 3 = 0 then .low else .high)
          (byteAt b 4) s).input i).bytes) := by
  rw [setInputFrom, inputFunctionOf_eq_some_iff.mpr hf, triggerOf_of_le ht, polarityOf_of_le hv]
  exact if_pos ⟨hlow, hhigh⟩

/-! ### SET LINE of an output line (R170; log 21) -/

theorem setOutputFrom_range {o : LineId}
    (h : byteAt b 2 ≠ 0 ∨ 1 < byteAt b 3 ∨ 1 < byteAt b 4 ∨ ∀ f : OutputFunction, f.code ≠ byteAt b 1) :
    setOutputFrom o b s = (s, .bare .range) := by
  unfold setOutputFrom
  split
  · next f v x hf hv hx =>
    refine if_neg fun hzero => ?_
    rcases h with h | h | h | h
    · exact h hzero
    · cases hv.symm.trans (polarityOf_eq_none h)
    · cases hx.symm.trans (spanOf_eq_none h)
    · exact h f (outputFunctionOf_eq_some_iff.mp hf)
  · rfl

theorem setOutputFrom_inRange {o : LineId} {f : OutputFunction} (hf : f.code = byteAt b 1) (hzero : byteAt b 2 = 0)
    (hv : byteAt b 3 ≤ 1) (hx : byteAt b 4 ≤ 1) :
    setOutputFrom o b s =
      (setOutputLine o f (if byteAt b 3 = 0 then .low else .high) (if byteAt b 4 = 0 then .toIn else .toOut) s,
        .okWith ((setOutputLine o f (if byteAt b 3 = 0 then .low else .high)
          (if byteAt b 4 = 0 then .toIn else .toOut) s).outputBytes o)) := by
  rw [setOutputFrom, outputFunctionOf_eq_some_iff.mpr hf, polarityOf_of_le hv, spanOf_of_le hx]
  exact if_pos hzero

/-! ### The request (R170) -/

theorem answerSetLine_input {i : LineId} (h : byteAt b 0 = i.val) : answerSetLine b s = setInputFrom i b s := by
  rw [answerSetLine, lineOf_input h]

theorem answerSetLine_output {o : LineId} (h : byteAt b 0 = 16 + o.val) : answerSetLine b s = setOutputFrom o b s := by
  rw [answerSetLine, lineOf_output h]

theorem answerSetLine_range (h : (7 < byteAt b 0 ∧ byteAt b 0 < 16) ∨ 23 < byteAt b 0) :
    answerSetLine b s = (s, .bare .range) := by
  rw [answerSetLine, lineOf_eq_none h]

end

/-- Settles O50: the conditions are those of the functions, and the answer is read off the line that SET LINE wrote. -/
theorem setLineWritesTheSettings : Obligations.SetLineWritesTheSettings := by
  unfold Obligations.SetLineWritesTheSettings
  refine ⟨fun s l o x => ?conditions, fun p b s h => ?request⟩
  case conditions =>
    intro tally active
    have hactive : s.outputActive o = true ↔ active := outputActive_iff s o
    exact ⟨recordTally_iff s l, hactive, fun h => outputLevel_of_active (hactive.mpr h),
      fun h => outputLevel_of_not_active (mt hactive.mp h), fun h => outputPin_of_released h o, toneSounding_iff s x⟩
  case request =>
    intro u answer level levelByte flag edgeHold released
    have hflag (c : Bool) : encBool c = [flag c] := encBool_eq c
    have hlevel (v : Level) : num1 (levelCode v) = [levelByte v] := by cases v <;> rfl
    have hreleased (t : State) : released t (releaseToggle t) :=
      ⟨fun h => releaseToggle_of_hold ((hasEdgeHold_iff t).mpr h),
        fun h => releaseToggle_of_not_hold (mt (hasEdgeHold_iff t).mp h)⟩
    have hrange (hb : answerSetLine b u = (u, .bare .range)) : answer u [0x06] := answers_bare h hb
    refine ⟨fun hline => hrange (answerSetLine_range hline), fun i hi => ⟨fun hbad => ?_, ?_⟩, fun o ho => ⟨fun hbad => ?_, ?_⟩⟩
    · exact hrange ((answerSetLine_input hi).trans (setInputFrom_range hbad))
    · intro f hf ht hv hlow hhigh x
      refine ⟨releaseToggle (u.setInput i x), hreleased _, ?_⟩
      have hok := answers_ok h ((answerSetLine_input hi).trans (setInputFrom_inRange hf ht hv hlow hhigh))
      have hline : (releaseToggle (u.setInput i x)).input i = x :=
        (input_releaseToggle _ i).trans (State.input_setInput_same _ i x)
      have hfunction : x.function.code = byteAt b 1 := hf
      have htrigger : x.trigger.code = byteAt b 2 := code_triggerOf ht
      have hpolarity : levelCode x.polarity = byteAt b 3 := code_polarityOf hv
      change Answers .setLine p b s (releaseToggle (u.setInput i x)) ([0x00] ++ ((releaseToggle (u.setInput i x)).input i).bytes)
        at hok
      rw [hline, InputLine.bytes, hfunction, htrigger, hpolarity, hlevel, hflag] at hok
      exact hok
    · exact hrange ((answerSetLine_output ho).trans (setOutputFrom_range hbad))
    · intro f hf hzero hv hspan
      refine ⟨_, hreleased _, ?_⟩
      have hok := answers_ok h ((answerSetLine_output ho).trans (setOutputFrom_inRange hf hzero hv hspan))
      rw [State.outputBytes, setOutputLine, output_releaseToggle, State.output_setOutput_same, hf, code_polarityOf hv,
        code_spanOf hspan, hlevel, hflag] at hok
      exact hok

end Sys2Proof.Machine
end

section
/-! ## Decision passes (R103, R104)

A pass is a sequence of grants, each of the lowest free channel to the best bid, that goes on until no channel or no bid at the
threshold is left (`Passes`). The arbiter's pass, at most one grant for each channel, is the only such sequence. -/

namespace Sys2Proof.Machine

set_option Elab.async false

/-! ### The best bid (R103) -/

theorem bidOf_eq_some_iff {s : State} {l : LaneId} {b : Nat} :
    s.bidOf l = some b ↔ (s.markLane l).bid = .bidding b ∧ s.params.bidThreshold ≤ b := by
  unfold State.bidOf
  cases (s.markLane l).bid with
  | bidding x =>
    dsimp only
    split
    · next h =>
      constructor
      · rintro ⟨⟩
        exact ⟨rfl, h⟩
      · rintro ⟨⟨⟩, -⟩
        rfl
    · next h =>
      constructor
      · rintro ⟨⟩
      · rintro ⟨⟨⟩, hle⟩
        exact absurd hle h
  | idle | waiting | holding c | closed => simp

theorem bidOf_eq_none_iff {s : State} {l : LaneId} :
    s.bidOf l = none ↔ ∀ b : Nat, (s.markLane l).bid = .bidding b → b < s.params.bidThreshold := by
  rw [Option.eq_none_iff_forall_ne_some]
  simp only [Ne, bidOf_eq_some_iff, not_and, Nat.not_le]

/-- The best of these lanes' bids: none bids at the threshold, or the bid is the highest and its lane the lowest with it. -/
def State.BestOf (s : State) (ls : List LaneId) : Option (LaneId × Nat) → Prop
  | none => ∀ k ∈ ls, s.bidOf k = none
  | some y => y.1 ∈ ls ∧ s.bidOf y.1 = some y.2 ∧ ∀ k ∈ ls, ∀ x : Nat, s.bidOf k = some x → x < y.2 ∨ (x = y.2 ∧ y.1 ≤ k)

/-- One lane more, above those before it. -/
theorem bestOf_betterBid {s : State} {ls : List LaneId} {best : Option (LaneId × Nat)} {l : LaneId} (h : s.BestOf ls best)
    (hl : ∀ k ∈ ls, k < l) : s.BestOf (ls ++ [l]) (s.betterBid best l) := by
  unfold State.betterBid
  cases hb : s.bidOf l with
  | none =>
    cases best with
    | none => simpa [State.BestOf, or_imp, forall_and, hb] using h
    | some y =>
      obtain ⟨hmem, hy, hbest⟩ := h
      refine ⟨List.mem_append_left _ hmem, hy, fun k hk x hx => ?_⟩
      rcases List.mem_append.mp hk with hk | hk
      · exact hbest k hk x hx
      · rw [List.mem_singleton.mp hk, hb] at hx
        cases hx
  | some b =>
    have hown : ∀ x : Nat, s.bidOf l = some x → x = b := fun x hx => (Option.some.inj (hb.symm.trans hx)).symm
    cases best with
    | none =>
      refine ⟨List.mem_append_right _ (List.mem_singleton_self l), hb, fun k hk x hx => ?_⟩
      rcases List.mem_append.mp hk with hk | hk
      · rw [h k hk] at hx
        cases hx
      · rw [List.mem_singleton.mp hk] at hx ⊢
        exact .inr ⟨hown x hx, le_rfl⟩
    | some y =>
      obtain ⟨hmem, hy, hbest⟩ := h
      dsimp only
      split
      · next hlt =>
        refine ⟨List.mem_append_right _ (List.mem_singleton_self l), hb, fun k hk x hx => ?_⟩
        rcases List.mem_append.mp hk with hk | hk
        · rcases hbest k hk x hx with hless | ⟨heq, -⟩
          · exact .inl (hless.trans hlt)
          · exact .inl (heq.trans_lt hlt)
        · rw [List.mem_singleton.mp hk] at hx ⊢
          exact .inr ⟨hown x hx, le_rfl⟩
      · next hge =>
        refine ⟨List.mem_append_left _ hmem, hy, fun k hk x hx => ?_⟩
        rcases List.mem_append.mp hk with hk | hk
        · exact hbest k hk x hx
        · rw [List.mem_singleton.mp hk] at hx ⊢
          rcases Nat.lt_or_eq_of_le (Nat.not_lt.mp hge) with hlt | heq
          · exact .inl ((hown x hx).trans_lt hlt)
          · exact .inr ⟨(hown x hx).trans heq, (hl y.1 hmem).le⟩

theorem bestOf_foldl {s : State} (ls done : List LaneId) {best : Option (LaneId × Nat)} (h : s.BestOf done best)
    (hsorted : (done ++ ls).Pairwise (· < ·)) : s.BestOf (done ++ ls) (ls.foldl s.betterBid best) := by
  induction ls generalizing done best with
  | nil => simpa using h
  | cons l ls ih =>
    have hbelow : ∀ k ∈ done, k < l := fun k hk =>
      (List.pairwise_append.mp hsorted).2.2 k hk l List.mem_cons_self
    rw [List.append_cons] at hsorted ⊢
    exact ih (done ++ [l]) (bestOf_betterBid h hbelow) hsorted

theorem bestOf_bestBid (s : State) : s.BestOf allLanes s.bestBid :=
  bestOf_foldl allLanes [] (best := none) (by simp [State.BestOf]) (by decide)

theorem bestBid_eq_none_iff {s : State} :
    s.bestBid = none ↔ ∀ (l : LaneId) (b : Nat), (s.markLane l).bid = .bidding b → b < s.params.bidThreshold := by
  have hbest := bestOf_bestBid s
  constructor
  · intro h l
    rw [h] at hbest
    exact bidOf_eq_none_iff.mp (hbest l (mem_allLanes l))
  · intro h
    cases hy : s.bestBid with
    | none => rfl
    | some y =>
      rw [hy] at hbest
      obtain ⟨-, hbid, -⟩ := hbest
      rw [bidOf_eq_none_iff.mpr (h y.1)] at hbid
      cases hbid

/-- The lane served bids at the threshold, no bid is higher, and no lower lane bids as much (R103). -/
theorem best_of_bestBid {s : State} {y : LaneId × Nat} (h : s.bestBid = some y) :
    (s.markLane y.1).bid = .bidding y.2 ∧ s.params.bidThreshold ≤ y.2 ∧
      ∀ (k : LaneId) (x : Nat), (s.markLane k).bid = .bidding x → x < y.2 ∨ (x = y.2 ∧ y.1 ≤ k) := by
  have hbest := bestOf_bestBid s
  rw [h] at hbest
  obtain ⟨-, hbid, hall⟩ := hbest
  obtain ⟨hbid, hlow⟩ := bidOf_eq_some_iff.mp hbid
  refine ⟨hbid, hlow, fun k x hx => ?_⟩
  by_cases hxlow : s.params.bidThreshold ≤ x
  · exact hall k (mem_allLanes k) x (bidOf_eq_some_iff.mpr ⟨hx, hxlow⟩)
  · exact .inl ((Nat.not_le.mp hxlow).trans_le hlow)

theorem bestBid_eq_some {s : State} {l : LaneId} {b : Nat} (hl : (s.markLane l).bid = .bidding b)
    (hb : s.params.bidThreshold ≤ b)
    (hall : ∀ (k : LaneId) (x : Nat), (s.markLane k).bid = .bidding x → x < b ∨ (x = b ∧ l ≤ k)) : s.bestBid = some (l, b) := by
  cases hy : s.bestBid with
  | none => exact absurd (bestBid_eq_none_iff.mp hy l b hl) (Nat.not_lt.mpr hb)
  | some y =>
    obtain ⟨hbid, -, hbest⟩ := best_of_bestBid hy
    have hown := hbest l b hl
    obtain ⟨heq, hle⟩ := (hall y.1 y.2 hbid).resolve_left fun hlt => hown.elim hlt.asymm fun h => hlt.ne' h.1
    obtain ⟨-, hge⟩ := hown.resolve_left fun hlt => hlt.ne' heq
    rw [← heq, le_antisymm hle hge]

theorem freeChannel_eq_none_iff {s : State} : s.freeChannel = none ↔ ∀ c : ChannelId, (s.channel c).holder ≠ none := by
  simp [State.freeChannel, List.find?_eq_none, mem_allChannels]

theorem freeChannel_eq_some {s : State} {c : ChannelId} (hc : (s.channel c).holder = none)
    (hlow : ∀ d : ChannelId, d < c → (s.channel d).holder ≠ none) : s.freeChannel = some c :=
  find_allChannels (by simp [hc]) fun d hd => by simpa [Option.isSome_iff_ne_none] using hlow d hd

/-! ### A grant (R104) -/

section
variable {s : State} {l : LaneId} {c : ChannelId} {p : Nat} {m : MarkSetup}

/-- The channel granted to the lane, without the flag of a late grant. -/
def granted (l : LaneId) (c : ChannelId) (m : MarkSetup) (p : Nat) (s : State) : State :=
  (s.setChannel c { s.channel c with holder := some l, drawing := m.drawingAt p }).setMarkLane l
    { s.markLane l with bid := .holding c }

theorem grantChannel_of_setup (hm : (s.markLane l).setup = some m) :
    grantChannel l c p s =
      if m.late p = true then addMarkFlag l m.cue (fun f => { f with wipeLate := true }) (granted l c m p s)
      else granted l c m p s := by
  rw [grantChannel, hm]
  rfl

theorem marks_grantChannel (hm : (s.markLane l).setup = some m) : (grantChannel l c p s).marks = (granted l c m p s).marks := by
  rw [grantChannel_of_setup hm]
  split
  · exact marks_addMarkFlag _ _ _ _
  · rfl

theorem params_grantChannel : (grantChannel l c p s).params = s.params :=
  touches_grantChannel l c p s .params (by decide)

theorem markLane_grantChannel (hm : (s.markLane l).setup = some m) (k : LaneId) :
    (grantChannel l c p s).markLane k = if l = k then { s.markLane l with bid := .holding c } else s.markLane k := by
  rw [markLane_of_marks (marks_grantChannel hm), granted, State.markLane_setMarkLane]
  rfl

theorem channel_grantChannel (hm : (s.markLane l).setup = some m) (d : ChannelId) :
    (grantChannel l c p s).channel d =
      if c = d then { s.channel c with holder := some l, drawing := m.drawingAt p } else s.channel d := by
  rw [channel_of_marks (marks_grantChannel hm)]
  exact State.channel_setChannel _ _ _ _

end

/-! ### A pass as its grants (R103) -/

/-- The bids that a pass may serve have a setup to draw. -/
def State.BidsHaveSetups (s : State) : Prop := ∀ (k : LaneId) (b : Nat), (s.markLane k).bid = .bidding b → (s.markLane k).setup ≠ none

/-- A pass at a frame: grants of the lowest free channel to the best bid, until no channel or no bid at the threshold is left. -/
inductive Passes (p : Nat) : State → State → Prop
  | done {s : State} (h : s.freeChannel = none ∨ s.bestBid = none) : Passes p s s
  | grant {s t : State} {c : ChannelId} {y : LaneId × Nat} (m : MarkSetup) (hc : s.freeChannel = some c) (hy : s.bestBid = some y)
    (hm : (s.markLane y.1).setup = some m) (h : Passes p (grantChannel y.1 c p s) t) : Passes p s t

theorem Passes.deterministic {p : Nat} {s t u : State} (ht : Passes p s t) (hu : Passes p s u) : t = u := by
  induction ht with
  | done h =>
    cases hu with
    | done => rfl
    | grant m hc hy => simp [hc, hy] at h
  | grant m hc hy hm _ ih =>
    cases hu with
    | done h => simp [hc, hy] at h
    | grant m' hc' hy' _ h =>
      cases hc.symm.trans hc'
      cases hy.symm.trans hy'
      exact ih h

/-- A pass with nothing to grant changes nothing. -/
theorem decisionPass_of_done {s : State} (p : Nat) (h : s.freeChannel = none ∨ s.bestBid = none) : decisionPass p s = s := by
  rw [decisionPass, decisionGrants]
  split
  · next hc hy => simp [hc, hy] at h
  · rfl

/-- The channels without a holder. -/
def State.freeChannels (s : State) : Finset ChannelId := Finset.univ.filter fun c => (s.channel c).holder = none

theorem mem_freeChannels {s : State} {c : ChannelId} : c ∈ s.freeChannels ↔ (s.channel c).holder = none := by
  simp [State.freeChannels]

theorem freeChannels_grantChannel {s : State} {l : LaneId} {c : ChannelId} {m : MarkSetup} (p : Nat)
    (hm : (s.markLane l).setup = some m) : (grantChannel l c p s).freeChannels = s.freeChannels.erase c := by
  ext d
  rw [mem_freeChannels, channel_grantChannel hm, Finset.mem_erase, mem_freeChannels]
  by_cases hd : c = d
  · simp [hd]
  · simp [hd, Ne.symm hd]

theorem bidsHaveSetups_grantChannel {s : State} {l : LaneId} {c : ChannelId} {m : MarkSetup} (p : Nat)
    (hm : (s.markLane l).setup = some m) (h : s.BidsHaveSetups) : (grantChannel l c p s).BidsHaveSetups := by
  intro k b hk
  rw [markLane_grantChannel hm] at hk ⊢
  split
  · simp [hm]
  · next hne => exact h k b (by rwa [if_neg hne] at hk)

/-- As many grants as there are free channels are a whole pass. -/
theorem passes_decisionGrants (p n : Nat) {s : State} (hsetups : s.BidsHaveSetups) (hn : s.freeChannels.card ≤ n) :
    Passes p s (decisionGrants n p s) := by
  induction n generalizing s with
  | zero =>
    refine .done (.inl (freeChannel_eq_none_iff.mpr fun c hc => ?_))
    rw [← mem_freeChannels, Finset.card_eq_zero.mp (Nat.le_zero.mp hn)] at hc
    exact absurd hc (Finset.notMem_empty c)
  | succ n ih =>
    unfold decisionGrants
    split
    · next c y hc hy =>
      obtain ⟨m, hm⟩ := Option.ne_none_iff_exists'.mp (hsetups y.1 y.2 (best_of_bestBid hy).1)
      refine .grant m hc hy hm (ih (bidsHaveSetups_grantChannel p hm hsetups) ?_)
      rw [freeChannels_grantChannel p hm, Finset.card_erase_of_mem (mem_freeChannels.mpr (holder_of_freeChannel hc))]
      omega
    · next hnone =>
      refine .done ?_
      by_contra hboth
      rw [not_or, ← Ne, ← Ne, Option.ne_none_iff_exists', Option.ne_none_iff_exists'] at hboth
      obtain ⟨⟨c, hc⟩, y, hy⟩ := hboth
      exact hnone c y hc hy

theorem passes_decisionPass (p : Nat) {s : State} (hsetups : s.BidsHaveSetups) : Passes p s (decisionPass p s) :=
  passes_decisionGrants p 4 hsetups (Finset.card_le_univ _)

/-- A pass begins with the grant of the lowest free channel to the best bid, where there are both. -/
theorem decisionPass_grant {s : State} {c : ChannelId} {y : LaneId × Nat} {m : MarkSetup} (p : Nat) (hsetups : s.BidsHaveSetups)
    (hc : s.freeChannel = some c) (hy : s.bestBid = some y) (hm : (s.markLane y.1).setup = some m) :
    decisionPass p s = decisionPass p (grantChannel y.1 c p s) :=
  (passes_decisionPass p hsetups).deterministic
    (.grant m hc hy hm (passes_decisionPass p (bidsHaveSetups_grantChannel p hm hsetups)))

end Sys2Proof.Machine
end

section
/-! ## The end hand-off (O26) -/

namespace Sys2Proof.Machine

set_option Elab.async false

/-! ### A wipe flag and the cycle record (R104, R106; log 15) -/

theorem runsCycle_iff {s : State} {l : LaneId} {cue : Nat} :
    s.runsCycle l cue = true ↔ ∃ c : CycleRecord, (s.lane l).mode.running = true ∧ (s.lane l).cycle = some c ∧ c.cue = cue := by
  unfold State.runsCycle
  cases (s.lane l).cycle <;> simp

theorem addMarkFlag_of_runs {s : State} {l : LaneId} {c : CycleRecord} (f : Flags → Flags)
    (hmode : (s.lane l).mode.running = true) (hc : (s.lane l).cycle = some c) :
    addMarkFlag l c.cue f s = s.setLane l { s.lane l with cycle := some { c with flags := f c.flags } } := by
  rw [addMarkFlag, if_pos (runsCycle_iff.mpr ⟨c, hmode, hc, rfl⟩), modCycle, hc]
  rfl

theorem addMarkFlag_of_not_runs {s : State} {l : LaneId} {cue : Nat} (f : Flags → Flags)
    (h : ∀ c : CycleRecord, ¬((s.lane l).mode.running = true ∧ (s.lane l).cycle = some c ∧ c.cue = cue)) :
    addMarkFlag l cue f s = s :=
  if_neg fun hruns => (runsCycle_iff.mp hruns).elim h

/-- A flag and the marks of a lane are written in either order. -/
theorem setMarkLane_addMarkFlag (s : State) (l k : LaneId) (cue : Nat) (f : Flags → Flags) (x : MarkLane) :
    (addMarkFlag l cue f s).setMarkLane k x = addMarkFlag l cue f (s.setMarkLane k x) := by
  have hruns : (s.setMarkLane k x).runsCycle l cue = s.runsCycle l cue := rfl
  unfold addMarkFlag
  rw [hruns]
  split <;> rfl

/-! ### The end of a lane's marks (R98, R107) -/

section
variable {l : LaneId} {left : Bool} {s : State}

theorem takeEndHandoff_of_stop (h : s.firstHandoff l = some (.stop l left)) :
    takeEndHandoff l s = markEnd l left { s with handoffs := dropHandoff l s.handoffs } := by
  rw [takeEndHandoff, h]

theorem takeEndHandoff_of_not_stop (h : ∀ (k : LaneId) (left : Bool), s.firstHandoff l ≠ some (.stop k left)) :
    takeEndHandoff l s = s := by
  unfold takeEndHandoff
  split
  · rfl
  · next k left hfirst => exact absurd hfirst (h k left)
  · rfl

theorem isBidding_iff {b : BidState} : b.isBidding = true ↔ ∃ x : Nat, b = .bidding x := by
  cases b <;> simp [BidState.isBidding]

theorem channel_of_bid {x : MarkLane} {c : ChannelId} (h : x.bid = .holding c) : x.channel = some c := by
  rw [MarkLane.channel, h]

theorem channel_eq_none {x : MarkLane} (h : ∀ c : ChannelId, x.bid ≠ .holding c) : x.channel = none :=
  Option.eq_none_iff_forall_ne_some.mpr fun c hc => h c (bid_of_channel hc)

/-- A lane that holds no channel, and whose bid is not open as it leaves TAKE. -/
theorem markEnd_of_silent (hfree : ∀ c : ChannelId, (s.markLane l).bid ≠ .holding c)
    (hbid : left = false ∨ ∀ b : Nat, (s.markLane l).bid ≠ .bidding b) : markEnd l left s = s.setMarkLane l idleMarkLane := by
  have hdrop : dropAtExit l left s = s := by
    unfold dropAtExit
    split
    · rfl
    · refine if_neg fun h => ?_
      obtain ⟨hleft, hopen⟩ := Bool.and_eq_true_iff.mp h
      obtain ⟨b, hb⟩ := isBidding_iff.mp hopen
      rcases hbid with hbid | hbid
      · exact absurd (hleft.symm.trans hbid) (by decide)
      · exact hbid b hb
  rw [markEnd, channel_eq_none hfree, hdrop]

/-- A lane that leaves TAKE with its bid open: the wipe is dropped (R98, R106). -/
theorem markEnd_of_bidding {b : Nat} {m : MarkSetup} (hb : (s.markLane l).bid = .bidding b) (hm : (s.markLane l).setup = some m) :
    markEnd l true s = (addMarkFlag l m.cue (fun f => { f with wipeDropped := true }) s).setMarkLane l idleMarkLane := by
  have hdrop : dropAtExit l true s = dropWipe l m.cue s := by
    rw [dropAtExit, hm]
    exact if_pos (by rw [hb]; rfl)
  rw [markEnd, channel_eq_none (by simp [hb]), hdrop, setMarkLane_addMarkFlag]
  dsimp only
  rw [dropWipe, setMarkLane_addMarkFlag, setBid, State.setMarkLane_twice]

/-- A lane that holds a channel gives it up, and a decision pass follows (R107). -/
theorem markEnd_of_holding {c : ChannelId} (hc : (s.markLane l).bid = .holding c) :
    markEnd l left s = decisionPass (s.marks.frame.getD 0) ((releaseChannel c s).setMarkLane l idleMarkLane) := by
  rw [markEnd, channel_of_bid hc]
  rfl

end

/-- Settles O26: the three courses of the end, and a decision pass as its grants. -/
theorem endHandoffEndsTheMarks : Obligations.EndHandoffEndsTheMarks := by
  unfold Obligations.EndHandoffEndsTheMarks
  refine ⟨fun l s hreset hfirst => ?noEnd, fun l left s hreset hfirst => ?ends, fun p s hsetups => ⟨?nothing, ?grants⟩,
    fun l cue f s => ?flags⟩
  case noEnd =>
    show live (takeEndHandoff l) s = _
    rw [live_of_released hreset, takeEndHandoff_of_not_stop hfirst]
  case ends =>
    intro u ended answer
    have hanswer {t : State} (h : markEnd l left u = t) : answer t := by
      show live (takeEndHandoff l) s = _
      rw [live_of_released hreset, takeEndHandoff_of_stop hfirst, h]
    refine ⟨fun hfree hbid => hanswer (markEnd_of_silent hfree hbid), fun b m hleft hb hm => hanswer ?_, fun c hc => ?_⟩
    · rw [hleft]
      exact markEnd_of_bidding hb hm
    · intro freed
      have hpass : markEnd l left u = decisionPass (s.marks.frame.getD 0) freed := markEnd_of_holding hc
      refine ⟨hanswer hpass, fun hlow => hanswer (hpass.trans (decisionPass_of_done _ (.inr ?_)))⟩
      refine bestBid_eq_none_iff.mpr fun k b hk => ?_
      rw [State.markLane_setMarkLane] at hk
      split at hk
      · cases hk
      · exact hlow k b hk
  case nothing => exact fun h => decisionPass_of_done p (h.imp freeChannel_eq_none_iff.mpr bestBid_eq_none_iff.mpr)
  case grants =>
    intro l c b m hc hlow hb hm hthreshold hbest drawn
    have hgrant := decisionPass_grant p hsetups (freeChannel_eq_some hc hlow) (bestBid_eq_some hb hthreshold hbest) hm
    rw [grantChannel_of_setup hm] at hgrant
    refine ⟨fun hearly => ?_, fun hlate => ?_⟩
    · rwa [if_neg (by simpa [MarkSetup.late] using hearly)] at hgrant
    · rwa [if_pos (by simpa [MarkSetup.late] using hlate)] at hgrant
  case flags =>
    intro runs
    refine ⟨?_, addMarkFlag_of_not_runs f⟩
    rintro c ⟨hmode, hc, rfl⟩
    exact addMarkFlag_of_runs f hmode hc

end Sys2Proof.Machine
end

section
/-! ## The evaluation of a lane at a frame (R97, R102, R105, R106)

What an evaluation makes of the lane's marks, its cycle record and the channel it holds, by its bid state; and one lane after
another. -/

namespace Sys2Proof.Machine

set_option Elab.async false

/-! ### Pips (R94, R97) -/

theorem pipBeginning_of_beginsPip {m : MarkSetup} {p : Nat} {pip : Option Nat} (h : m.beginsPip p pip) :
    m.pipBeginning p = pip := by
  unfold MarkSetup.pipBeginning
  cases pip with
  | none =>
    have hnone : (List.range m.pips).find? (fun i => p + (i + 1) * m.spacing == m.markRef) = none := by
      rw [List.find?_eq_none]
      intro i hi
      simpa using h (i + 1) (by omega) (by simpa using hi)
    rw [hnone]
    rfl
  | some k =>
    obtain ⟨hlow, hhigh, hbegins, hfirst⟩ := h
    obtain ⟨i, rfl⟩ := Nat.exists_eq_add_of_le' hlow
    have hsome : (List.range m.pips).find? (fun i => p + (i + 1) * m.spacing == m.markRef) = some i := by
      rw [List.find?_range_eq_some]
      refine ⟨by simpa using hbegins, by simpa using hhigh, fun j hj => ?_⟩
      simpa using hfirst (j + 1) (by omega) (by omega)
    rw [hsome]
    rfl

/-- A pip that begins is the active one (R97). -/
theorem pipAt_of_begins {m : MarkSetup} {p k : Nat} (x : MarkLane) (h : m.beginsPip p (some k)) : x.pipAt m p = some k := by
  rw [MarkLane.pipAt, pipBeginning_of_beginsPip h]

/-- With none beginning the active pip goes on, but for its end (R97). -/
theorem pipAt_of_none {m : MarkSetup} {p : Nat} {x : MarkLane} (h : m.beginsPip p none) :
    x.pipAt m p = x.pip.bind fun k => if p + k * m.spacing = m.markRef + m.pipLength then none else some k := by
  rw [MarkLane.pipAt, pipBeginning_of_beginsPip h]
  cases x.pip with
  | none => rfl
  | some k => simp [MarkSetup.pipEnds]

/-! ### One lane (R97) -/

/-- The lane has a setup and has not been evaluated at the frame. -/
def MarkLane.Due (x : MarkLane) (p : Nat) (m : MarkSetup) : Prop := x.setup = some m ∧ x.lastFrame ≠ some p

/-- The lane's marks after an evaluation that leaves it in a bid state. -/
def MarkLane.evaluated (x : MarkLane) (m : MarkSetup) (p : Nat) (b : BidState) : MarkLane :=
  { x with lastFrame := some p, phase := m.phaseAt p, pip := x.pipAt m p, bid := b }

section
variable {p : Nat} {s : State} {l : LaneId} {m : MarkSetup}

theorem evaluateLane_of_not_due (h : ∀ m : MarkSetup, ¬(s.markLane l).Due p m) : evaluateLane p s l = s := by
  unfold evaluateLane
  dsimp only
  split
  · rfl
  · next m hm => exact if_pos (not_not.mp fun hlast => h m ⟨hm, hlast⟩)

theorem evaluateLane_of_due (h : (s.markLane l).Due p m) :
    evaluateLane p s l = evaluateBid l m p (s.setMarkLane l ((s.markLane l).evaluated m p (s.markLane l).bid)) := by
  obtain ⟨hm, hlast⟩ := h
  unfold evaluateLane
  dsimp only
  split
  · next hnone => cases hm.symm.trans hnone
  · next m' hm' =>
    cases hm.symm.trans hm'
    exact if_neg hlast

/-- A lane without a bid to work out: idle, closed, or waiting before the bid start. -/
theorem evaluateLane_of_rest (h : (s.markLane l).Due p m)
    (hbid : (s.markLane l).bid = .idle ∨ (s.markLane l).bid = .closed ∨ ((s.markLane l).bid = .waiting ∧ p + m.wipe < m.markRef)) :
    evaluateLane p s l = s.setMarkLane l ((s.markLane l).evaluated m p (s.markLane l).bid) := by
  rw [evaluateLane_of_due h]
  unfold evaluateBid
  rw [State.markLane_setMarkLane_same]
  rcases hbid with hb | hb | ⟨hb, hearly⟩
  · simp only [MarkLane.evaluated, hb]
  · simp only [MarkLane.evaluated, hb]
  · simp only [MarkLane.evaluated, hb]
    exact if_neg (by simpa [MarkSetup.bidOpen] using hearly)

/-- A bid that is open or opens (R97, R102). -/
def MarkLane.Opened (x : MarkLane) (m : MarkSetup) (p : Nat) : Prop :=
  (∃ b : Nat, x.bid = .bidding b) ∨ (x.bid = .waiting ∧ m.markRef ≤ p + m.wipe)

theorem evaluateLane_of_opened (h : (s.markLane l).Due p m) (hopen : (s.markLane l).Opened m p) :
    evaluateLane p s l = evaluateBidding l m p (s.setMarkLane l ((s.markLane l).evaluated m p (s.markLane l).bid)) := by
  rw [evaluateLane_of_due h]
  unfold evaluateBid
  rw [State.markLane_setMarkLane_same]
  rcases hopen with ⟨b, hb⟩ | ⟨hb, hstart⟩
  · simp only [MarkLane.evaluated, hb]
  · simp only [MarkLane.evaluated, hb]
    exact if_pos (by simpa [MarkSetup.bidOpen] using hstart)

/-- An open bid is worked out afresh (R102). -/
theorem evaluateLane_of_bid (h : (s.markLane l).Due p m) (hopen : (s.markLane l).Opened m p) (hp : p < m.markRef + m.flash) :
    evaluateLane p s l = s.setMarkLane l ((s.markLane l).evaluated m p (.bidding (m.bidAt p))) := by
  rw [evaluateLane_of_opened h hopen, evaluateBidding, if_neg (Nat.not_le.mpr hp), setBid, State.markLane_setMarkLane_same,
    State.setMarkLane_twice]
  rfl

/-- A bid still open when wipe and flash are over is closed and the wipe dropped (R106). -/
theorem evaluateLane_of_dropped (h : (s.markLane l).Due p m) (hopen : (s.markLane l).Opened m p) (hp : m.markRef + m.flash ≤ p) :
    evaluateLane p s l =
      addMarkFlag l m.cue (fun f => { f with wipeDropped := true }) (s.setMarkLane l ((s.markLane l).evaluated m p .closed)) := by
  rw [evaluateLane_of_opened h hopen, evaluateBidding, if_pos hp, dropWipe, setBid, State.markLane_setMarkLane_same,
    State.setMarkLane_twice]
  rfl

theorem evaluateLane_of_holding {c : ChannelId} (h : (s.markLane l).Due p m) (hc : (s.markLane l).bid = .holding c) :
    evaluateLane p s l = evaluateHolding l c m p (s.setMarkLane l ((s.markLane l).evaluated m p (.holding c))) := by
  rw [evaluateLane_of_due h]
  unfold evaluateBid
  rw [State.markLane_setMarkLane_same]
  simp only [MarkLane.evaluated, hc]

/-- A holder's channel shows its mark for the frame (R105). -/
theorem evaluateLane_of_shown {c : ChannelId} (h : (s.markLane l).Due p m) (hc : (s.markLane l).bid = .holding c)
    (hp : p < m.markRef + m.flash) :
    evaluateLane p s l =
      (s.setMarkLane l ((s.markLane l).evaluated m p (.holding c))).setChannel c
        { s.channel c with drawing := m.drawingAt p } := by
  rw [evaluateLane_of_holding h hc]
  unfold evaluateHolding MarkSetup.phaseAt MarkSetup.drawingAt
  by_cases hlead : p < m.markRef
  · simp only [if_pos hlead]
    rfl
  · simp only [if_neg hlead, if_pos hp]
    rfl

/-- A holder's channel is given up when the flash is over (R105). -/
theorem evaluateLane_of_spent {c : ChannelId} (h : (s.markLane l).Due p m) (hc : (s.markLane l).bid = .holding c)
    (hp : m.markRef + m.flash ≤ p) :
    evaluateLane p s l =
      (s.setMarkLane l ((s.markLane l).evaluated m p .closed)).setChannel c { s.channel c with holder := none, drawing := .blank } := by
  rw [evaluateLane_of_holding h hc]
  have hphase : m.phaseAt p = .spent := by
    rw [MarkSetup.phaseAt, if_neg (by omega), if_neg (by omega)]
  unfold evaluateHolding
  rw [hphase]
  dsimp only
  rw [setBid, releaseChannel, State.markLane_setChannel_other, State.markLane_setMarkLane_same, setMarkLane_setChannel,
    State.setMarkLane_twice]
  rfl

/-- What an evaluation can do: nothing for a lane that is not due, or else to write the lane's marks, with a flag for its cycle
record or the channel it holds at most. -/
theorem evaluateLane_cases (p : Nat) (s : State) (l : LaneId) :
    ((∀ m : MarkSetup, ¬(s.markLane l).Due p m) ∧ evaluateLane p s l = s) ∨
      ∃ (m : MarkSetup) (b : BidState), (s.markLane l).Due p m ∧
        (evaluateLane p s l = s.setMarkLane l ((s.markLane l).evaluated m p b) ∨
          (∃ (cue : Nat) (f : Flags → Flags),
            evaluateLane p s l = addMarkFlag l cue f (s.setMarkLane l ((s.markLane l).evaluated m p b))) ∨
          ∃ (c : ChannelId) (y : Channel), (s.markLane l).bid = .holding c ∧
            evaluateLane p s l = (s.setMarkLane l ((s.markLane l).evaluated m p b)).setChannel c y) := by
  by_cases hdue : ∃ m : MarkSetup, (s.markLane l).Due p m
  · obtain ⟨m, hdue⟩ := hdue
    right
    by_cases hopen : (s.markLane l).Opened m p
    · rcases Nat.lt_or_ge p (m.markRef + m.flash) with hp | hp
      · exact ⟨m, _, hdue, .inl (evaluateLane_of_bid hdue hopen hp)⟩
      · exact ⟨m, _, hdue, .inr (.inl ⟨_, _, evaluateLane_of_dropped hdue hopen hp⟩)⟩
    · cases hb : (s.markLane l).bid with
      | idle => exact ⟨m, _, hdue, .inl (evaluateLane_of_rest hdue (.inl hb))⟩
      | closed => exact ⟨m, _, hdue, .inl (evaluateLane_of_rest hdue (.inr (.inl hb)))⟩
      | waiting =>
        have hearly : p + m.wipe < m.markRef := Nat.not_le.mp fun hstart => hopen (.inr ⟨hb, hstart⟩)
        exact ⟨m, _, hdue, .inl (evaluateLane_of_rest hdue (.inr (.inr ⟨hb, hearly⟩)))⟩
      | bidding b => exact absurd (.inl ⟨b, hb⟩) hopen
      | holding c =>
        rcases Nat.lt_or_ge p (m.markRef + m.flash) with hp | hp
        · exact ⟨m, _, hdue, .inr (.inr ⟨c, _, rfl, evaluateLane_of_shown hdue hb hp⟩)⟩
        · exact ⟨m, _, hdue, .inr (.inr ⟨c, _, rfl, evaluateLane_of_spent hdue hb hp⟩)⟩
  · exact .inl ⟨not_exists.mp hdue, evaluateLane_of_not_due (not_exists.mp hdue)⟩

theorem markLane_evaluateLane (h : (s.markLane l).Due p m) :
    ∃ b : BidState, (evaluateLane p s l).markLane l = (s.markLane l).evaluated m p b := by
  rcases evaluateLane_cases p s l with ⟨hnot, -⟩ | ⟨m', b, ⟨hm', -⟩, he⟩
  · exact absurd h (hnot m)
  · cases h.1.symm.trans hm'
    refine ⟨b, ?_⟩
    rcases he with he | ⟨cue, f, he⟩ | ⟨c, y, -, he⟩
    · rw [he, State.markLane_setMarkLane_same]
    · rw [he, markLane_addMarkFlag, State.markLane_setMarkLane_same]
    · rw [he, State.markLane_setChannel_other, State.markLane_setMarkLane_same]

/-- An evaluation counts no collision and sends no word. -/
theorem evaluateLane_counts (p : Nat) (s : State) (l : LaneId) :
    (evaluateLane p s l).marks.collisions = s.marks.collisions ∧ (evaluateLane p s l).marks.ovl = s.marks.ovl := by
  rcases evaluateLane_cases p s l with ⟨-, he⟩ | ⟨m, b, -, he | ⟨cue, f, he⟩ | ⟨c, y, -, he⟩⟩
  · rw [he]
    exact ⟨rfl, rfl⟩
  · rw [he]
    exact ⟨rfl, rfl⟩
  · rw [he, marks_addMarkFlag]
    exact ⟨rfl, rfl⟩
  · rw [he]
    exact ⟨rfl, rfl⟩

/-! ### Flags and lanes (R104, R106) -/

/-- A lane whose cycle record gets a flag, where it runs the cue's cycle. -/
def Lane.withFlag (x : Lane) (cue : Nat) (f : Flags → Flags) : Lane :=
  if (x.mode.running && x.cycle.any fun c => c.cue == cue) = true then
    { x with cycle := x.cycle.map fun c => { c with flags := f c.flags } }
  else x

theorem lane_addMarkFlag (s : State) (l k : LaneId) (cue : Nat) (f : Flags → Flags) :
    (addMarkFlag l cue f s).lane k = if l = k then (s.lane l).withFlag cue f else s.lane k := by
  unfold addMarkFlag Lane.withFlag State.runsCycle
  by_cases hlk : l = k
  · subst hlk
    rw [if_pos rfl]
    split
    · exact State.lane_setLane_same _ _ _
    · rfl
  · rw [if_neg hlk]
    split
    · exact State.lane_setLane_ne _ _ _ _ hlk
    · rfl

theorem lane_addMarkFlag_same (s : State) (l : LaneId) (cue : Nat) (f : Flags → Flags) :
    (addMarkFlag l cue f s).lane l = (s.lane l).withFlag cue f := by
  rw [lane_addMarkFlag, if_pos rfl]

/-! ### The other lanes and their channels -/

/-- An evaluation leaves the other lanes' marks and cycle records alone. -/
theorem evaluateLane_spares {k : LaneId} (hk : l ≠ k) :
    (evaluateLane p s l).markLane k = s.markLane k ∧ (evaluateLane p s l).lane k = s.lane k := by
  rcases evaluateLane_cases p s l with ⟨-, he⟩ | ⟨m, b, -, he | ⟨cue, f, he⟩ | ⟨c, y, -, he⟩⟩
  · rw [he]
    exact ⟨rfl, rfl⟩
  · rw [he]
    exact ⟨State.markLane_setMarkLane_ne _ _ _ _ hk, rfl⟩
  · rw [he, markLane_addMarkFlag, lane_addMarkFlag, if_neg hk]
    exact ⟨State.markLane_setMarkLane_ne _ _ _ _ hk, rfl⟩
  · rw [he]
    exact ⟨State.markLane_setMarkLane_ne _ _ _ _ hk, rfl⟩

/-- An evaluation leaves every channel but the one that the lane holds. -/
theorem channel_evaluateLane {c : ChannelId} (h : ∀ m : MarkSetup, (s.markLane l).Due p m → (s.markLane l).bid ≠ .holding c) :
    (evaluateLane p s l).channel c = s.channel c := by
  rcases evaluateLane_cases p s l with ⟨-, he⟩ | ⟨m, b, hdue, he | ⟨cue, f, he⟩ | ⟨d, y, hd, he⟩⟩
  · rw [he]
  · rw [he]
    rfl
  · rw [he, channel_addMarkFlag]
    rfl
  · rw [he]
    exact State.channel_setChannel_ne _ _ _ _ fun hdc => h m hdue (hdc ▸ hd)

/-! ### One lane after another -/

theorem foldl_evaluateLane_counts (ls : List LaneId) (s : State) :
    (ls.foldl (evaluateLane p) s).marks.collisions = s.marks.collisions ∧
      (ls.foldl (evaluateLane p) s).marks.ovl = s.marks.ovl := by
  induction ls generalizing s with
  | nil => exact ⟨rfl, rfl⟩
  | cons l ls ih =>
    obtain ⟨hcollisions, hovl⟩ := evaluateLane_counts p s l
    obtain ⟨hcollisions', hovl'⟩ := ih (evaluateLane p s l)
    exact ⟨hcollisions'.trans hcollisions, hovl'.trans hovl⟩

theorem foldl_evaluateLane_spares {ls : List LaneId} {k : LaneId} (hk : k ∉ ls) :
    (ls.foldl (evaluateLane p) s).markLane k = s.markLane k ∧ (ls.foldl (evaluateLane p) s).lane k = s.lane k := by
  induction ls generalizing s with
  | nil => exact ⟨rfl, rfl⟩
  | cons l ls ih =>
    obtain ⟨hkl, hk⟩ := not_or.mp (mt List.mem_cons.mpr hk)
    obtain ⟨hmarks, hlane⟩ := evaluateLane_spares (p := p) (s := s) (Ne.symm hkl)
    obtain ⟨hmarks', hlane'⟩ := ih (s := evaluateLane p s l) hk
    exact ⟨hmarks'.trans hmarks, hlane'.trans hlane⟩

theorem channel_foldl_evaluateLane {ls : List LaneId} {c : ChannelId} (hnodup : ls.Nodup)
    (h : ∀ k ∈ ls, ∀ m : MarkSetup, (s.markLane k).Due p m → (s.markLane k).bid ≠ .holding c) :
    (ls.foldl (evaluateLane p) s).channel c = s.channel c := by
  induction ls generalizing s with
  | nil => rfl
  | cons l ls ih =>
    obtain ⟨hl, hnodup⟩ := List.nodup_cons.mp hnodup
    rw [List.foldl_cons, ih hnodup, channel_evaluateLane (h l List.mem_cons_self)]
    intro k hk
    have hlk : l ≠ k := fun heq => hl (heq ▸ hk)
    rw [(evaluateLane_spares hlk).1]
    exact h k (List.mem_cons_of_mem l hk)

/-- Among all lanes each is evaluated on its own: its marks, its cycle record and its channel are as the evaluation makes them of a
state that agrees with the first one in these (R97). -/
theorem evaluateLanes_view (h : s.overlayInv) (l : LaneId) :
    ∃ v : State, v.markLane l = s.markLane l ∧ v.lane l = s.lane l ∧
      (allLanes.foldl (evaluateLane p) s).markLane l = (evaluateLane p v l).markLane l ∧
      (allLanes.foldl (evaluateLane p) s).lane l = (evaluateLane p v l).lane l ∧
      ∀ c : ChannelId, (s.markLane l).bid = .holding c →
        v.channel c = s.channel c ∧ (allLanes.foldl (evaluateLane p) s).channel c = (evaluateLane p v l).channel c := by
  have hsplit : ∀ l : LaneId, allLanes = allLanes.take l ++ l :: allLanes.drop (l + 1) ∧ (allLanes.take l).Nodup ∧
      (allLanes.drop (l + 1)).Nodup ∧ l ∉ allLanes.take l ∧ l ∉ allLanes.drop (l + 1) := by decide
  obtain ⟨hlanes, hnodup, hnodup', hl, hl'⟩ := hsplit l
  generalize allLanes.take l = before at hlanes hnodup hl
  generalize allLanes.drop (l + 1) = after at hlanes hnodup' hl'
  rw [hlanes, List.foldl_append, List.foldl_cons]
  let v := before.foldl (evaluateLane p) s
  have hv : v.overlayInv := overlayInv_foldl (overlayInv_evaluateLane p) before h
  obtain ⟨hmarks, hlane⟩ := foldl_evaluateLane_spares (p := p) (s := s) hl
  obtain ⟨hmarks', hlane'⟩ := foldl_evaluateLane_spares (p := p) (s := evaluateLane p v l) hl'
  refine ⟨v, hmarks, hlane, hmarks', hlane', fun c hc => ?_⟩
  have hholder : (s.channel c).holder = some l := h.2.1 l c hc
  have hchannel : v.channel c = s.channel c := by
    refine channel_foldl_evaluateLane hnodup fun k hk m _ hkc => ?_
    rw [h.2.1 k c hkc] at hholder
    exact hl (Option.some.inj hholder ▸ hk)
  refine ⟨hchannel, channel_foldl_evaluateLane hnodup' fun k hk m _ hkc => ?_⟩
  have hkl : l ≠ k := fun heq => hl' (heq ▸ hk)
  rw [(evaluateLane_spares hkl).1] at hkc
  have hk' := hv.2.1 k c hkc
  rw [hchannel, hholder] at hk'
  exact hkl (Option.some.inj hk')

end

end Sys2Proof.Machine
end

section
/-! ## The collision counts, and the start hand-off (O25) -/

namespace Sys2Proof.Machine

set_option Elab.async false

/-! ### Counters (R100) -/

@[simp] theorem satAdd_zero (n : Nat) : satAdd n 0 = n := by
  unfold satAdd
  split <;> omega

theorem satAdd_one (n : Nat) : satAdd n 1 = satInc n := by
  unfold satAdd satInc
  split <;> split <;> omega

theorem satAdd_of_le {n : Nat} (k : Nat) (h : n ≤ 65535) : satAdd n k = min 65535 (n + k) := by
  unfold satAdd
  split <;> omega

/-- Where one property implies another, more meet the second exactly if one meets the second alone. -/
theorem countP_lt_countP_iff {α : Type} {f g : α → Bool} {xs : List α} (h : ∀ x : α, f x = true → g x = true) :
    xs.countP f < xs.countP g ↔ ∃ x ∈ xs, (g x && !f x) = true := by
  have hadd : xs.countP g = xs.countP f + xs.countP fun x => g x && !f x := by
    induction xs with
    | nil => rfl
    | cons x xs ih =>
      simp only [List.countP_cons, ih]
      cases hf : f x with
      | true => simp [h x hf]; omega
      | false => simp; omega
  rw [hadd, Nat.lt_add_right_iff_pos, List.countP_pos_iff]

/-! ### The tone lines' counts (R100) -/

theorem mem_allTones : ∀ t : ToneId, t ∈ allTones := by decide

theorem foldl_satAdd (g : ToneId → Nat) {ts : List ToneId} (hnodup : ts.Nodup) (v : Vector Nat 8) (x : ToneId) :
    (ts.foldl (fun v (t : ToneId) => v.set t (satAdd v[t] (g t))) v)[x] = if x ∈ ts then satAdd v[x] (g x) else v[x] := by
  induction ts generalizing v with
  | nil => rfl
  | cons t ts ih =>
    obtain ⟨ht, hnodup⟩ := List.nodup_cons.mp hnodup
    rw [List.foldl_cons, ih hnodup]
    by_cases htx : t = x
    · subst htx
      simp [ht]
    · have hne : (t : Nat) ≠ x := fun heq => htx (Fin.ext heq)
      simp [Ne.symm htx, hne]

theorem collisions_countCollisions (ls : List LaneId) (p : Nat) (s t : State) (x : ToneId) :
    (countCollisions ls p s t).marks.collisions[x] = satAdd t.marks.collisions[x] (collisionsAdded ls p x s t) := by
  have hx := foldl_satAdd (fun x => collisionsAdded ls p x s t) (ts := allTones) (by decide) t.marks.collisions x
  rwa [if_pos (mem_allTones x)] at hx

/-- A pip that begins sounds after the evaluation, so the pips that begin collide unless nothing else sounds (R100). -/
theorem collisionsAdded_eq {ls : List LaneId} {p : Nat} {x : ToneId} {s t : State} {begins : LaneId → Bool}
    (hbegins : ls.countP (fun l => s.pipBegins p x l) = allLanes.countP begins)
    (hsounds : ∀ l : LaneId, begins l = true → t.pipOn x l = true) :
    collisionsAdded ls p x s t =
      if (allLanes.any fun l => t.pipOn x l && !begins l) = true then allLanes.countP begins else allLanes.countP begins - 1 := by
  have hmore := countP_lt_countP_iff (xs := allLanes) hsounds
  rw [← List.any_eq_true] at hmore
  unfold collisionsAdded
  rw [hbegins]
  simp only [hmore]

theorem countP_lane (l : LaneId) : (allLanes.countP fun k => k == l) = 1 := by
  revert l
  decide

/-- One lane's pip that begins counts where another lane's sounds on the line; with none that begins nothing is counted. -/
theorem collisionsAdded_one {l : LaneId} {p : Nat} {x : ToneId} {s t : State} (h : t.pipOn x l = s.pipBegins p x l) :
    collisionsAdded [l] p x s t = if (s.pipBegins p x l && allLanes.any fun k => k != l && t.pipOn x k) = true then 1 else 0 := by
  cases hb : s.pipBegins p x l with
  | false => simp [collisionsAdded, hb]
  | true =>
    rw [collisionsAdded_eq (begins := fun k => k == l) (by simp [hb, countP_lane])]
    · simp only [countP_lane, bne, Bool.and_comm, Bool.true_and]
    · intro k hk
      rw [beq_iff_eq.mp hk, h, hb]

/-! ### The start hand-off (R96) -/

/-- What a start hand-off leaves of the lane's marks when it is evaluated at its frame (R96, R97). -/
def startedAt (m : MarkSetup) (p : Nat) (pip : Option Nat) (b : BidState) : MarkLane where
  setup := some m
  lastFrame := some p
  phase := m.phaseAt p
  pip := pip
  bid := b

/-- The counts when a lane's pip begins, or does not, with its start: one collision where another lane sounds on its line (R100). -/
def State.startCollisions (s : State) (l : LaneId) (m : MarkSetup) (pip : Option Nat) : Vector Nat 8 :=
  match m.tone, pip with
  | some x, some _ =>
    if (allLanes.any fun k => k != l && s.pipOn x k) = true then s.marks.collisions.set x (satInc s.marks.collisions[x])
    else s.marks.collisions
  | some _, none => s.marks.collisions
  | none, _ => s.marks.collisions

/-- The lane's marks and the counts after the start. -/
def startEvaluated (l : LaneId) (m : MarkSetup) (p : Nat) (pip : Option Nat) (b : BidState) (s : State) : State :=
  State.setMarkLane { s with marks := { s.marks with collisions := s.startCollisions l m pip } } l (startedAt m p pip b)

section
variable {l : LaneId} {m : MarkSetup} {p : Nat} {pip : Option Nat} {s : State}

theorem takeStartHandoff_of_start (h : s.firstHandoff l = some (.start l m p)) :
    takeStartHandoff l s = markStart l m p { s with handoffs := dropHandoff l s.handoffs } := by
  rw [takeStartHandoff, h]

theorem takeStartHandoff_of_not_start (h : ∀ (m : MarkSetup) (k : LaneId) (p : Nat), s.firstHandoff l ≠ some (.start k m p)) :
    takeStartHandoff l s = s := by
  unfold takeStartHandoff
  split
  · rfl
  · next k m p hfirst => exact absurd hfirst (h m k p)
  · rfl

theorem startCollisions_get (x : ToneId) :
    (s.startCollisions l m pip)[x] =
      satAdd s.marks.collisions[x]
        (if (m.tone == some x && pip.isSome && allLanes.any fun k => k != l && s.pipOn x k) = true then 1 else 0) := by
  unfold State.startCollisions
  cases htone : m.tone with
  | none => simp
  | some y =>
    cases pip with
    | none => simp
    | some k =>
      by_cases hyx : y = x
      · subst hyx
        dsimp only
        generalize (allLanes.any fun k => k != l && s.pipOn y k) = others
        cases others
        · simp
        · simp [satAdd_one]
      · have hne : (y : Nat) ≠ x := fun heq => hyx (Fin.ext heq)
        dsimp only
        split <;> simp [hyx, hne]

theorem pipOn_setMarkLane_ne {k : LaneId} (x : MarkLane) (t : ToneId) (h : l ≠ k) : (s.setMarkLane l x).pipOn t k = s.pipOn t k := by
  rw [State.pipOn, State.markLane_setMarkLane_ne _ _ _ _ h, State.pipOn]

/-- The counts that the evaluation of a lane that starts leaves. -/
theorem countCollisions_start {b : BidState} {t : State} (hpip : m.beginsPip p pip)
    (ht : t.marks = (s.setMarkLane l (startedAt m p pip b)).marks) :
    countCollisions [l] p (s.setMarkLane l (startedMarkLane m)) t = { t with marks := (startEvaluated l m p pip b s).marks } := by
  have hbegins (x : ToneId) :
      (s.setMarkLane l (startedMarkLane m)).pipBegins p x l = (m.tone == some x && pip.isSome) := by
    unfold State.pipBegins
    rw [State.markLane_setMarkLane_same]
    have hfirst : ((none : Option Nat) != some p) = true := rfl
    simp [startedMarkLane, pipBeginning_of_beginsPip hpip, hfirst]
  have hsounds (x : ToneId) : t.pipOn x l = (m.tone == some x && pip.isSome) := by
    rw [State.pipOn, markLane_of_marks ht, State.markLane_setMarkLane_same]
    exact Bool.and_comm _ _
  have hothers (x : ToneId) (k : LaneId) : (k != l && t.pipOn x k) = (k != l && s.pipOn x k) := by
    by_cases hkl : k = l
    · simp [hkl]
    · have hpipOn : t.pipOn x k = (s.setMarkLane l (startedAt m p pip b)).pipOn x k := by
        rw [State.pipOn, markLane_of_marks ht, State.pipOn]
      rw [hpipOn, pipOn_setMarkLane_ne _ _ (Ne.symm hkl)]
  have hcounts : (countCollisions [l] p (s.setMarkLane l (startedMarkLane m)) t).marks.collisions = s.startCollisions l m pip := by
    refine Vector.ext fun i hi => ?_
    have hget := collisions_countCollisions [l] p (s.setMarkLane l (startedMarkLane m)) t ⟨i, hi⟩
    rw [collisionsAdded_one ((hsounds _).trans (hbegins _).symm), hbegins] at hget
    simp only [hothers] at hget
    have hstart := startCollisions_get (s := s) (l := l) (m := m) (pip := pip) ⟨i, hi⟩
    rw [ht] at hget
    exact hget.trans hstart.symm
  have hrest : countCollisions [l] p (s.setMarkLane l (startedMarkLane m)) t =
      { t with
        marks :=
          { t.marks with collisions := (countCollisions [l] p (s.setMarkLane l (startedMarkLane m)) t).marks.collisions } } := rfl
  rw [hrest, hcounts, ht]
  rfl

theorem evaluated_startedMarkLane (hpip : m.beginsPip p pip) (b : BidState) :
    (startedMarkLane m).evaluated m p b = startedAt m p pip b := by
  have hactive : (startedMarkLane m).pipAt m p = pip := by
    cases pip with
    | none => exact pipAt_of_none hpip
    | some k => exact pipAt_of_begins _ hpip
  rw [MarkLane.evaluated, hactive]
  rfl

theorem due_started : ((s.setMarkLane l (startedMarkLane m)).markLane l).Due p m := by
  rw [State.markLane_setMarkLane_same]
  exact ⟨rfl, by simp [startedMarkLane]⟩

/-- A start that the lane takes now: the lane is evaluated, and a decision pass follows where its bid opens (R96). -/
theorem markStart_of_evaluated {b : BidState} {t : State} (hoffered : s.offered.marks = false) (hpip : m.beginsPip p pip)
    (he : evaluateLane p (s.setMarkLane l (startedMarkLane m)) l = t)
    (ht : t.marks = (s.setMarkLane l (startedAt m p pip b)).marks) :
    markStart l m p s =
      if b.isBidding = true then decisionPass p { t with marks := (startEvaluated l m p pip b s).marks }
      else { t with marks := (startEvaluated l m p pip b s).marks } := by
  have heval : evaluateLanes [l] p (s.setMarkLane l (startedMarkLane m)) = { t with marks := (startEvaluated l m p pip b s).marks } := by
    rw [← countCollisions_start hpip ht, ← he]
    rfl
  have hbid : (State.markLane { t with marks := (startEvaluated l m p pip b s).marks } l).bid = b :=
    congrArg MarkLane.bid (State.markLane_setMarkLane_same _ _ _)
  unfold markStart
  dsimp only
  rw [heval, hbid, if_neg (by simp [hoffered])]

theorem startedMarkLane_bid_closed (hw : m.wipe = 0) (hf : m.flash = 0) : (startedMarkLane m).bid = .closed := if_pos ⟨hw, hf⟩

theorem startedMarkLane_bid_waiting (h : m.wipe ≠ 0 ∨ m.flash ≠ 0) : (startedMarkLane m).bid = .waiting :=
  if_neg fun hboth => h.elim (absurd hboth.1) (absurd hboth.2)

/-- No wipe and no flash: the bid is closed from the start, and only the pips are worked out (R96). -/
theorem markStart_of_closed (hoffered : s.offered.marks = false) (hpip : m.beginsPip p pip) (hw : m.wipe = 0) (hf : m.flash = 0) :
    markStart l m p s = startEvaluated l m p pip .closed s := by
  have hbid := startedMarkLane_bid_closed hw hf
  have he := evaluateLane_of_rest (p := p) (s := s.setMarkLane l (startedMarkLane m)) due_started
    (.inr (.inl (by rw [State.markLane_setMarkLane_same, hbid])))
  rw [State.markLane_setMarkLane_same, State.setMarkLane_twice, hbid, evaluated_startedMarkLane hpip] at he
  rw [markStart_of_evaluated hoffered hpip he rfl]
  rfl

/-- Before the bid start the lane waits (R96). -/
theorem markStart_of_waiting (hoffered : s.offered.marks = false) (hpip : m.beginsPip p pip) (hmarks : m.wipe ≠ 0 ∨ m.flash ≠ 0)
    (hearly : p + m.wipe < m.markRef) : markStart l m p s = startEvaluated l m p pip .waiting s := by
  have hbid := startedMarkLane_bid_waiting hmarks
  have he := evaluateLane_of_rest (p := p) (s := s.setMarkLane l (startedMarkLane m)) due_started
    (.inr (.inr ⟨by rw [State.markLane_setMarkLane_same, hbid], hearly⟩))
  rw [State.markLane_setMarkLane_same, State.setMarkLane_twice, hbid, evaluated_startedMarkLane hpip] at he
  rw [markStart_of_evaluated hoffered hpip he rfl]
  rfl

theorem opened_started (hmarks : m.wipe ≠ 0 ∨ m.flash ≠ 0) (hstart : m.markRef ≤ p + m.wipe) :
    ((s.setMarkLane l (startedMarkLane m)).markLane l).Opened m p := by
  rw [State.markLane_setMarkLane_same]
  exact .inr ⟨startedMarkLane_bid_waiting hmarks, hstart⟩

/-- The bid opens, and a decision pass follows (R96, R103). -/
theorem markStart_of_bid (hoffered : s.offered.marks = false) (hpip : m.beginsPip p pip) (hmarks : m.wipe ≠ 0 ∨ m.flash ≠ 0)
    (hstart : m.markRef ≤ p + m.wipe) (hp : p < m.markRef + m.flash) :
    markStart l m p s = decisionPass p (startEvaluated l m p pip (.bidding (m.bidAt p)) s) := by
  have he := evaluateLane_of_bid (s := s.setMarkLane l (startedMarkLane m)) due_started (opened_started hmarks hstart) hp
  rw [State.markLane_setMarkLane_same, State.setMarkLane_twice, evaluated_startedMarkLane hpip] at he
  rw [markStart_of_evaluated hoffered hpip he rfl]
  rfl

/-- The marks are no part of what a flag reads or writes. -/
theorem addMarkFlag_marks (s : State) (l : LaneId) (cue : Nat) (f : Flags → Flags) (x : Marks) :
    addMarkFlag l cue f { s with marks := x } = { addMarkFlag l cue f s with marks := x } := by
  have hruns : State.runsCycle { s with marks := x } l cue = s.runsCycle l cue := rfl
  unfold addMarkFlag
  rw [hruns]
  split <;> rfl

/-- The bid opens when its wipe and flash are over, and is dropped (R106). -/
theorem markStart_of_dropped (hoffered : s.offered.marks = false) (hpip : m.beginsPip p pip) (hmarks : m.wipe ≠ 0 ∨ m.flash ≠ 0)
    (hstart : m.markRef ≤ p + m.wipe) (hp : m.markRef + m.flash ≤ p) :
    markStart l m p s =
      addMarkFlag l m.cue (fun f => { f with wipeDropped := true }) (startEvaluated l m p pip .closed s) := by
  have he := evaluateLane_of_dropped (s := s.setMarkLane l (startedMarkLane m)) due_started (opened_started hmarks hstart) hp
  rw [State.markLane_setMarkLane_same, State.setMarkLane_twice, evaluated_startedMarkLane hpip] at he
  rw [markStart_of_evaluated hoffered hpip he (marks_addMarkFlag _ _ _ _), ← addMarkFlag_marks]
  rfl

end

/-- Settles O25: whether the block has still to take the advance, and the courses of the bid at the frame. -/
theorem startHandoffStoresTheSetup : Obligations.StartHandoffStoresTheSetup := by
  unfold Obligations.StartHandoffStoresTheSetup
  refine fun l s hreset => ⟨fun m p hfirst => ?starts, fun hfirst => ?noStart⟩
  case noStart =>
    show live (takeStartHandoff l) s = _
    rw [live_of_released hreset, takeStartHandoff_of_not_start hfirst]
  case starts =>
    intro u bid answer
    have hanswer {t : State} (h : markStart l m p u = t) : answer t := by
      show live (takeStartHandoff l) s = _
      rw [live_of_released hreset, takeStartHandoff_of_start hfirst, h]
    refine ⟨fun hoffered => hanswer (if_pos hoffered), fun hoffered pip hpip => ?_⟩
    intro others collisions evaluated
    have hevaluated (b : BidState) : startEvaluated l m p pip b u = evaluated b := rfl
    refine ⟨fun hw hf => ?_, fun hmarks => ⟨fun hearly => ?_, fun hstart hp => ?_, fun hstart hp => ?_⟩⟩
    · exact hanswer (markStart_of_closed hoffered hpip hw hf)
    · exact hanswer (markStart_of_waiting hoffered hpip hmarks hearly)
    · exact hanswer (markStart_of_bid hoffered hpip hmarks hstart hp)
    · exact hanswer (markStart_of_dropped hoffered hpip hmarks hstart hp)

end Sys2Proof.Machine
end

section
/-! ## What a decision pass leaves and grants (R103, R104)

Each fact is by induction on the grants of the pass. -/

namespace Sys2Proof.Machine

set_option Elab.async false

section
variable {s t : State} {p : Nat}

/-! ### One grant -/

theorem lane_grantChannel_ne {l k : LaneId} {c : ChannelId} {m : MarkSetup} (hm : (s.markLane l).setup = some m) (h : l ≠ k) :
    (grantChannel l c p s).lane k = s.lane k := by
  rw [grantChannel_of_setup hm]
  split
  · rw [lane_addMarkFlag, if_neg h]
    rfl
  · rfl

/-- A grant after the bid start adds WIPE_LATE (R104). -/
theorem lane_grantChannel_same {l : LaneId} {c : ChannelId} {m : MarkSetup} (hm : (s.markLane l).setup = some m) :
    (grantChannel l c p s).lane l =
      if m.late p = true then (s.lane l).withFlag m.cue (fun f => { f with wipeLate := true }) else s.lane l := by
  rw [grantChannel_of_setup hm]
  split
  · rw [lane_addMarkFlag_same]
    rfl
  · rfl

/-! ### What a pass leaves -/

/-- A pass ends with no free channel or no bid at the threshold. -/
theorem Passes.ended (h : Passes p s t) : t.freeChannel = none ∨ t.bestBid = none := by
  induction h with
  | done h => exact h
  | grant _ _ _ _ _ ih => exact ih

theorem Passes.marks (h : Passes p s t) :
    t.marks = { s.marks with lanes := t.marks.lanes, channels := t.marks.channels } := by
  induction h with
  | done => rfl
  | grant m _ _ hm _ ih =>
    refine ih.trans ?_
    rw [marks_grantChannel hm]
    rfl

theorem Passes.spares_lane {l : LaneId} (h : Passes p s t) (hl : ∀ b : Nat, (s.markLane l).bid ≠ .bidding b) :
    t.markLane l = s.markLane l ∧ t.lane l = s.lane l := by
  induction h with
  | done => exact ⟨rfl, rfl⟩
  | @grant s t c y m _ hy hm _ ih =>
    have hne : y.1 ≠ l := fun heq => hl y.2 (heq ▸ (best_of_bestBid hy).1)
    have hmarks : (grantChannel y.1 c p s).markLane l = s.markLane l := by rw [markLane_grantChannel hm, if_neg hne]
    obtain ⟨hmarks', hlane'⟩ := ih fun b => hmarks ▸ hl b
    exact ⟨hmarks'.trans hmarks, hlane'.trans (lane_grantChannel_ne hm hne)⟩

theorem Passes.spares_channel {c : ChannelId} (h : Passes p s t) (hc : (s.channel c).holder ≠ none) :
    t.channel c = s.channel c := by
  induction h with
  | done => rfl
  | @grant s t d y m hd _ hm _ ih =>
    have hne : d ≠ c := fun heq => hc (heq ▸ holder_of_freeChannel hd)
    have hchannel : (grantChannel y.1 d p s).channel c = s.channel c := by rw [channel_grantChannel hm, if_neg hne]
    exact (ih (hchannel ▸ hc)).trans hchannel

/-! ### What a pass grants -/

/-- A lane is as before, or its bid at the threshold has got a channel that was free. -/
theorem Passes.lane (h : Passes p s t) (l : LaneId) :
    (t.markLane l = s.markLane l ∧ t.lane l = s.lane l) ∨
      ∃ (b : Nat) (m : MarkSetup) (c : ChannelId), (s.markLane l).bid = .bidding b ∧ s.params.bidThreshold ≤ b ∧
        (s.markLane l).setup = some m ∧ t.markLane l = { s.markLane l with bid := .holding c } ∧
        (s.channel c).holder = none ∧ t.channel c = { s.channel c with holder := some l, drawing := m.drawingAt p } ∧
        t.lane l =
          if m.late p = true then (s.lane l).withFlag m.cue (fun f => { f with wipeLate := true }) else s.lane l := by
  induction h with
  | done => exact .inl ⟨rfl, rfl⟩
  | @grant s t c y m hc hy hm hpass ih =>
    obtain ⟨hbid, hlow, -⟩ := best_of_bestBid hy
    have hfree := holder_of_freeChannel hc
    by_cases hl : y.1 = l
    · subst hl
      have hmarks : (grantChannel y.1 c p s).markLane y.1 = { s.markLane y.1 with bid := .holding c } := by
        rw [markLane_grantChannel hm, if_pos rfl]
      have hchannel : (grantChannel y.1 c p s).channel c = { s.channel c with holder := some y.1, drawing := m.drawingAt p } := by
        rw [channel_grantChannel hm, if_pos rfl]
      obtain ⟨hmarks', hlane'⟩ := hpass.spares_lane (l := y.1) (by simp [hmarks])
      have hchannel' := hpass.spares_channel (c := c) (by simp [hchannel])
      exact .inr ⟨y.2, m, c, hbid, hlow, hm, hmarks'.trans hmarks, hfree, hchannel'.trans hchannel,
        hlane'.trans (lane_grantChannel_same hm)⟩
    · have hmarks : (grantChannel y.1 c p s).markLane l = s.markLane l := by rw [markLane_grantChannel hm, if_neg hl]
      have hlane : (grantChannel y.1 c p s).lane l = s.lane l := lane_grantChannel_ne hm hl
      rw [hmarks, hlane, params_grantChannel] at ih
      refine ih.imp id ?_
      rintro ⟨b, m', d, hb, hthreshold, hm', hheld, hd, hchannel, hlate⟩
      have hcd : c ≠ d := by
        rintro rfl
        rw [channel_grantChannel hm, if_pos rfl] at hd
        cases hd
      rw [channel_grantChannel hm, if_neg hcd] at hd hchannel
      exact ⟨b, m', d, hb, hthreshold, hm', hheld, hd, hchannel, hlate⟩

/-- A channel is as before, or it was free and a lane holds it now. -/
theorem Passes.channel (h : Passes p s t) (c : ChannelId) :
    t.channel c = s.channel c ∨
      ∃ l : LaneId, (s.channel c).holder = none ∧ (t.channel c).holder = some l ∧ (t.markLane l).bid = .holding c := by
  induction h with
  | done => exact .inl rfl
  | @grant s t d y m hd hy hm hpass ih =>
    by_cases hdc : d = c
    · subst hdc
      have hchannel : (grantChannel y.1 d p s).channel d = { s.channel d with holder := some y.1, drawing := m.drawingAt p } := by
        rw [channel_grantChannel hm, if_pos rfl]
      have hmarks : (grantChannel y.1 d p s).markLane y.1 = { s.markLane y.1 with bid := .holding d } := by
        rw [markLane_grantChannel hm, if_pos rfl]
      refine .inr ⟨y.1, holder_of_freeChannel hd, ?_, ?_⟩
      · rw [hpass.spares_channel (by simp [hchannel]), hchannel]
      · rw [(hpass.spares_lane (by simp [hmarks])).1, hmarks]
    · have hchannel : (grantChannel y.1 d p s).channel c = s.channel c := by rw [channel_grantChannel hm, if_neg hdc]
      rwa [hchannel] at ih

/-- The higher bids are served first, and the lower lanes between equal ones (R103). -/
theorem Passes.order {k l : LaneId} {b b' : Nat} {c : ChannelId} (h : Passes p s t) (hk : (s.markLane k).bid = .bidding b)
    (hheld : (t.markLane k).bid = .holding c) (hl : (t.markLane l).bid = .bidding b') : b' < b ∨ (b' = b ∧ k < l) := by
  induction h with
  | done => cases hk.symm.trans hheld
  | @grant s t d y m hd hy hm hpass ih =>
    obtain ⟨hbid, -, hbest⟩ := best_of_bestBid hy
    have hmarks (j : LaneId) (hj : y.1 ≠ j) : (grantChannel y.1 d p s).markLane j = s.markLane j := by
      rw [markLane_grantChannel hm, if_neg hj]
    by_cases hyk : y.1 = k
    · subst hyk
      cases hbid.symm.trans hk
      have hopen : (s.markLane l).bid = .bidding b' := by
        rcases (Passes.grant m hd hy hm hpass).lane l with ⟨hsame, -⟩ | ⟨_, _, e, _, _, _, hgranted, _⟩
        · rwa [hsame] at hl
        · rw [hgranted] at hl
          cases hl
      have hne : y.1 ≠ l := fun heq => by
        rw [← heq, hheld] at hl
        cases hl
      exact (hbest l b' hopen).imp_right fun ⟨heq, hle⟩ => ⟨heq, lt_of_le_of_ne hle hne⟩
    · exact ih (by rwa [hmarks k hyk]) hheld hl

end

end Sys2Proof.Machine
end

section
/-! ## The Mark Generator and the Overlay Arbiter at an advance (O27) -/

namespace Sys2Proof.Machine

set_option Elab.async false

/-- The arbiter's frame is the advance's, and the tone lines' counts rise from one state to the evaluated one (R97, R100). -/
def marksCounted (p : Nat) (s t : State) : State :=
  { countCollisions allLanes p s t with marks := { (countCollisions allLanes p s t).marks with frame := some p } }

/-- The marks at an advance before the decision pass (R97, R100). It is irreducible, so that its eight evaluations are read
through the lemmas below and not computed. -/
@[irreducible] def marksEvaluated (p : Nat) (s : State) : State := marksCounted p s (allLanes.foldl (evaluateLane p) s)

theorem marksAdvance_eq (p : Nat) (s : State) : marksAdvance p s = decisionPass p (marksEvaluated p s) := by
  rw [marksEvaluated]
  rfl

theorem marksTakeAdvance_of_offered {s : State} {a : Advance} (h : s.offered.event = some (.advance a))
    (hmarks : s.offered.marks = true) : marksTakeAdvance s = decisionPass a.frame (marksEvaluated a.frame s.marksTook) := by
  rw [marksTakeAdvance, offeredAdvance_of_event h]
  exact (if_pos hmarks).trans (marksAdvance_eq _ _)

/-- There is no advance, or the block has taken it. -/
theorem marksTakeAdvance_of_none {s : State} (h : (∀ a : Advance, s.offered.event ≠ some (.advance a)) ∨ s.offered.marks = false) :
    marksTakeAdvance s = s := by
  unfold marksTakeAdvance
  split
  · rfl
  · next a ha =>
    refine if_neg fun hmarks => ?_
    rcases h with h | h
    · unfold State.offeredAdvance at ha
      split at ha
      · next a' ha' => exact h a' ha'
      all_goals cases ha
    · exact absurd (hmarks.symm.trans h) (by decide)

section
variable {p : Nat} {s : State}

/-! ### What the evaluation leaves -/

theorem touches_marksEvaluated (p : Nat) (s : State) : TouchesOnly [.lanes, .marks] s (marksEvaluated p s) := by
  rw [marksEvaluated]
  exact (touches_evaluateLanes allLanes p s).andThen (touches_marks _ _)

theorem markLane_marksCounted (t : State) (l : LaneId) : (marksCounted p s t).markLane l = t.markLane l := rfl

theorem channel_marksCounted (t : State) (c : ChannelId) : (marksCounted p s t).channel c = t.channel c := rfl

theorem markLane_marksEvaluated (l : LaneId) :
    (marksEvaluated p s).markLane l = (allLanes.foldl (evaluateLane p) s).markLane l := by
  rw [marksEvaluated, markLane_marksCounted]

theorem channel_marksEvaluated (c : ChannelId) :
    (marksEvaluated p s).channel c = (allLanes.foldl (evaluateLane p) s).channel c := by
  rw [marksEvaluated, channel_marksCounted]

theorem overlayInv_marksEvaluated (h : s.overlayInv) : (marksEvaluated p s).overlayInv :=
  overlayInv_of_overlay (overlayInv_foldl (overlayInv_evaluateLane p) allLanes h) markLane_marksEvaluated channel_marksEvaluated

theorem lane_marksCounted (t : State) (l : LaneId) : (marksCounted p s t).lane l = t.lane l := rfl

theorem lane_marksEvaluated (l : LaneId) :
    (marksEvaluated p s).lane l = (allLanes.foldl (evaluateLane p) s).lane l := by
  rw [marksEvaluated, lane_marksCounted]

theorem ovl_marksCounted (t : State) : (marksCounted p s t).marks.ovl = t.marks.ovl := rfl

theorem ovl_marksEvaluated : (marksEvaluated p s).marks.ovl = s.marks.ovl := by
  rw [marksEvaluated, ovl_marksCounted, (foldl_evaluateLane_counts allLanes s).2]

theorem frame_marksCounted (t : State) : (marksCounted p s t).marks.frame = some p := rfl

theorem frame_marksEvaluated : (marksEvaluated p s).marks.frame = some p := by
  rw [marksEvaluated, frame_marksCounted]

/-! ### The collision counts (R100) -/

/-- A pip that begins is active after the evaluation, on the same line. -/
theorem pipOn_of_pipBegins {x : ToneId} {l : LaneId} (hinv : s.overlayInv) (h : s.pipBegins p x l = true) :
    (allLanes.foldl (evaluateLane p) s).pipOn x l = true := by
  unfold State.pipBegins at h
  split at h
  · cases h
  · next m hm =>
    simp only [Bool.and_eq_true, bne_iff_ne, ne_eq] at h
    obtain ⟨⟨htone, hlast⟩, hpip⟩ := h
    obtain ⟨k, hk⟩ := Option.isSome_iff_exists.mp hpip
    obtain ⟨v, hv, -, hview, -⟩ := evaluateLanes_view (p := p) hinv l
    have hdue : (v.markLane l).Due p m := hv ▸ ⟨hm, hlast⟩
    obtain ⟨b, hb⟩ := markLane_evaluateLane hdue
    rw [State.pipOn, hview, hb, hv]
    simp [MarkLane.evaluated, MarkLane.pipAt, hk, hm, htone]

/-- The counts rise by the pips that begin, less one where no earlier one still sounds (R100). -/
theorem collisions_marksCounted (t : State) (x : ToneId) :
    (marksCounted p s t).marks.collisions[x] = satAdd t.marks.collisions[x] (collisionsAdded allLanes p x s t) :=
  collisions_countCollisions allLanes p s t x

theorem pipOn_marksEvaluated (x : ToneId) (l : LaneId) :
    (marksEvaluated p s).pipOn x l = (allLanes.foldl (evaluateLane p) s).pipOn x l := by
  rw [State.pipOn, markLane_marksEvaluated, State.pipOn]

theorem collisions_marksEvaluated (hinv : s.overlayInv) (x : ToneId) (hx : s.marks.collisions[x] ≤ 65535) :
    (marksEvaluated p s).marks.collisions[x] =
      min 65535 (s.marks.collisions[x] +
        if (allLanes.any fun l => (marksEvaluated p s).pipOn x l && !s.pipBegins p x l) = true then
          allLanes.countP fun l => s.pipBegins p x l
        else (allLanes.countP fun l => s.pipBegins p x l) - 1) := by
  simp only [pipOn_marksEvaluated]
  rw [marksEvaluated, collisions_marksCounted, collisionsAdded_eq rfl fun l => pipOn_of_pipBegins hinv,
    (foldl_evaluateLane_counts allLanes s).1, satAdd_of_le _ hx]

theorem isSome_pipBeginning (m : MarkSetup) (p : Nat) :
    (m.pipBeginning p).isSome = (List.range m.pips).any fun i => p + (i + 1) * m.spacing == m.markRef := by
  rw [MarkSetup.pipBeginning, Option.isSome_map, List.isSome_find?]

/-! ### A lane's marks, cycle record and channel after the evaluation (R97) -/

theorem marksEvaluated_view (h : s.overlayInv) (l : LaneId) :
    ∃ v : State, v.markLane l = s.markLane l ∧ v.lane l = s.lane l ∧
      (marksEvaluated p s).markLane l = (evaluateLane p v l).markLane l ∧
      (marksEvaluated p s).lane l = (evaluateLane p v l).lane l ∧
      ∀ c : ChannelId, (s.markLane l).bid = .holding c →
        v.channel c = s.channel c ∧ (marksEvaluated p s).channel c = (evaluateLane p v l).channel c := by
  simp only [markLane_marksEvaluated, lane_marksEvaluated, channel_marksEvaluated]
  exact evaluateLanes_view h l

/-- A channel that no lane due at the frame holds is as before. -/
theorem channel_marksEvaluated_of_not_held {c : ChannelId}
    (h : ∀ (l : LaneId) (m : MarkSetup), (s.markLane l).Due p m → (s.markLane l).bid ≠ .holding c) :
    (marksEvaluated p s).channel c = s.channel c := by
  rw [channel_marksEvaluated]
  exact channel_foldl_evaluateLane (by decide) fun l _ => h l

section
variable {l : LaneId} {m : MarkSetup} (hinv : s.overlayInv)
include hinv

theorem marksEvaluated_of_not_due (hnot : ∀ m : MarkSetup, ¬(s.markLane l).Due p m) :
    (marksEvaluated p s).markLane l = s.markLane l ∧ (marksEvaluated p s).lane l = s.lane l := by
  obtain ⟨v, hv, hlane, hu, hulane, -⟩ := marksEvaluated_view (p := p) hinv l
  rw [hu, hulane, evaluateLane_of_not_due (hv ▸ hnot)]
  exact ⟨hv, hlane⟩

theorem markLane_marksEvaluated_of_due (hdue : (s.markLane l).Due p m) :
    ∃ b : BidState, (marksEvaluated p s).markLane l = (s.markLane l).evaluated m p b := by
  obtain ⟨v, hv, -, hu, -, -⟩ := marksEvaluated_view (p := p) hinv l
  rw [hu, ← hv]
  exact markLane_evaluateLane (hv ▸ hdue)

theorem marksEvaluated_of_rest (hdue : (s.markLane l).Due p m)
    (hbid : (s.markLane l).bid = .idle ∨ (s.markLane l).bid = .closed ∨ ((s.markLane l).bid = .waiting ∧ p + m.wipe < m.markRef)) :
    ((marksEvaluated p s).markLane l).bid = (s.markLane l).bid ∧ (marksEvaluated p s).lane l = s.lane l := by
  obtain ⟨v, hv, hlane, hu, hulane, -⟩ := marksEvaluated_view (p := p) hinv l
  rw [← hv] at hdue hbid
  rw [hu, hulane, evaluateLane_of_rest hdue hbid, State.markLane_setMarkLane_same, ← hv]
  exact ⟨rfl, hlane⟩

theorem marksEvaluated_of_bid (hdue : (s.markLane l).Due p m) (hopen : (s.markLane l).Opened m p) (hp : p < m.markRef + m.flash) :
    ((marksEvaluated p s).markLane l).bid = .bidding (m.bidAt p) ∧ (marksEvaluated p s).lane l = s.lane l := by
  obtain ⟨v, hv, hlane, hu, hulane, -⟩ := marksEvaluated_view (p := p) hinv l
  rw [← hv] at hdue hopen
  rw [hu, hulane, evaluateLane_of_bid hdue hopen hp, State.markLane_setMarkLane_same]
  exact ⟨rfl, hlane⟩

theorem marksEvaluated_of_dropped (hdue : (s.markLane l).Due p m) (hopen : (s.markLane l).Opened m p)
    (hp : m.markRef + m.flash ≤ p) :
    ((marksEvaluated p s).markLane l).bid = .closed ∧
      (marksEvaluated p s).lane l = (s.lane l).withFlag m.cue fun f => { f with wipeDropped := true } := by
  obtain ⟨v, hv, hlane, hu, hulane, -⟩ := marksEvaluated_view (p := p) hinv l
  rw [← hv] at hdue hopen
  rw [hu, hulane, evaluateLane_of_dropped hdue hopen hp, markLane_addMarkFlag, State.markLane_setMarkLane_same,
    lane_addMarkFlag_same, ← hlane]
  exact ⟨rfl, rfl⟩

theorem marksEvaluated_of_shown {c : ChannelId} (hdue : (s.markLane l).Due p m) (hc : (s.markLane l).bid = .holding c)
    (hp : p < m.markRef + m.flash) :
    (marksEvaluated p s).lane l = s.lane l ∧ ((marksEvaluated p s).markLane l).bid = .holding c ∧
      (marksEvaluated p s).channel c = { s.channel c with drawing := m.drawingAt p } := by
  obtain ⟨v, hv, hlane, hu, hulane, hchannel⟩ := marksEvaluated_view (p := p) hinv l
  obtain ⟨hvc, huc⟩ := hchannel c hc
  rw [← hv] at hdue hc
  rw [hu, hulane, huc, evaluateLane_of_shown hdue hc hp, State.markLane_setChannel_other, State.markLane_setMarkLane_same,
    State.channel_setChannel_same, hvc]
  exact ⟨hlane, rfl, rfl⟩

theorem marksEvaluated_of_spent {c : ChannelId} (hdue : (s.markLane l).Due p m) (hc : (s.markLane l).bid = .holding c)
    (hp : m.markRef + m.flash ≤ p) :
    (marksEvaluated p s).lane l = s.lane l ∧ ((marksEvaluated p s).markLane l).bid = .closed ∧
      (marksEvaluated p s).channel c = { s.channel c with holder := none, drawing := .blank } := by
  obtain ⟨v, hv, hlane, hu, hulane, hchannel⟩ := marksEvaluated_view (p := p) hinv l
  obtain ⟨hvc, huc⟩ := hchannel c hc
  rw [← hv] at hdue hc
  rw [hu, hulane, huc, evaluateLane_of_spent hdue hc hp, State.markLane_setChannel_other, State.markLane_setMarkLane_same,
    State.channel_setChannel_same, hvc]
  exact ⟨hlane, rfl, rfl⟩

end

end

/-- Settles O27: the evaluation lane by lane, the counts it leaves, and the decision pass as its grants. -/
theorem marksTakeAnAdvance : Obligations.MarksTakeAnAdvance := by
  unfold Obligations.MarksTakeAnAdvance
  refine fun s hreset => ⟨fun hnone => ?none, fun a ha hmarks hinv => ?advance⟩
  case none =>
    show live marksTakeAdvance s = _
    rw [live_of_released hreset, marksTakeAdvance_of_none hnone]
  case advance =>
    intro p due opened drawn
    have hv : s.marksTook.overlayInv := overlayInv_of_touches (touches_offered s _) hinv
    let u := marksEvaluated p s.marksTook
    have hu : TouchesOnly [.lanes, .marks] s.marksTook u := touches_marksEvaluated p _
    have huInv : u.overlayInv := overlayInv_marksEvaluated hv
    have hpass : Passes p u (decisionPass p u) := by
      refine passes_decisionPass p fun k b hk hnone => ?_
      cases hk.symm.trans (huInv.2.2 k hnone)
    have hparams : u.params = s.params := hu .params (by decide)
    have htparams : (decisionPass p u).params = s.params := (touches_decisionPass p u .params (by decide)).trans hparams
    refine ⟨u, decisionPass p u, ?exec, rfl,
      ⟨(touches_offered s _).andThen hu, hu .offered (by decide), frame_marksEvaluated, ovl_marksEvaluated⟩,
      fun l hnot => marksEvaluated_of_not_due hv hnot, fun l m hdue => ?due, fun c hc => channel_marksEvaluated_of_not_held hc,
      fun x hx => ?collisions, ⟨touches_decisionPass p u, hpass.marks⟩, ?ended, fun l => ?lane, hpass.channel,
      fun k l b b' c => hpass.order⟩
    case exec =>
      show live marksTakeAdvance s = _
      rw [live_of_released hreset, marksTakeAdvance_of_offered ha hmarks]
    case due =>
      intro x y
      obtain ⟨b, hb⟩ := markLane_marksEvaluated_of_due hv hdue
      have hy : y = x.evaluated m p b := hb
      refine ⟨?setup, fun k hk => ?begins, fun hnone => ?goesOn, marksEvaluated_of_rest hv hdue, marksEvaluated_of_bid hv hdue,
        fun hopen hp => ?dropped, fun c hc => ?holds⟩
      case setup =>
        rw [hy]
        exact ⟨hdue.1, rfl, rfl⟩
      case begins =>
        rw [hy]
        exact pipAt_of_begins x hk
      case goesOn =>
        have hpip : y.pip = x.pip.bind fun k => if p + k * m.spacing = m.markRef + m.pipLength then none else some k := by
          rw [hy]
          exact pipAt_of_none hnone
        refine ⟨fun hsilent => ?_, fun k hk => ?_⟩
        · rw [hpip, hsilent, Option.bind_none]
        · rw [hpip, hk, Option.bind_some]
      case dropped =>
        obtain ⟨hbid, hlane⟩ := marksEvaluated_of_dropped hv hdue hopen hp
        refine ⟨hbid, hlane.trans ?_⟩
        rw [lane_addMarkFlag_same]
        rfl
      case holds =>
        have hshown := marksEvaluated_of_shown hv hdue hc
        have hspent := marksEvaluated_of_spent hv hdue hc
        refine ⟨?_, fun hp => (hshown hp).2, fun hp => (hspent hp).2⟩
        rcases Nat.lt_or_ge p (m.markRef + m.flash) with hp | hp
        · exact (hshown hp).1
        · exact (hspent hp).1
    case collisions =>
      intro begins sounds n
      have hbegins : begins = fun l => s.marksTook.pipBegins p x l := by
        funext l
        simp only [begins, State.pipBegins, isSome_pipBeginning]
        rfl
      have hsounds : sounds = fun l => u.pipOn x l := by
        funext l
        simp only [sounds, State.pipOn]
        cases (u.markLane l).setup with
        | none => exact (Bool.and_false _).symm
        | some m => exact Bool.and_comm _ _
      simp only [n, hbegins, hsounds]
      exact collisions_marksEvaluated hv x hx
    case ended =>
      refine hpass.ended.imp freeChannel_eq_none_iff.mp fun hnone => ?_
      rw [← htparams]
      exact bestBid_eq_none_iff.mp hnone
    case lane =>
      refine (hpass.lane l).imp id ?_
      rintro ⟨b, m, c, hb, hlow, hm, hheld, hfree, hchannel, hlane⟩
      rw [hparams] at hlow
      refine ⟨b, m, c, hb, hlow, hm, hheld, hfree, hchannel, fun hearly => ?_, fun hlate => ?_⟩
      · rwa [if_neg (by simpa [MarkSetup.late] using hearly)] at hlane
      · rwa [if_pos (by simpa [MarkSetup.late] using hlate), ← lane_addMarkFlag_same] at hlane

end Sys2Proof.Machine
end

section
/-! ## What the punch invariant reads, lane by lane, and what leaves it alone

The invariant of R123 and R180 reads of the state the priority queues, the punch states, and whether a take of the lane has begun
and goes on. `SparesPunches ls s t` says that nothing of it is changed, but for the takes of the lanes in `ls`. -/

namespace Sys2Proof.Machine

set_option Elab.async false

/-! ### One lane's part of the invariant (R123) -/

/-- The punch notices of a lane that wait at a port. -/
def State.punchesAt (s : State) (p : PortId) (l : LaneId) : List PriorityNotice :=
  (s.port p).priority.filter (PriorityNotice.isPunch l)

/-- A take of the lane has begun and goes on (R67, R77). -/
def Lane.inTake (x : Lane) : Bool := x.mode.running && x.cycle.any fun c => c.begun

/-- The punch notices of a lane at a port agree with its punch state: at most one, a PUNCH IN only of a take QUEUED there, none of
one RECORDING there. -/
structure PunchMode.Fits (m : PunchMode) (l : LaneId) (p : PortId) (ns : List PriorityNotice) : Prop where
  single : ns.length ≤ 1
  queued : (∃ n ∈ ns, n.isPunchIn l = true) → m = .queued p
  recording : ∀ n : Nat, m = .recording p n → ns = []

/-- A lane's part of the invariant. -/
structure State.punchFits (s : State) (l : LaneId) : Prop where
  notices : ∀ p : PortId, (s.punchOf l).mode.Fits l p (s.punchesAt p l)
  take : (s.punchOf l).mode ≠ .idle → (s.lane l).inTake = true

/-- At most one transport notice waits at a port (R180). -/
def State.transportsFit (s : State) : Prop := ∀ p : PortId, (s.port p).priority.countP PriorityNotice.isTransport ≤ 1

theorem inTake_iff (s : State) (l : LaneId) :
    (s.lane l).inTake = true ↔ (s.lane l).mode.running = true ∧ s.takeBegun l = true := by
  unfold Lane.inTake State.takeBegun
  rw [Bool.and_eq_true]
  cases (s.lane l).cycle <;> simp

theorem isPunch_of_isPunchIn {l : LaneId} {n : PriorityNotice} (h : n.isPunchIn l = true) : n.isPunch l = true := by
  rw [PriorityNotice.isPunch, h, Bool.true_or]

theorem any_isPunchIn_iff (s : State) (p : PortId) (l : LaneId) :
    (s.port p).priority.any (PriorityNotice.isPunchIn l) = true ↔ ∃ n ∈ s.punchesAt p l, n.isPunchIn l = true := by
  simp only [State.punchesAt, List.any_eq_true, List.mem_filter]
  exact exists_congr fun n => ⟨fun ⟨hn, hin⟩ => ⟨⟨hn, isPunch_of_isPunchIn hin⟩, hin⟩, fun ⟨⟨hn, _⟩, hin⟩ => ⟨hn, hin⟩⟩

theorem any_isPunch_eq_false_iff (s : State) (p : PortId) (l : LaneId) :
    (s.port p).priority.any (PriorityNotice.isPunch l) = false ↔ s.punchesAt p l = [] := by
  simp [State.punchesAt, List.filter_eq_nil_iff]

/-- The invariant, lane by lane. -/
theorem punchInv_iff (s : State) : s.punchInv ↔ s.transportsFit ∧ ∀ l : LaneId, s.punchFits l := by
  unfold State.punchInv State.transportsFit
  simp only [any_isPunchIn_iff, any_isPunch_eq_false_iff, ← inTake_iff,
    List.countP_eq_length_filter (p := PriorityNotice.isPunch _)]
  constructor
  · rintro ⟨htransport, hsingle, hqueued, hrecording, htake⟩
    exact ⟨htransport, fun l => ⟨fun p => ⟨hsingle p l, hqueued p l, hrecording p l⟩, htake l⟩⟩
  · rintro ⟨htransport, hlane⟩
    exact ⟨htransport, fun p l => ((hlane l).notices p).single, fun p l => ((hlane l).notices p).queued,
      fun p l => ((hlane l).notices p).recording, fun l => (hlane l).take⟩

theorem State.punchInv.fits {s : State} (h : s.punchInv) (l : LaneId) : s.punchFits l := ((punchInv_iff s).mp h).2 l

theorem State.punchInv.transports {s : State} (h : s.punchInv) : s.transportsFit := ((punchInv_iff s).mp h).1

/-- Where no take goes on the punch state is IDLE. -/
theorem State.punchInv.idle {s : State} (h : s.punchInv) {l : LaneId} (hl : (s.lane l).inTake = false) :
    (s.punchOf l).mode = .idle := by
  by_contra hmode
  exact absurd ((h.fits l).take hmode) (by simp [hl])

/-- A change of the cycle record that keeps whether the take has begun. -/
theorem inTake_map {x : Lane} {f : CycleRecord → CycleRecord} (hf : ∀ c, (f c).begun = c.begun) :
    ({ x with cycle := x.cycle.map f } : Lane).inTake = x.inTake := by
  simp only [Lane.inTake, Option.any_map, hf]

theorem inTake_of_not_running {x : Lane} (h : x.mode.running = false) : x.inTake = false := by simp [Lane.inTake, h]

/-- Fewer notices fit as well. -/
theorem PunchMode.Fits.sublist {m : PunchMode} {l : LaneId} {p : PortId} {ns ms : List PriorityNotice} (h : m.Fits l p ns)
    (hs : ms.Sublist ns) : m.Fits l p ms where
  single := hs.length_le.trans h.single
  queued := fun ⟨n, hn, hin⟩ => h.queued ⟨n, hs.subset hn, hin⟩
  recording n hm := List.sublist_nil.mp (h.recording n hm ▸ hs)

/-- A lane whose notices are PUNCH OUTs, at most one at each port, fits every punch state that is not RECORDING. -/
theorem PunchMode.Fits.of_outs {m : PunchMode} {l : LaneId} {p : PortId} {ns : List PriorityNotice} (hsingle : ns.length ≤ 1)
    (hout : ∀ n ∈ ns, n.isPunchIn l = false) (hm : ∀ n : Nat, m ≠ .recording p n) : m.Fits l p ns where
  single := hsingle
  queued := fun ⟨n, hn, hin⟩ => absurd hin (by simp [hout n hn])
  recording n h := absurd h (hm n)

/-- At a port on which no take of the lane is QUEUED only its PUNCH OUT can wait. -/
theorem PunchMode.Fits.outs {m : PunchMode} {l : LaneId} {p : PortId} {ns : List PriorityNotice} (h : m.Fits l p ns)
    (hm : m ≠ .queued p) : ∀ n ∈ ns, n.isPunchIn l = false := fun n hn => by
  by_contra hin
  exact hm (h.queued ⟨n, hn, by simpa using hin⟩)

/-! ### What leaves the invariant alone -/

/-- Nothing that the invariant reads is changed, but for the takes of some lanes; a take may also begin. -/
structure SparesPunches (ls : List LaneId) (s t : State) : Prop where
  transports : s.transportsFit → t.transportsFit
  notices : ∀ (p : PortId) (l : LaneId), t.punchesAt p l = s.punchesAt p l
  mode : ∀ l : LaneId, (t.punchOf l).mode = (s.punchOf l).mode
  take : ∀ l : LaneId, l ∉ ls → (s.lane l).inTake = true → (t.lane l).inTake = true

section
variable {ls : List LaneId} {s t u : State}

theorem SparesPunches.refl (ls : List LaneId) (s : State) : SparesPunches ls s s :=
  ⟨id, fun _ _ => rfl, fun _ => rfl, fun _ _ h => h⟩

theorem SparesPunches.trans (h : SparesPunches ls s t) (h' : SparesPunches ls t u) : SparesPunches ls s u :=
  ⟨fun hs => h'.transports (h.transports hs), fun p l => (h'.notices p l).trans (h.notices p l),
    fun l => (h'.mode l).trans (h.mode l), fun l hl hs => h'.take l hl (h.take l hl hs)⟩

theorem SparesPunches.mono {ks : List LaneId} (h : SparesPunches ks s t) (hs : ∀ k ∈ ks, k ∈ ls) : SparesPunches ls s t :=
  ⟨h.transports, h.notices, h.mode, fun l hl => h.take l fun hk => hl (hs l hk)⟩

/-- What spares every lane spares all but some. -/
theorem SparesPunches.but (h : SparesPunches [] s t) (ls : List LaneId) : SparesPunches ls s t :=
  h.mono fun _ hk => absurd hk List.not_mem_nil

theorem SparesPunches.ite {c : Prop} [Decidable c] (ht : SparesPunches ls s t) (hu : SparesPunches ls s u) :
    SparesPunches ls s (if c then t else u) := by
  split
  · exact ht
  · exact hu

theorem SparesPunches.foldl {α : Type} {f : State → α → State} (h : ∀ s x, SparesPunches ls s (f s x)) :
    ∀ (xs : List α) (s : State), SparesPunches ls s (xs.foldl f s)
  | [], s => .refl ls s
  | x :: xs, s => (h s x).trans (SparesPunches.foldl h xs (f s x))

/-- The invariant holds after what spares every lane but those whose punch state is IDLE. -/
theorem SparesPunches.punchInv_of_idle (h : SparesPunches ls s t) (hs : s.punchInv)
    (hidle : ∀ l ∈ ls, (s.punchOf l).mode = .idle) : t.punchInv := by
  refine (punchInv_iff t).mpr ⟨h.transports hs.transports, fun l => ⟨fun p => ?_, fun hmode => ?_⟩⟩
  · rw [h.mode, h.notices]
    exact (hs.fits l).notices p
  · rw [h.mode] at hmode
    exact h.take l (fun hl => hmode (hidle l hl)) ((hs.fits l).take hmode)

theorem SparesPunches.punchInv (h : SparesPunches [] s t) (hs : s.punchInv) : t.punchInv :=
  h.punchInv_of_idle hs fun _ hl => absurd hl List.not_mem_nil

end

/-- An operation that leaves the ports, the punch records and the lanes. -/
theorem SparesPunches.of_same {s t : State} (hports : t.ports = s.ports) (hpunch : t.punch = s.punch) (hlanes : t.lanes = s.lanes) :
    SparesPunches [] s t := by
  have hport (p : PortId) : t.port p = s.port p := by rw [State.port, hports, State.port]
  refine ⟨fun hs p => ?_, fun p l => ?_, fun l => ?_, fun l _ hl => ?_⟩
  · rw [hport]; exact hs p
  · rw [State.punchesAt, hport, State.punchesAt]
  · rw [State.punchOf, hpunch, State.punchOf]
  · rwa [State.lane, hlanes]

theorem SparesPunches.of_touches {xs : List Part} {s t : State} (h : TouchesOnly xs s t) (hports : Part.ports ∉ xs := by decide)
    (hpunch : Part.punch ∉ xs := by decide) (hlanes : Part.lanes ∉ xs := by decide) : SparesPunches [] s t :=
  .of_same (h .ports hports) (h .punch hpunch) (h .lanes hlanes)

/-- An operation on the ports alone that keeps the punch notices, and the one transport notice. -/
theorem SparesPunches.of_ports {s t : State} (h : TouchesOnly [.ports] s t) (htransports : s.transportsFit → t.transportsFit)
    (hnotices : ∀ (p : PortId) (l : LaneId), t.punchesAt p l = s.punchesAt p l) : SparesPunches [] s t := by
  have hpunch : t.punch = s.punch := h .punch (by decide)
  have hlanes : t.lanes = s.lanes := h .lanes (by decide)
  exact ⟨htransports, hnotices, fun l => by rw [State.punchOf, hpunch, State.punchOf], fun l _ hl => by rwa [State.lane, hlanes]⟩

/-- An operation on the ports alone that keeps the priority queues. -/
theorem SparesPunches.of_priority {s t : State} (h : TouchesOnly [.ports] s t)
    (hpriority : ∀ p : PortId, (t.port p).priority = (s.port p).priority) : SparesPunches [] s t := by
  refine .of_ports h (fun hs p => ?_) fun p l => ?_
  · rw [hpriority]; exact hs p
  · rw [State.punchesAt, hpriority, State.punchesAt]

/-- The marks change of the lanes only the flags of their cycle records. -/
theorem SparesPunches.of_flagsOnly {xs : List Part} {s t : State} (h : TouchesOnly xs s t) (hf : FlagsOnly s t)
    (hports : Part.ports ∉ xs := by decide) (hpunch : Part.punch ∉ xs := by decide) : SparesPunches [] s t := by
  have hp : t.ports = s.ports := h .ports hports
  have hu : t.punch = s.punch := h .punch hpunch
  have hsame : SparesPunches [] s { s with ports := t.ports, punch := t.punch } := .of_same hp hu rfl
  refine ⟨hsame.transports, hsame.notices, hsame.mode, fun l _ hl => ?_⟩
  obtain ⟨f, hk⟩ := hf l
  exact (congrArg Lane.inTake hk).trans ((inTake_map (f := fun c => { c with flags := f c.flags }) fun _ => rfl).trans hl)

/-! ### Writing one part -/

/-- Writing a lane spares the other ones. -/
theorem sparesPunches_setLane (s : State) (l : LaneId) (x : Lane) : SparesPunches [l] s (s.setLane l x) :=
  ⟨id, fun _ _ => rfl, fun _ => rfl, fun k hk hs => by
    rwa [State.lane_setLane_ne _ _ _ _ fun e => hk (List.mem_singleton.mpr e.symm)]⟩

/-- Writing a lane whose take goes on, if it did, spares all. -/
theorem SparesPunches.setLane {s : State} {l : LaneId} {x : Lane} (h : (s.lane l).inTake = true → x.inTake = true) :
    SparesPunches [] s (s.setLane l x) := by
  have hother := sparesPunches_setLane s l x
  refine ⟨hother.transports, hother.notices, hother.mode, fun k _ hk => ?_⟩
  by_cases hkl : l = k
  · subst hkl
    rw [State.lane_setLane_same]
    exact h hk
  · exact hother.take k (fun hm => hkl (List.mem_singleton.mp hm).symm) hk

/-- A change of a cycle record that keeps whether the take has begun. -/
theorem sparesPunches_modCycle {l : LaneId} {f : CycleRecord → CycleRecord} (hf : ∀ c, (f c).begun = c.begun) (s : State) :
    SparesPunches [] s (modCycle l f s) :=
  .setLane fun h => (inTake_map hf).trans h

/-- Writing a punch record that keeps the punch state. -/
theorem SparesPunches.setPunch {s : State} {l : LaneId} {x : PunchLane} (h : x.mode = (s.punchOf l).mode) :
    SparesPunches [] s (s.setPunch l x) := by
  refine ⟨id, fun _ _ => rfl, fun k => ?_, fun _ _ hk => hk⟩
  rw [State.punchOf_setPunch]
  split
  · next hk => rw [h, hk]
  · rfl

theorem SparesPunches.setPort {s : State} {p : PortId} {x : Port} (h : x.priority = (s.port p).priority) :
    SparesPunches [] s (s.setPort p x) := by
  refine .of_priority (touches_setPort s p x) fun q => ?_
  rw [State.port_setPort]
  split
  · next hq => rw [h, hq]
  · rfl

/-! ### Posting (R137, R180, R181) -/

theorem Port.priority_enqueue (x : Port) (n : Notice) : (x.enqueue n).priority = x.priority := by
  unfold Port.enqueue
  split <;> rfl

/-- An ordinary notice stands in no priority queue. -/
theorem sparesPunches_postWhere (pick : PortId → Port → Bool) (n : Notice) (s : State) : SparesPunches [] s (postWhere pick n s) := by
  refine .of_priority (touches_mapPorts s _) fun p => ?_
  rw [postWhere, State.port_mapPorts]
  split
  · exact Port.priority_enqueue _ n
  · rfl

theorem sparesPunches_post (c : NoticeClass) (n : Notice) (s : State) : SparesPunches [] s (post c n s) :=
  sparesPunches_postWhere _ n s

theorem isPunch_of_isTransport {n : PriorityNotice} (h : n.isTransport = true) (l : LaneId) : n.isPunch l = false := by
  cases n with
  | locate | halt => rfl
  | punchIn | punchOut => cases h

/-- A transport notice that joins a queue leaves the punch notices there. -/
theorem filter_isPunch_replaceTransport {n : PriorityNotice} (hn : n.isTransport = true) (l : LaneId) (ns : List PriorityNotice) :
    (replaceTransport n ns).filter (PriorityNotice.isPunch l) = ns.filter (PriorityNotice.isPunch l) := by
  induction ns with
  | nil => simp [replaceTransport, isPunch_of_isTransport hn l]
  | cons x xs ih =>
    unfold replaceTransport
    split
    · next hx =>
      have hrest : (xs.filter fun y => !y.isTransport).filter (PriorityNotice.isPunch l) = xs.filter (PriorityNotice.isPunch l) := by
        rw [List.filter_filter]
        refine List.filter_congr fun y _ => ?_
        cases hy : y.isTransport with
        | false => simp
        | true => simp [isPunch_of_isTransport hy l]
      simp [isPunch_of_isTransport hn l, isPunch_of_isTransport hx l, hrest]
    · simp [List.filter_cons, ih]

/-- It is the one transport notice of the queue. -/
theorem countP_replaceTransport {n : PriorityNotice} (hn : n.isTransport = true) (ns : List PriorityNotice) :
    (replaceTransport n ns).countP PriorityNotice.isTransport = 1 := by
  induction ns with
  | nil => simp [replaceTransport, hn]
  | cons x xs ih =>
    unfold replaceTransport
    split
    · simp [hn, List.countP_eq_zero]
    · next hx => simp [hx, ih]

theorem sparesPunches_postTransport {n : PriorityNotice} (hn : n.isTransport = true) (p : PortId) (s : State) :
    SparesPunches [] s (postTransport p n s) := by
  refine .ite ?_ (.refl _ s)
  refine .of_ports (touches_setPort s p _) (fun hs q => ?_) fun q l => ?_
  · rw [State.port_setPort]
    split
    · exact (countP_replaceTransport hn _).le
    · exact hs q
  · rw [State.punchesAt, State.port_setPort]
    split
    · next hq => rw [← hq]; exact filter_isPunch_replaceTransport hn l _
    · rfl

end Sys2Proof.Machine
end

section
/-! ## Operations that leave alone what the punch invariant reads

One lemma for each operation that touches the ports, the punch records or the lanes without a punch notice, a change of punch state
or the end of a take. The operations that touch none of the three need no lemma of their own: `SparesPunches.of_touches`. -/

namespace Sys2Proof.Machine

set_option Elab.async false

/-! ### The grant (R28 to R36) -/

theorem sparesPunches_passGrant (s : State) : SparesPunches [] s (passGrant s) := by
  unfold passGrant
  split
  · exact .refl _ s
  · exact (SparesPunches.of_touches ((touches_grant s _).trans (touches_grant _ _))).trans (sparesPunches_postWhere _ _ _)

theorem sparesPunches_giveAtOnce (p : PortId) (s : State) : SparesPunches [] s (giveAtOnce p s) := by
  have hgiven : SparesPunches [] s (s.grantTo p) := .of_touches (touches_grant s _)
  have hpost (n : Notice) (t : State) : SparesPunches [] t (postGrantExcept p n t) := sparesPunches_postWhere _ n t
  exact hgiven.trans (hpost _ _)

theorem sparesPunches_revokeNotices (p : PortId) (cause : RevokeCause) (s : State) :
    SparesPunches [] s (revokeNotices p cause s) := by
  unfold revokeNotices
  have hrevoked := sparesPunches_postWhere (fun q x => q == p || x.subscription.grant) (.revoked p cause s.grant.changed) s
  exact .ite ((hrevoked.trans (.of_touches (touches_table _ _))).trans (sparesPunches_post _ _ _)) hrevoked

theorem sparesPunches_revoke (p : PortId) (cause : RevokeCause) (s : State) : SparesPunches [] s (revoke p cause s) := by
  rw [revoke_eq]
  exact ((sparesPunches_revokeNotices p cause s).trans (.of_touches (touches_grant _ _))).trans (sparesPunches_passGrant _)

theorem sparesPunches_releaseByHolder (p : PortId) (s : State) : SparesPunches [] s (releaseByHolder p s) := by
  have hnotices : SparesPunches [] s (releaseNotices p s) := by
    have htable : SparesPunches [] s { s with table := s.table.afterRelease s.grant.changed } := .of_touches (touches_table s _)
    exact .ite (htable.trans (sparesPunches_post _ _ _)) htable
  rw [releaseByHolder_eq]
  exact (hnotices.trans (.of_touches (touches_grant _ _))).trans (sparesPunches_passGrant _)

theorem sparesPunches_grantDetach (p : PortId) (s : State) : SparesPunches [] s (grantDetach p s) :=
  .ite (sparesPunches_revoke p _ s) (.of_touches (touches_grant s _))

theorem sparesPunches_idleExpiry (s : State) : SparesPunches [] s (idleExpiry s) := by
  unfold idleExpiry
  split
  · exact .refl _ s
  · exact .ite (sparesPunches_revoke _ _ s) (.refl _ s)

/-! ### The take journal (R150 to R156) -/

theorem sparesPunches_evictCircled (e : JournalEntry) (rest : List JournalEntry) (s : State) :
    SparesPunches [] s (evictCircled e rest s) := by
  unfold evictCircled
  refine ((SparesPunches.of_touches (touches_setEntries s rest)).trans ?_).trans (sparesPunches_post _ _ _)
  exact .ite (.of_touches (touches_setRecords _ _)) (.refl _ _)

theorem sparesPunches_journalWrite (e : JournalEntry) (s : State) : SparesPunches [] s (journalWrite e s).1 := by
  have hroom : SparesPunches [] s (makeRoom s) := by
    unfold makeRoom
    refine .ite (.refl _ s) (.ite (.of_touches (touches_setEntries s _)) ?_)
    split
    · exact .refl _ s
    · exact sparesPunches_evictCircled _ _ s
  have happend (n : Nat) : SparesPunches [] s (appendEntry n e (makeRoom s)) :=
    hroom.trans (.ite ((SparesPunches.of_touches (touches_journal _ _)).trans (sparesPunches_post _ _ _))
      (.of_touches (touches_journal _ _)))
  unfold journalWrite
  split
  · exact .refl _ s
  · split
    · exact .refl _ s
    · exact happend _

theorem sparesPunches_circle (e : JournalEntry) (x : CircleSource) (s : State) : SparesPunches [] s (circle e x s) :=
  (SparesPunches.of_touches ((touches_setEntries s _).andThen (touches_setRecords _ _) (zs := [.table, .journal]))).trans
    (sparesPunches_post _ _ _)

theorem sparesPunches_uncircle (e : JournalEntry) (x : CircleSource) (s : State) : SparesPunches [] s (uncircle e x s) :=
  (SparesPunches.of_touches ((touches_setEntries s _).andThen (touches_setRecords _ _) (zs := [.table, .journal]))).trans
    (sparesPunches_post _ _ _)

theorem sparesPunches_circleLast (l : LaneId) (i : LineId) (s : State) : SparesPunches [] s (circleLast l i s) := by
  unfold circleLast
  split
  · exact .refl _ s
  · exact sparesPunches_circle _ _ s

/-! ### The Loop Controller (R136 to R148) -/

theorem sparesPunches_loopChange (g : GroupId) (m : LoopMode) (c : LoopCause) (s : State) :
    SparesPunches [] s (loopChange g m c s) :=
  (SparesPunches.of_touches ((touches_setGroup s g _).trans (touches_loop _ _))).trans (sparesPunches_post _ _ _)

theorem sparesPunches_postToTransport {n : PriorityNotice} (hn : n.isTransport = true) (g : GroupId) (s : State) :
    SparesPunches [] s (postToTransport g n s) := by
  unfold postToTransport
  split
  · exact .refl _ s
  · exact sparesPunches_postTransport hn _ s

theorem sparesPunches_loopHalt (g : GroupId) (m : LoopMode) (c : LoopCause) (s : State) : SparesPunches [] s (loopHalt g m c s) :=
  (sparesPunches_postToTransport rfl g s).trans (sparesPunches_loopChange g m c _)

theorem sparesPunches_loopLocate (g : GroupId) (c : LoopCause) (sp : LoopSpan) (s : State) :
    SparesPunches [] s (loopLocate g c sp s) :=
  (SparesPunches.of_touches (touches_setGroup s g _)).trans ((sparesPunches_postToTransport rfl g _).trans
    ((SparesPunches.of_touches (touches_loop _ _)).trans (sparesPunches_post _ _ _)))

theorem sparesPunches_passEnd (g : GroupId) (s : State) : SparesPunches [] s (passEnd g s) := by
  unfold passEnd
  dsimp only
  generalize ht : s.setGroup g _ = t
  have hst : SparesPunches [] s t := ht ▸ .of_touches (touches_setGroup s g _)
  refine hst.trans (.ite (sparesPunches_loopHalt g _ _ _) ?_)
  split
  · exact sparesPunches_loopHalt g _ _ _
  · exact .ite (sparesPunches_loopLocate g _ _ _) (sparesPunches_loopHalt g _ _ _)

theorem sparesPunches_afterRelease (n : Nat) (s : State) : SparesPunches [] s (afterRelease n s) := by
  unfold afterRelease
  split
  · exact .refl _ s
  · exact .ite (sparesPunches_passEnd _ s) (.refl _ s)

theorem sparesPunches_loopTakeLock (q : Position) (s : State) : SparesPunches [] s (loopTakeLock q s) := by
  unfold loopTakeLock
  split
  · exact .refl _ s
  · exact .ite (sparesPunches_loopChange _ _ _ s) (.refl _ s)

theorem sparesPunches_loopTakeFrame (p : Nat) (s : State) : SparesPunches [] s (loopTakeFrame p s) := by
  unfold loopTakeFrame
  split
  · exact .refl _ s
  · exact .ite (.ite (sparesPunches_loopChange _ _ _ s) (sparesPunches_passEnd _ s)) (.refl _ s)

theorem sparesPunches_loopTakeAdvance (a : Advance) (s : State) : SparesPunches [] s (loopTakeAdvance a s) := by
  unfold loopTakeAdvance
  refine SparesPunches.trans ?_ (sparesPunches_loopTakeFrame a.frame _)
  split
  · exact .refl _ s
  · exact sparesPunches_loopTakeLock _ s

theorem sparesPunches_loopTakeLost (s : State) : SparesPunches [] s (loopTakeLost s) := by
  unfold loopTakeLost
  split
  · exact .refl _ s
  · split
    · exact sparesPunches_loopHalt _ _ _ s
    · exact sparesPunches_passEnd _ s
    all_goals exact .refl _ s

theorem sparesPunches_loopStopActive (c : LoopCause) (s : State) : SparesPunches [] s (loopStopActive c s) := by
  unfold loopStopActive
  split
  · exact .refl _ s
  · exact sparesPunches_loopHalt _ _ _ s

theorem sparesPunches_loopDetach (p : PortId) (s : State) : SparesPunches [] s (loopDetach p s) := by
  unfold loopDetach
  split
  · exact .refl _ s
  · exact .ite (sparesPunches_loopChange _ _ _ s) (.refl _ s)

theorem sparesPunches_locateExpiry (s : State) : SparesPunches [] s (locateExpiry s) := by
  unfold locateExpiry
  split
  · exact .refl _ s
  · exact .ite (sparesPunches_loopHalt _ _ _ s) (.refl _ s)

theorem sparesPunches_startLoop (o : LoopOrder) (s : State) : SparesPunches [] s (startLoop o s).1 := by
  unfold startLoop
  split
  · exact .refl _ s
  · split
    · exact .refl _ s
    · split
      · exact .refl _ s
      · split
        · exact (SparesPunches.of_touches (touches_setGroup s _ _)).trans (sparesPunches_loopLocate _ _ _ _)
        · exact .refl _ s

/-! ### The tracker's events at the Loop Controller and the Mark Generator (R96 to R98, R138, R140, R141) -/

theorem sparesPunches_loopTakesAdvance (s : State) : SparesPunches [] s (loopTakesAdvance s) := by
  unfold loopTakesAdvance
  split
  · exact .refl _ s
  · exact .ite ((SparesPunches.of_touches (touches_offered s _)).trans (sparesPunches_loopTakeAdvance _ _)) (.refl _ s)

theorem sparesPunches_loopTakesRelock (s : State) : SparesPunches [] s (loopTakesRelock s) := by
  unfold loopTakesRelock
  split
  · exact .ite ((SparesPunches.of_touches (touches_offered s _)).trans (sparesPunches_loopTakeLock _ _)) (.refl _ s)
  all_goals exact .refl _ s

theorem sparesPunches_loopTakesLock (s : State) : SparesPunches [] s (loopTakesLock s) :=
  .ite ((sparesPunches_loopTakesRelock s).trans (sparesPunches_loopTakesAdvance _)) (.refl _ s)

theorem sparesPunches_loopTakesLost (s : State) : SparesPunches [] s (loopTakesLost s) :=
  .ite ((SparesPunches.of_touches (touches_offered s _)).trans (sparesPunches_loopTakeLost _)) (.refl _ s)

theorem sparesPunches_runHandoffs (s : State) : SparesPunches [] s (runHandoffs s) :=
  .of_flagsOnly (touches_runHandoffs s)
    (FlagsOnly.foldl (fun t h => (FlagsOnly.of_lanes (t := { t with handoffs := t.handoffs.tail }) rfl).trans
      (flagsOnly_runHandoff _ h)) _ s)

theorem sparesPunches_marksTakeAdvance (s : State) : SparesPunches [] s (marksTakeAdvance s) := by
  unfold marksTakeAdvance
  split
  · exact .refl _ s
  · exact .ite ((SparesPunches.of_touches (touches_offered s _)).trans
      (.of_flagsOnly (touches_marksAdvance _ _) (flagsOnly_marksAdvance _ _))) (.refl _ s)

theorem sparesPunches_takeStartHandoff (l : LaneId) (s : State) : SparesPunches [] s (takeStartHandoff l s) :=
  .of_flagsOnly (touches_takeStartHandoff l s) (flagsOnly_takeStartHandoff l s)

theorem sparesPunches_takeEndHandoff (l : LaneId) (s : State) : SparesPunches [] s (takeEndHandoff l s) :=
  .of_flagsOnly (touches_takeEndHandoff l s) (flagsOnly_takeEndHandoff l s)

theorem sparesPunches_endMarks (l : LaneId) (told : Bool) (s : State) : SparesPunches [] s (endMarks l told s) :=
  .of_flagsOnly (touches_endMarks l told s) (flagsOnly_endMarks l told s)

/-! ### Input lines and the lanes' settings (R66, R71, R163 to R165) -/

theorem sparesPunches_activate (i : LineId) (x : InputLine) (s : State) : SparesPunches [] s (activate i x s) := by
  unfold activate
  split
  · exact .refl _ s
  · split
    · exact .setLane id
    · exact .refl _ s
  · split
    · exact .of_touches (touches_lines s _)
    · exact .refl _ s
  · exact sparesPunches_circleLast _ i s
  · exact sparesPunches_loopStopActive _ s

theorem sparesPunches_acceptChange (i : LineId) (s : State) : SparesPunches [] s (acceptChange i s) := by
  unfold acceptChange
  dsimp only
  generalize ht : s.setInput i _ = t
  have hst : SparesPunches [] s t := ht ▸ .of_touches (touches_setInput s i _)
  exact (hst.trans (.ite (sparesPunches_activate i _ t) (.refl _ t))).trans (sparesPunches_post _ _ _)

theorem sparesPunches_sampleInput (i : LineId) (v : Level) (s : State) : SparesPunches [] s (sampleInput i v s) :=
  .ite (.of_touches (touches_setInput s i _)) (.ite (.of_touches (touches_setInput s i _)) (sparesPunches_acceptChange i s))

theorem sparesPunches_writeRouting (l : LaneId) (x : Routing) (s : State) : SparesPunches [] s (writeRouting l x s) := by
  have hset : SparesPunches [] s (s.setLane l { s.lane l with routing := x }) := .setLane id
  exact .ite hset (hset.trans (.setPunch rfl))

theorem sparesPunches_clearReady (s : State) (l : LaneId) : SparesPunches [] s (clearReady s l) := .setPunch rfl

theorem sparesPunches_clearReadyOf (p : PortId) (s : State) : SparesPunches [] s (clearReadyOf p s) :=
  SparesPunches.foldl (fun t l => .ite (sparesPunches_clearReady t l) (.refl _ t)) allLanes s

/-! ### The lanes' claims: the pin, the cycle record and the state of one lane (R19 to R22, R72 to R74) -/

theorem sparesPunches_releaseClaim (l : LaneId) (s : State) : SparesPunches [l] s (releaseClaim l s) := by
  unfold releaseClaim
  split
  · exact .refl _ s
  · exact (sparesPunches_setLane s l _).trans ((sparesPunches_afterRelease _ _).but _)

theorem sparesPunches_takeEndClaim (l : LaneId) (s : State) : SparesPunches [l] s (takeEndClaim l s) := by
  unfold takeEndClaim
  split
  · exact .refl _ s
  · exact (((SparesPunches.of_touches (touches_setRecords s _)).but _).trans (sparesPunches_setLane _ l _)).trans
      ((sparesPunches_afterRelease _ _).but _)

theorem sparesPunches_armingAttempt (l : LaneId) (r p : Nat) (s : State) : SparesPunches [l] s (armingAttempt l r p s) := by
  unfold armingAttempt
  refine .ite ?_ (.refl _ s)
  split
  · exact .refl _ s
  · exact (sparesPunches_setLane s l _).trans ((sparesPunches_post _ _ _).but _)

theorem sparesPunches_letGo (l : LaneId) (m : LaneMode) (s : State) : SparesPunches [l] s (letGo l m s) :=
  (sparesPunches_releaseClaim l s).trans (sparesPunches_setLane _ l _)

theorem sparesPunches_switchCue (l : LaneId) (n : Nat) (c : CueRecord) (p : Nat) (s : State) :
    SparesPunches [l] s (switchCue l n c p s) :=
  ((sparesPunches_setLane s l _).trans ((sparesPunches_afterRelease n _).but _)).trans
    ((sparesPunches_setLane _ l _).trans ((sparesPunches_post _ _ _).but _))

theorem sparesPunches_rearm (l : LaneId) (r p : Nat) (s : State) : SparesPunches [l] s (rearm l r p s) := by
  unfold rearm
  split
  · exact .refl _ s
  · split
    · exact sparesPunches_letGo l _ s
    · exact .ite (.refl _ s) (sparesPunches_switchCue l _ _ p s)

theorem sparesPunches_falseStart (l : LaneId) (s : State) : SparesPunches [l] s (falseStart l s) :=
  (((SparesPunches.of_touches (touches_handOff s _)).but _).trans (sparesPunches_releaseClaim l _)).trans
    (sparesPunches_setLane _ l _)

/-- What follows the Punch Unit's part of a cycle's end (R89, steps 3 to 8). -/
theorem sparesPunches_finishCycle (l : LaneId) (e : CycleStop) (x : PunchEnd) (q : Option Position) (c : CycleRecord) (s : State) :
    SparesPunches [l] s (finishCycle l e x q c s) := by
  have hclaim : SparesPunches [l] s (takeEndClaim l (journalWrite (c.entry l e x) s).1) :=
    ((sparesPunches_journalWrite _ s).but _).trans (sparesPunches_takeEndClaim l _)
  have hended := fun y n z => ((hclaim.trans (sparesPunches_setLane _ l y)).trans ((sparesPunches_post .lane n _).but _)).trans
    (sparesPunches_setLane _ l z)
  unfold finishCycle
  dsimp only
  split
  · exact hended _ _ _
  · exact (hended _ _ _).trans (.ite (sparesPunches_armingAttempt l _ _ _) (.refl _ _))

/-! ### The ports' own commands (R174 to R183) -/

theorem Port.priority_join (x : Port) (i : RxItem) : (x.join i).priority = x.priority := by
  unfold Port.join
  split <;> rfl

theorem Port.priority_failFrame (x : Port) (f : FrameFailure) : (x.failFrame f).priority = x.priority := by
  rw [Port.failFrame, Port.priority_join]

theorem Port.priority_frameByte (x : Port) (bytes : List Byte) : (x.frameByte bytes).priority = x.priority := by
  unfold Port.frameByte
  dsimp only
  split
  · exact Port.priority_failFrame x _
  · split
    · rfl
    · unfold Port.finishFrame
      split
      · rw [Port.priority_join]
      · exact Port.priority_failFrame x _

theorem Port.priority_hear (x : Port) (c : RxChar) : (x.hear c).priority = x.priority := by
  unfold Port.hear
  split
  · split
    · split <;> rfl
    · split
      · exact Port.priority_frameByte x _
      · exact Port.priority_failFrame x _
  · rfl

theorem Port.priority_hears (cs : List RxChar) (x : Port) : (cs.foldl Port.hear x).priority = x.priority := by
  induction cs generalizing x with
  | nil => rfl
  | cons c cs ih => rw [List.foldl_cons, ih, Port.priority_hear]

theorem Port.priority_silence (x : Port) : x.silence.priority = x.priority := by
  unfold Port.silence
  split
  · rfl
  · split
    · exact Port.priority_failFrame x _
    · rfl

theorem Port.priority_configured (x : Port) (own : Bool) (y : PortSettings) : (x.configured own y).priority = x.priority := by
  unfold Port.configured
  dsimp only
  split
  · rfl
  · rw [takeRate_eq]

theorem sparesPunches_writeSettings (p q : PortId) (y : PortSettings) (s : State) : SparesPunches [] s (writeSettings p q y s) := by
  have hset : SparesPunches [] s (s.setPort q ((s.port q).configured (p = q) y)) := .setPort (Port.priority_configured _ _ y)
  rw [writeSettings_eq]
  exact .ite (hset.trans (sparesPunches_clearReadyOf q _)) hset

theorem sparesPunches_dropItem (p : PortId) (s : State) : SparesPunches [] s (s.dropItem p) := .setPort rfl

theorem sparesPunches_placeAnswer (p : PortId) (a : Answer) (s : State) : SparesPunches [] s (s.placeAnswer p a) := .setPort rfl

theorem sparesPunches_takeFrameError (p : PortId) (s : State) : SparesPunches [] s (takeFrameError p s) := by
  unfold takeFrameError
  split
  · exact .refl _ s
  · exact .ite ((sparesPunches_dropItem p s).trans (sparesPunches_placeAnswer p _ _)) (.refl _ s)

theorem sparesPunches_takeUnknown (p : PortId) (kind : Byte) (body : List Byte) (s : State) :
    SparesPunches [] s (takeUnknown p kind body s) :=
  .ite (((sparesPunches_dropItem p s).trans (sparesPunches_placeAnswer p _ _)).trans (.of_touches (touches_restartIdle p _)))
    (.refl _ s)

theorem sparesPunches_transmitEnd (p : PortId) (s : State) : SparesPunches [] s (transmitEnd p s) := by
  unfold transmitEnd
  dsimp only
  split
  · exact .refl _ s
  · exact .setPort rfl

theorem sparesPunches_attachPort (p : PortId) (s : State) : SparesPunches [] s (attachPort p s) := by
  unfold attachPort
  split
  · exact .refl _ s
  · refine SparesPunches.trans (.setPort ?_) (.of_touches (touches_setLink _ p _))
    rfl

end Sys2Proof.Machine
end

section
/-! ## The Punch Unit keeps the punch invariant (R116 to R129)

Each of its operations works on one lane: it writes that lane's punch state and moves that lane's punch notices (`PunchLocal`), so
what is to be shown is that lane's part of the invariant. -/

namespace Sys2Proof.Machine

set_option Elab.async false

/-! ### Operations on one lane's punch notices and state -/

/-- What the invariant reads of the other lanes is as before. -/
structure PunchLocal (l : LaneId) (s t : State) : Prop where
  transports : s.transportsFit → t.transportsFit
  notices : ∀ (p : PortId) (k : LaneId), l ≠ k → t.punchesAt p k = s.punchesAt p k
  mode : ∀ k : LaneId, l ≠ k → (t.punchOf k).mode = (s.punchOf k).mode
  take : ∀ k : LaneId, l ≠ k → (s.lane k).inTake = true → (t.lane k).inTake = true

section
variable {l : LaneId} {s t u : State}

theorem PunchLocal.trans (h : PunchLocal l s t) (h' : PunchLocal l t u) : PunchLocal l s u :=
  ⟨fun hs => h'.transports (h.transports hs), fun p k hk => (h'.notices p k hk).trans (h.notices p k hk),
    fun k hk => (h'.mode k hk).trans (h.mode k hk), fun k hk hs => h'.take k hk (h.take k hk hs)⟩

theorem SparesPunches.punchLocal (h : SparesPunches [] s t) (l : LaneId) : PunchLocal l s t :=
  ⟨h.transports, fun p k _ => h.notices p k, fun k _ => h.mode k, fun k _ => h.take k List.not_mem_nil⟩

/-- The invariant holds after such an operation when the lane's part does. -/
theorem PunchLocal.punchInv (h : PunchLocal l s t) (hs : s.punchInv) (hl : t.punchFits l) : t.punchInv := by
  refine (punchInv_iff t).mpr ⟨h.transports hs.transports, fun k => ?_⟩
  by_cases hk : l = k
  · exact hk ▸ hl
  · refine ⟨fun p => ?_, fun hmode => ?_⟩
    · rw [h.mode k hk, h.notices p k hk]
      exact (hs.fits k).notices p
    · rw [h.mode k hk] at hmode
      exact h.take k hk ((hs.fits k).take hmode)

end

theorem punchesAt_setPunch (s : State) (l : LaneId) (x : PunchLane) (p : PortId) (k : LaneId) :
    (s.setPunch l x).punchesAt p k = s.punchesAt p k := rfl

theorem punchLocal_setPunch (s : State) (l : LaneId) (x : PunchLane) : PunchLocal l s (s.setPunch l x) :=
  ⟨id, fun _ _ _ => rfl, fun k hk => by rw [State.punchOf_setPunch_ne _ _ _ _ hk], fun _ _ h => h⟩

theorem eq_of_isPunch {k l : LaneId} {n : PriorityNotice} (hk : n.isPunch k = true) (hl : n.isPunch l = true) : k = l := by
  cases n with
  | locate | halt => cases hk
  | punchIn | punchOut =>
    simp only [PriorityNotice.isPunch, PriorityNotice.isPunchIn, PriorityNotice.isPunchOut, Bool.or_false, Bool.false_or,
      beq_iff_eq] at hk hl
    rw [← hk, ← hl]

theorem isTransport_of_isPunch {l : LaneId} {n : PriorityNotice} (h : n.isPunch l = true) : n.isTransport = false := by
  by_contra ht
  rw [isPunch_of_isTransport (by simpa using ht) l] at h
  cases h

theorem punchesAt_postPunch (q : PortId) (n : PriorityNotice) (s : State) (p : PortId) (k : LaneId) :
    (postPunch q n s).punchesAt p k =
      if p = q ∧ (s.port p).attached = true ∧ n.isPunch k = true then s.punchesAt p k ++ [n] else s.punchesAt p k := by
  rw [State.punchesAt, port_postPunch]
  dsimp only
  by_cases hport : p = q ∧ (s.port p).attached = true
  · rw [if_pos hport, List.filter_append, ← State.punchesAt]
    by_cases hn : n.isPunch k = true
    · rw [if_pos ⟨hport.1, hport.2, hn⟩, List.filter_cons_of_pos hn, List.filter_nil]
    · rw [if_neg fun h => hn h.2.2, List.filter_cons_of_neg hn, List.filter_nil, List.append_nil]
  · rw [if_neg hport, if_neg fun h => hport ⟨h.1, h.2.1⟩, State.punchesAt]

/-- A punch notice of the lane is posted. -/
theorem punchLocal_postPunch {l : LaneId} {n : PriorityNotice} (hn : n.isPunch l = true) (q : PortId) (s : State) :
    PunchLocal l s (postPunch q n s) := by
  have htouch := touches_postPunch q n s
  have hpunch : (postPunch q n s).punch = s.punch := htouch .punch (by decide)
  have hlanes : (postPunch q n s).lanes = s.lanes := htouch .lanes (by decide)
  refine ⟨fun hs p => ?_, fun p k hk => ?_, fun k _ => by rw [State.punchOf, hpunch, State.punchOf],
    fun k _ h => by rwa [State.lane, hlanes]⟩
  · rw [port_postPunch]
    dsimp only
    split
    · rw [List.countP_append, List.countP_singleton, isTransport_of_isPunch hn]
      exact hs p
    · exact hs p
  · rw [punchesAt_postPunch, if_neg]
    rintro ⟨-, -, hnk⟩
    exact hk (eq_of_isPunch hn hnk)

/-! ### Which notices wait for a lane -/

/-- No punch notice of the lane waits at a port where neither a PUNCH IN nor a PUNCH OUT does. -/
theorem punchesAt_eq_nil {s : State} {p : PortId} {l : LaneId} (hin : ∀ n ∈ s.punchesAt p l, n.isPunchIn l = false)
    (hout : ∀ n ∈ (s.port p).priority, n.isPunchOut l = false) : s.punchesAt p l = [] := by
  refine List.eq_nil_iff_forall_not_mem.mpr fun n hn => ?_
  obtain ⟨hmem, hpunch⟩ := List.mem_filter.mp hn
  rw [PriorityNotice.isPunch, hin n hn, hout n hmem] at hpunch
  cases hpunch

/-- Setting a punch state that is not RECORDING, while of the lane only PUNCH OUTs wait, at most one at each port. -/
theorem punchFits_setPunch {s : State} {l : LaneId} {x : PunchLane}
    (hnotices : ∀ p : PortId, (s.punchesAt p l).length ≤ 1 ∧ ∀ n ∈ s.punchesAt p l, n.isPunchIn l = false)
    (hx : ∀ (p : PortId) (n : Nat), x.mode ≠ .recording p n) (htake : x.mode ≠ .idle → (s.lane l).inTake = true) :
    (s.setPunch l x).punchFits l := by
  refine ⟨fun p => ?_, fun hmode => ?_⟩
  · rw [State.punchOf_setPunch_same]
    exact .of_outs (hnotices p).1 (hnotices p).2 (hx p)
  · rw [State.punchOf_setPunch_same] at hmode
    exact htake hmode

/-- While no take is QUEUED only PUNCH OUTs of the lane wait. -/
theorem State.punchFits.outs {s : State} {l : LaneId} (h : s.punchFits l) (hm : ∀ p : PortId, (s.punchOf l).mode ≠ .queued p)
    (p : PortId) : (s.punchesAt p l).length ≤ 1 ∧ ∀ n ∈ s.punchesAt p l, n.isPunchIn l = false :=
  ⟨(h.notices p).single, (h.notices p).outs (hm p)⟩

/-! ### The punch-in decision (R116 to R118) -/

/-- A lane's record port (R114). -/
theorem recordPort_eq_some_iff {s : State} {l : LaneId} {p : PortId} :
    s.recordPort l = some p ↔
      (s.lane l).routing.recordPort = some p ∧ (s.port p).attached = true ∧ (s.port p).roles.record = true := by
  unfold State.recordPort
  split
  · next hnone => simp [hnone]
  · next q hq =>
    rw [hq, Option.some_inj]
    split
    · next hpresent =>
      obtain ⟨hattached, hrole⟩ := Bool.and_eq_true_iff.mp hpresent
      exact ⟨fun h => Option.some_inj.mp h ▸ ⟨rfl, hattached, hrole⟩, fun h => h.1 ▸ rfl⟩
    · next hpresent =>
      refine ⟨nofun, fun ⟨hqp, hattached, hrole⟩ => absurd ?_ hpresent⟩
      rw [hqp, hattached, hrole]
      rfl

/-- A take is QUEUED only on an attached port where no PUNCH OUT of the lane waits; otherwise it is DRY (R117). -/
theorem punchChoice_cases (s : State) (l : LaneId) :
    (∃ r : DryReason, s.punchChoice l = .dry r) ∨
      ∃ p : PortId, s.punchChoice l = .queued p ∧ (s.port p).attached = true ∧
        ∀ n ∈ (s.port p).priority, n.isPunchOut l = false := by
  unfold State.punchChoice
  split
  · exact .inl ⟨_, rfl⟩
  · next p hp =>
    split
    · exact .inl ⟨_, rfl⟩
    · split
      · exact .inl ⟨_, rfl⟩
      · split
        · exact .inl ⟨_, rfl⟩
        · next hbehind =>
          refine .inr ⟨p, rfl, ?_, fun n hn => ?_⟩
          · obtain ⟨-, hattached, -⟩ := recordPort_eq_some_iff.mp hp
            exact hattached
          · by_contra hout
            exact hbehind (List.any_eq_true.mpr ⟨n, hn, by simpa using hout⟩)

/-- The punch record of a take that begins (R116). -/
def beginning (m : PunchMode) : PunchLane := { ready := false, mode := m, tallied := false, consecutive := 0, total := 0 }

theorem punchDecision_of_dry {s : State} {l : LaneId} {r : DryReason} (c : CycleRecord) (h : s.punchChoice l = .dry r) :
    punchDecision l c s = s.setPunch l (beginning (.dry r)) := by
  simp only [punchDecision, h, beginning]

theorem punchDecision_of_queued {s : State} {l : LaneId} {p : PortId} (c : CycleRecord) (h : s.punchChoice l = .queued p) :
    punchDecision l c s = postPunch p (c.punchInNotice l) (s.setPunch l (beginning (.queued p))) := by
  simp only [punchDecision, h, beginning]

theorem isPunchIn_punchInNotice (c : CycleRecord) (l : LaneId) : (c.punchInNotice l).isPunchIn l = true := by
  simp [CycleRecord.punchInNotice, PriorityNotice.isPunchIn]

/-- The decision on a take that has begun: none was recorded before, so no PUNCH IN of the lane waits. -/
theorem punchInv_punchDecision {s : State} {l : LaneId} (c : CycleRecord) (h : s.punchInv) (hidle : (s.punchOf l).mode = .idle)
    (htake : (s.lane l).inTake = true) : (punchDecision l c s).punchInv := by
  have houts := (h.fits l).outs fun p => by rw [hidle]; exact PunchMode.noConfusion
  rcases punchChoice_cases s l with ⟨r, hdry⟩ | ⟨p, hqueued, hattached, hout⟩
  · rw [punchDecision_of_dry c hdry]
    exact (punchLocal_setPunch s l _).punchInv h (punchFits_setPunch houts (fun _ _ => PunchMode.noConfusion) fun _ => htake)
  · have hpunch := isPunch_of_isPunchIn (isPunchIn_punchInNotice c l)
    have hlocal := (punchLocal_setPunch s l (beginning (.queued p))).trans (punchLocal_postPunch hpunch p _)
    rw [punchDecision_of_queued c hqueued]
    have hmode : ((postPunch p (c.punchInNotice l) (s.setPunch l (beginning (.queued p)))).punchOf l).mode = .queued p := by
      rw [State.punchOf, touches_postPunch _ _ _ .punch (by decide)]
      exact congrArg PunchLane.mode (State.punchOf_setPunch_same s l _)
    have hlane : (postPunch p (c.punchInNotice l) (s.setPunch l (beginning (.queued p)))).lane l = s.lane l := by
      rw [State.lane, touches_postPunch _ _ _ .lanes (by decide)]
      rfl
    refine hlocal.punchInv h ⟨fun q => ?_, fun _ => hlane ▸ htake⟩
    rw [hmode, punchesAt_postPunch]
    by_cases hq : q = p
    · subst hq
      have hnil : (s.setPunch l (beginning (.queued q))).punchesAt q l = [] := punchesAt_eq_nil (s := s) (houts q).2 hout
      rw [if_pos ⟨rfl, hattached, hpunch⟩, hnil]
      exact ⟨le_rfl, fun _ => rfl, fun _ => PunchMode.noConfusion⟩
    · rw [if_neg fun hp => hq hp.1]
      exact .of_outs (houts q).1 (houts q).2 fun _ => PunchMode.noConfusion

/-! ### Tally checks (R125, R127) -/

/-- A RECORDING take becomes BROKEN once its PUNCH OUT is posted, or with nothing posted. -/
theorem punchInv_tallyFailure {s : State} {l : LaneId} {p : PortId} {n : Nat} (h : s.punchInv)
    (hmode : (s.punchOf l).mode = .recording p n) : (tallyFailure l p s).punchInv := by
  have htake : (s.lane l).inTake = true := (h.fits l).take (by rw [hmode]; exact PunchMode.noConfusion)
  have houts := (h.fits l).outs fun q => by rw [hmode]; exact PunchMode.noConfusion
  have hnil : s.punchesAt p l = [] := ((h.fits l).notices p).recording n hmode
  -- what is posted, if anything is, is one PUNCH OUT at a port where nothing of the lane waits
  have hbreaks (t : State) (ht : PunchLocal l s t) (hlanes : t.lanes = s.lanes)
      (hnotices : ∀ q : PortId, (t.punchesAt q l).length ≤ 1 ∧ ∀ n ∈ t.punchesAt q l, n.isPunchIn l = false) :
      (breakTake l p (t.setLink p .reconfirm)).punchInv := by
    have hlink : SparesPunches [] t (t.setLink p .reconfirm) := .of_touches (touches_setLink t p _)
    have hset : ((t.setLink p .reconfirm).setPunch l { (t.setLink p .reconfirm).punchOf l with mode := .broken p }).punchInv := by
      refine ((ht.trans (hlink.punchLocal l)).trans (punchLocal_setPunch _ l _)).punchInv h ?_
      refine punchFits_setPunch hnotices (fun _ _ => PunchMode.noConfusion) fun _ => ?_
      rw [State.lane, State.setLink_lanes, hlanes]
      exact htake
    exact (sparesPunches_modCycle (f := fun c => { c with broken := true }) (fun _ => rfl) _).punchInv hset
  unfold tallyFailure
  split
  · exact hbreaks s ((SparesPunches.refl [] s).punchLocal l) rfl houts
  · next c _ =>
    have hpunch : (PriorityNotice.punchOut l c.cue (c.take.getD 0) .broken c.last).isPunch l = true := by
      simp [PriorityNotice.isPunch, PriorityNotice.isPunchOut]
    refine hbreaks _ (punchLocal_postPunch hpunch p s) (touches_postPunch _ _ s .lanes (by decide)) fun q => ?_
    rw [punchesAt_postPunch]
    split
    · next hq =>
      rw [hq.1, hnil]
      exact ⟨le_rfl, fun m hm => by rw [List.mem_singleton.mp hm]; rfl⟩
    · exact houts q

/-- The punch record of a RECORDING lane after its check: the next check point, and the misses counted (R125). -/
def State.checkedPunch (s : State) (l : LaneId) (p : PortId) (frame : Nat) : PunchLane where
  ready := (s.punchOf l).ready
  mode := .recording p (nextCheckPoint (((s.lane l).cycle.bind fun c => c.begin).getD 0) s.params.tallyInterval frame)
  tallied := false
  consecutive := if (s.punchOf l).tallied then 0 else (s.punchOf l).consecutive + 1
  total := if (s.punchOf l).tallied then (s.punchOf l).total else min 255 ((s.punchOf l).total + 1)

theorem tallyCheck_eq (l : LaneId) (p : PortId) (frame : Nat) (s : State) :
    tallyCheck l p frame s =
      if s.params.missAllowance < (s.checkedPunch l p frame).consecutive then
        tallyFailure l p (s.setPunch l (s.checkedPunch l p frame))
      else s.setPunch l (s.checkedPunch l p frame) := rfl

/-- A RECORDING take stays so with another check point. -/
theorem punchInv_setPunch_recording {s : State} {l : LaneId} {p : PortId} {n m : Nat} {x : PunchLane} (h : s.punchInv)
    (hmode : (s.punchOf l).mode = .recording p n) (hx : x.mode = .recording p m) : (s.setPunch l x).punchInv := by
  refine (punchLocal_setPunch s l x).punchInv h ⟨fun q => ?_, fun _ => ?_⟩
  · rw [State.punchOf_setPunch_same, hx]
    have hfits := (h.fits l).notices q
    rw [hmode] at hfits
    refine ⟨hfits.single, fun hin => absurd (hfits.queued hin) PunchMode.noConfusion, fun k hk => ?_⟩
    obtain ⟨rfl, -⟩ := PunchMode.recording.inj hk
    exact hfits.recording n rfl
  · exact (h.fits l).take (by rw [hmode]; exact PunchMode.noConfusion)

theorem punchInv_punchLaneAdvance {s : State} (frame : Nat) (l : LaneId) (h : s.punchInv) :
    (punchLaneAdvance frame s l).punchInv := by
  unfold punchLaneAdvance
  split
  · next p n hmode =>
    split
    · have hset : (s.setPunch l (s.checkedPunch l p frame)).punchInv := punchInv_setPunch_recording h hmode rfl
      rw [tallyCheck_eq]
      split
      · exact punchInv_tallyFailure hset (congrArg PunchLane.mode (State.punchOf_setPunch_same s l _))
      · exact hset
    · exact h
  all_goals exact h

/-! ### The end of a take (R120 to R122) -/

theorem mode_punchEnd (l : LaneId) (c : CycleRecord) (r : PunchReason) (s : State) :
    ((punchEnd l c r s).punchOf l).mode = .idle := by
  rw [State.punchOf, punch_punchEnd]
  simp

theorem punchesAt_pairCancel (l : LaneId) (q : PortId) (s : State) (p : PortId) (k : LaneId) :
    (pairCancel l q s).punchesAt p k =
      if p = q then (s.punchesAt p k).filter (fun n => !n.isPunchIn l) else s.punchesAt p k := by
  rw [State.punchesAt, port_pairCancel]
  dsimp only
  split
  · rw [List.filter_comm, State.punchesAt]
  · rfl

/-- The pair cancel takes away notices of its lane alone. -/
theorem punchLocal_pairCancel (l : LaneId) (q : PortId) (s : State) : PunchLocal l s (pairCancel l q s) := by
  refine ⟨fun hs p => ?_, fun p k hk => ?_, fun _ _ => rfl, fun _ _ h => h⟩
  · rw [port_pairCancel]
    dsimp only
    split
    · exact (List.filter_sublist.countP_le).trans (hs p)
    · exact hs p
  · rw [punchesAt_pairCancel]
    split
    · refine List.filter_eq_self.mpr fun n hn => ?_
      by_contra hin
      exact hk (eq_of_isPunch (isPunch_of_isPunchIn (by simpa using hin)) (List.mem_filter.mp hn).2)
    · rfl

/-- The end of a take: the PUNCH IN that has not been sent goes, or the PUNCH OUT of a RECORDING take is posted where nothing of the
lane waits; the punch state is IDLE. -/
theorem punchInv_punchEnd {s : State} (l : LaneId) (c : CycleRecord) (r : PunchReason) (h : s.punchInv) :
    (punchEnd l c r s).punchInv := by
  have hends (t : State) (ht : PunchLocal l s t)
      (hnotices : ∀ p : PortId, (t.punchesAt p l).length ≤ 1 ∧ ∀ n ∈ t.punchesAt p l, n.isPunchIn l = false) :
      (t.setPunch l { t.punchOf l with mode := .idle }).punchInv :=
    (ht.trans (punchLocal_setPunch t l _)).punchInv h
      (punchFits_setPunch hnotices (fun _ _ => PunchMode.noConfusion) fun hne => absurd rfl hne)
  have hself := (SparesPunches.refl [] s).punchLocal l
  have houts := (h.fits l).outs
  unfold punchEnd
  dsimp only
  cases hmode : (s.punchOf l).mode with
  | idle | dry | broken => exact hends s hself (houts fun p => by rw [hmode]; exact PunchMode.noConfusion)
  | queued q =>
    refine hends _ (punchLocal_pairCancel l q s) fun p => ?_
    have hfits := (h.fits l).notices p
    rw [punchesAt_pairCancel]
    split
    · exact ⟨(List.length_filter_le _ _).trans hfits.single, fun n hn => by simpa using (List.mem_filter.mp hn).2⟩
    · next hp =>
      refine ⟨hfits.single, hfits.outs ?_⟩
      rw [hmode]
      exact fun e => hp (PunchMode.queued.inj e).symm
  | recording q n =>
    have hpunch : (PriorityNotice.punchOut l c.cue (c.take.getD 0) r c.last).isPunch l = true := by
      simp [PriorityNotice.isPunch, PriorityNotice.isPunchOut]
    refine hends _ (punchLocal_postPunch hpunch q s) fun p => ?_
    rw [punchesAt_postPunch]
    split
    · next hp =>
      rw [hp.1, ((h.fits l).notices q).recording n hmode]
      exact ⟨le_rfl, fun m hm => by rw [List.mem_singleton.mp hm]; rfl⟩
    · exact houts (fun p => by rw [hmode]; exact PunchMode.noConfusion) p

/-! ### The detach of a port (R129) -/

/-- A lane's take at the detach of a port whose queue is empty: QUEUED there becomes DRY, RECORDING there BROKEN. -/
theorem punchInv_punchDetachLane {s : State} {p : PortId} (l : LaneId) (h : s.punchInv) (hempty : s.punchesAt p l = []) :
    (punchDetachLane p s l).punchInv := by
  have hset (m : PunchMode) (houts : ∀ q : PortId, q ≠ p → (s.punchOf l).mode ≠ .queued q)
      (hm : ∀ (q : PortId) (n : Nat), m ≠ .recording q n) (hrun : (s.punchOf l).mode ≠ .idle) :
      (s.setPunch l { s.punchOf l with mode := m }).punchInv := by
    refine (punchLocal_setPunch s l _).punchInv h (punchFits_setPunch (fun q => ?_) hm fun _ => (h.fits l).take hrun)
    by_cases hq : q = p
    · rw [hq, hempty]
      exact ⟨Nat.zero_le _, fun n hn => absurd hn List.not_mem_nil⟩
    · exact ⟨((h.fits l).notices q).single, ((h.fits l).notices q).outs (houts q hq)⟩
  have hready (t : State) : SparesPunches [] t (t.setPunch l { t.punchOf l with ready := false }) := .setPunch rfl
  rw [punchDetachLane_eq]
  refine (SparesPunches.ite (hready _) (.refl _ _)).punchInv ?_
  unfold detachTake
  cases hmode : (s.punchOf l).mode with
  | idle | dry | broken => exact h
  | queued q =>
    dsimp only
    split
    · next hq =>
      subst hq
      refine hset _ (fun k hk e => hk ?_) (fun _ _ => PunchMode.noConfusion) (by rw [hmode]; exact PunchMode.noConfusion)
      exact (PunchMode.queued.inj (hmode.symm.trans e)).symm
    · exact h
  | recording q n =>
    dsimp only
    split
    · have hbroken : (s.setPunch l { s.punchOf l with mode := .broken p }).punchInv := by
        refine hset _ (fun k _ => ?_) (fun _ _ => PunchMode.noConfusion) ?_
        · rw [hmode]; exact PunchMode.noConfusion
        · rw [hmode]; exact PunchMode.noConfusion
      exact (sparesPunches_modCycle (f := fun c => { c with broken := true }) (fun _ => rfl) _).punchInv hbroken
    · exact h

theorem punchInv_punchDetach {s : State} {p : PortId} (h : s.punchInv) (hempty : ∀ l : LaneId, s.punchesAt p l = []) :
    (punchDetach p s).punchInv := by
  have hlist : ∀ (ls : List LaneId) {t : State}, t.punchInv → (∀ l : LaneId, t.punchesAt p l = []) →
      (ls.foldl (punchDetachLane p) t).punchInv := by
    intro ls
    induction ls with
    | nil => intro t ht _; exact ht
    | cons k ls ih =>
      intro t ht hnil
      refine ih (punchInv_punchDetachLane k ht (hnil k)) fun l => ?_
      rw [State.punchesAt, State.port, touches_punchDetachLane p t k .ports (by decide)]
      exact hnil l
  exact hlist allLanes h hempty

/-! ### The transmitter takes a notice (R119, R179) -/

/-- A notice that leaves a queue. -/
theorem punchInv_setPriority {s : State} {p : PortId} {x : Port} (h : s.punchInv) (hs : x.priority.Sublist (s.port p).priority) :
    (s.setPort p x).punchInv := by
  have hsub (q : PortId) : ((s.setPort p x).port q).priority.Sublist (s.port q).priority := by
    rw [State.port_setPort]
    split
    · next hq => rw [← hq]; exact hs
    · exact List.Sublist.refl _
  refine (punchInv_iff _).mpr
    ⟨fun q => ((hsub q).countP_le).trans (h.transports q), fun l => ⟨fun q => ?_, (h.fits l).take⟩⟩
  exact ((h.fits l).notices q).sublist ((hsub q).filter _)

/-- A PUNCH IN that the transmitter takes is the only punch notice of its lane at the port, where its take is QUEUED: the take may
become RECORDING there. -/
theorem punchInv_punchInTaken {s : State} {l : LaneId} (h : s.punchInv)
    (hmode : ∀ q : PortId, (s.punchOf l).mode = .queued q → s.punchesAt q l = []) : (punchInTaken l s).punchInv := by
  unfold punchInTaken
  split
  · next q c hq _ =>
    refine (punchLocal_setPunch s l _).punchInv h ⟨fun r => ?_, fun _ => ?_⟩
    · rw [State.punchOf_setPunch_same]
      have hfits := (h.fits l).notices r
      rw [hq] at hfits
      by_cases hr : q = r
      · subst hr
        rw [punchesAt_setPunch, hmode q hq]
        exact ⟨Nat.zero_le _, fun ⟨n, hn, _⟩ => absurd hn List.not_mem_nil, fun _ _ => rfl⟩
      · refine .of_outs hfits.single (hfits.outs fun e => hr (PunchMode.queued.inj e)) fun n e => hr ?_
        exact (PunchMode.recording.inj e).1
    · exact (h.fits l).take (by rw [hq]; exact PunchMode.noConfusion)
  · exact h

theorem punchInv_transmitNext {s : State} (p : PortId) (h : s.punchInv) : (transmitNext p s).punchInv := by
  unfold transmitNext
  dsimp only
  split
  · split
    · next n rest hqueue =>
      have hset := fun x => punchInv_setPriority (x := { s.port p with priority := rest, transmitting := x }) h
        (by rw [hqueue]; exact List.sublist_cons_self n rest)
      cases n with
      | punchOut | halt => exact hset _
      | locate => exact (SparesPunches.of_touches (touches_loopLocateTaken _ _)).punchInv (hset _)
      | punchIn l cue take character reel frame slate =>
        refine punchInv_punchInTaken (hset _) fun q hq => ?_
        have hfits := (h.fits l).notices p
        have hhere : s.punchesAt p l =
            .punchIn l cue take character reel frame slate :: rest.filter (PriorityNotice.isPunch l) := by
          rw [State.punchesAt, hqueue]
          simp [PriorityNotice.isPunch, PriorityNotice.isPunchIn]
        have hmode : (s.punchOf l).mode = .queued p :=
          hfits.queued ⟨_, by rw [hhere]; exact List.mem_cons_self, by simp [PriorityNotice.isPunchIn]⟩
        obtain rfl : p = q := PunchMode.queued.inj (hmode.symm.trans hq)
        have hsingle := hfits.single
        rw [hhere] at hsingle
        rw [State.punchesAt, State.port_setPort_same]
        exact List.length_eq_zero_iff.mp (by simpa using hsingle)
    · exact punchInv_setPriority h (List.Sublist.refl _)
    · exact h
  · exact h

end Sys2Proof.Machine
end

section
/-! ## Every step keeps the punch notices (O59) -/

namespace Sys2Proof.Machine

set_option Elab.async false

/-! ### The beginning of a take (R76, R77) -/

theorem inTake_of_begun {x : Lane} {c : CycleRecord} (hrun : x.mode.running = true) (hc : x.cycle = some c)
    (hbegun : c.begun = true) : x.inTake = true := by
  simp [Lane.inTake, hrun, hc, hbegun]

theorem inTake_of_not_begun {x : Lane} {c : CycleRecord} (hc : x.cycle = some c) (hbegun : c.begun = false) : x.inTake = false := by
  simp [Lane.inTake, hc, hbegun]

/-- The lane of a take that begins without a recording. -/
theorem sparesPunches_setBegun {s : State} {l : LaneId} (c : CycleRecord) (a : Advance) :
    SparesPunches [] s (s.setLane l { s.lane l with cycle := some (s.begunCycle c a) }) :=
  .setLane fun h => inTake_of_begun (Bool.and_eq_true_iff.mp h).1 rfl rfl

/-- A take begins, and with it the punch state: the cycle's take had not begun, so the lane was IDLE. -/
theorem punchInv_takeBeginTest {s : State} (l : LaneId) (a : Advance) (h : s.punchInv) (hrun : (s.lane l).mode.running = true) :
    (takeBeginTest l a s).punchInv := by
  unfold takeBeginTest
  split
  · exact h
  · next c hc =>
    split
    · next hbegins =>
      obtain ⟨-, hbegun, -⟩ := hbegins
      have hset := (sparesPunches_setBegun (l := l) c a).punchInv h
      have hlane := State.lane_setLane_same s l { s.lane l with cycle := some (s.begunCycle c a) }
      unfold takeBegin
      dsimp only
      split
      · refine punchInv_punchDecision _ hset (h.idle (inTake_of_not_begun hc hbegun)) ?_
        rw [hlane]
        exact inTake_of_begun hrun rfl rfl
      · exact hset
    · exact h

/-- Entry into TAKE begins no recorded take: that of a cue with record ON has begun in LEADIN (R77, R78). -/
theorem sparesPunches_enterTake {s : State} (l : LaneId) (c : CycleRecord) (a : Advance) :
    SparesPunches [] s (enterTake l c a s) := by
  have hmode : SparesPunches [] s (s.setLane l { s.lane l with mode := .take }) :=
    .setLane fun h => (congrArg (true && ·) (Bool.and_eq_true_iff.mp h).2 :)
  cases hrec : c.record with
  | true =>
    rw [enterTake_of_on hrec]
    exact hmode
  | false =>
    unfold enterTake
    dsimp only
    rw [if_neg (by rw [hrec]; decide), takeBegin_of_off hrec]
    exact hmode.trans (sparesPunches_setBegun c a)

/-! ### The end of a cycle (R84, R89) -/

theorem punchInv_endCycle {s : State} (l : LaneId) (e : CycleStop) (told : Bool) (q : Option Position) (h : s.punchInv) :
    (endCycle l e told q s).punchInv := by
  unfold endCycle
  split
  · exact h
  · next c _ =>
    have hmarks := sparesPunches_endMarks l told (punchEnd l c e.reason s)
    have hended := hmarks.punchInv (punchInv_punchEnd l c e.reason h)
    dsimp only
    split
    · exact hended
    · refine (sparesPunches_finishCycle l e _ q _ _).punchInv_of_idle hended fun k hk => ?_
      rw [List.mem_singleton.mp hk, hmarks.mode, mode_punchEnd]

/-- What is done on a lane with no take going on. -/
theorem SparesPunches.punchInv_of_not_inTake {l : LaneId} {s t : State} (h : SparesPunches [l] s t) (hs : s.punchInv)
    (hl : (s.lane l).inTake = false) : t.punchInv :=
  h.punchInv_of_idle hs fun k hk => by rw [List.mem_singleton.mp hk]; exact hs.idle hl

/-- What is done on a lane that is not in LEADIN, TAKE or TAIL. -/
theorem SparesPunches.punchInv_of_not_running {l : LaneId} {s t : State} {m : LaneMode} (h : SparesPunches [l] s t)
    (hs : s.punchInv) (hl : (s.lane l).mode = m) (hm : m.running = false) : t.punchInv :=
  h.punchInv_of_not_inTake hs (inTake_of_not_running (hl ▸ hm))

theorem inTake_of_takeBegun {s : State} {l : LaneId} (h : ¬s.takeBegun l = true) : (s.lane l).inTake = false :=
  Bool.eq_false_iff.mpr fun ht => h ((inTake_iff s l).mp ht).2

/-! ### A position advance (R75 to R82) -/

theorem punchInv_tailYieldTest {s : State} (l : LaneId) (a : Advance) (h : s.punchInv) : (tailYieldTest l a s).punchInv := by
  unfold tailYieldTest
  split
  · split
    · exact h
    · split
      · exact punchInv_endCycle l _ _ _ h
      · exact h
  · exact h

theorem punchInv_armedAdvance {s : State} (l : LaneId) (a : Advance) (h : s.punchInv) (hmode : (s.lane l).mode = .armed) :
    (armedAdvance l a s).punchInv := by
  have hrearm : SparesPunches [l] s (if s.table.confirmed then rearm l a.reel a.frame s else s) :=
    .ite (sparesPunches_rearm l _ _ s) (.refl _ s)
  have hkept := hrearm.punchInv_of_not_running h hmode rfl
  unfold armedAdvance
  dsimp only
  generalize (if s.table.confirmed then rearm l a.reel a.frame s else s) = t at hkept ⊢
  split
  · next c harmed _ =>
    split
    · have henter := (sparesPunches_setLane t l { t.lane l with mode := .leadin }).punchInv_of_not_running hkept harmed rfl
      unfold enterLeadin
      refine punchInv_takeBeginTest l a ((SparesPunches.of_touches (touches_handOff _ _)).punchInv henter) ?_
      rw [State.lane_handOff_other, State.lane_setLane_same]
      rfl
    · exact hkept
  · exact hkept

theorem punchInv_leadinAdvance {s : State} (l : LaneId) (a : Advance) (h : s.punchInv) (hmode : (s.lane l).mode = .leadin) :
    (leadinAdvance l a s).punchInv := by
  have htest := punchInv_takeBeginTest l a h (hmode ▸ rfl)
  unfold leadinAdvance
  dsimp only
  split
  · exact htest
  · exact (SparesPunches.ite (sparesPunches_enterTake l _ a) (.refl _ _)).punchInv htest

theorem punchInv_takeAdvance {s : State} (l : LaneId) (a : Advance) (h : s.punchInv) : (takeAdvance l a s).punchInv := by
  unfold takeAdvance
  split
  · exact h
  · split
    · have hhand : (s.handOff (.stop l true)).punchInv := (SparesPunches.of_touches (touches_handOff s _)).punchInv h
      dsimp only
      split
      · exact punchInv_endCycle l _ _ _ hhand
      · refine punchInv_tailYieldTest l a (SparesPunches.punchInv (.setLane fun hin => ?_) hhand)
        exact (congrArg (true && ·) (Bool.and_eq_true_iff.mp hin).2 :)
    · exact h

theorem punchInv_tailAdvance {s : State} (l : LaneId) (a : Advance) (h : s.punchInv) : (tailAdvance l a s).punchInv := by
  unfold tailAdvance
  split
  · exact h
  · split
    · exact punchInv_endCycle l _ _ _ h
    · exact punchInv_tailYieldTest l a h

theorem punchInv_laneAdvance {s : State} (l : LaneId) (a : Advance) (h : s.punchInv) : (laneAdvance l a s).punchInv := by
  have htouch : (modCycle l (fun c => c.touch a) s).punchInv :=
    (sparesPunches_modCycle (f := fun c => c.touch a) (fun _ => rfl) s).punchInv h
  have hlane : ((modCycle l (fun c => c.touch a) s).lane l).mode = (s.lane l).mode := by rw [modCycle, State.lane_setLane_same]
  unfold laneAdvance
  dsimp only
  cases hmode : (s.lane l).mode with
  | off => exact h
  | standby => exact (sparesPunches_armingAttempt l _ _ s).punchInv_of_not_running h hmode rfl
  | armed => exact punchInv_armedAdvance l a htouch (hlane.trans hmode)
  | leadin => exact punchInv_leadinAdvance l a htouch (hlane.trans hmode)
  | take => exact punchInv_takeAdvance l a htouch
  | tail => exact punchInv_tailAdvance l a htouch

/-! ### Interruptions and the lanes' requests (R69, R70, R83 to R87) -/

theorem punchInv_laneLost {s : State} (l : LaneId) (h : s.punchInv) : (laneLost l s).punchInv := by
  unfold laneLost
  cases hmode : (s.lane l).mode with
  | off | standby => exact h
  | armed => exact (sparesPunches_letGo l _ s).punchInv_of_not_running h hmode rfl
  | leadin =>
    dsimp only
    split
    · exact punchInv_endCycle l _ _ _ h
    · next hbegun => exact (sparesPunches_falseStart l s).punchInv_of_not_inTake h (inTake_of_takeBegun hbegun)
  | take | tail => exact punchInv_endCycle l _ _ _ h

theorem punchInv_laneCancel {s : State} (l : LaneId) (h : s.punchInv) : (laneCancel l s).punchInv := by
  unfold laneCancel
  cases hmode : (s.lane l).mode with
  | off | standby => exact h
  | armed => exact (sparesPunches_letGo l _ s).punchInv_of_not_running h hmode rfl
  | leadin =>
    dsimp only
    split
    · exact punchInv_endCycle l _ _ _ h
    · next hbegun => exact (sparesPunches_falseStart l s).punchInv_of_not_inTake h (inTake_of_takeBegun hbegun)
  | take | tail => exact punchInv_endCycle l _ _ _ h

theorem punchInv_laneEnable {s : State} (l : LaneId) (h : s.punchInv) : (laneEnable l s).punchInv := by
  have hclosing (b : Bool) : SparesPunches [] s (s.setLane l { s.lane l with closing := b }) := .setLane id
  unfold laneEnable
  cases hmode : (s.lane l).mode with
  | off => exact (sparesPunches_setLane s l _).punchInv_of_not_running h hmode rfl
  | standby | armed => exact h
  | leadin | take | tail => exact (hclosing false).punchInv h

theorem punchInv_laneDisable {s : State} (l : LaneId) (h : s.punchInv) : (laneDisable l s).punchInv := by
  have hclosing (b : Bool) : SparesPunches [] s (s.setLane l { s.lane l with closing := b }) := .setLane id
  unfold laneDisable
  cases hmode : (s.lane l).mode with
  | off => exact h
  | standby => exact (sparesPunches_setLane s l _).punchInv_of_not_running h hmode rfl
  | armed => exact (sparesPunches_letGo l _ s).punchInv_of_not_running h hmode rfl
  | leadin | take | tail => exact (hclosing true).punchInv h

/-- An operation done for each element of a list keeps what each one keeps. -/
theorem punchInv_foldl {α : Type} {f : State → α → State} (hf : ∀ s x, s.punchInv → (f s x).punchInv) :
    ∀ (xs : List α) {s : State}, s.punchInv → (xs.foldl f s).punchInv
  | [], _, h => h
  | x :: xs, _, h => punchInv_foldl hf xs (hf _ x h)

theorem punchInv_clearStage {s : State} (h : s.punchInv) : (clearStage s).punchInv := by
  have hlatch (t : State) (l : LaneId) : SparesPunches [] t (clearLatch t l) := .setLane id
  have htallied (t : State) (l : LaneId) : SparesPunches [] t (clearTallied t l) := .setPunch rfl
  have hlinks (t : State) : SparesPunches [] t { t with links := Vector.replicate 4 .normal } := .of_same rfl rfl rfl
  have hstop : SparesPunches [] s (loopStopActive .clear { s with handoffs := [] }) :=
    (SparesPunches.of_touches (touches_handoffs s [])).trans (sparesPunches_loopStopActive _ _)
  have hcancel := punchInv_foldl (fun s l => punchInv_laneCancel l) allLanes (hstop.punchInv h)
  have hrest (t : State) : SparesPunches [] t
      (allLanes.foldl clearTallied (allLanes.foldl clearReady (clearMarks (allLanes.foldl clearLatch t)))) :=
    (SparesPunches.foldl hlatch allLanes t).trans ((SparesPunches.of_touches (touches_clearMarks _)).trans
      ((SparesPunches.foldl sparesPunches_clearReady allLanes _).trans (SparesPunches.foldl htallied allLanes _)))
  exact ((hrest _).trans (hlinks _)).punchInv hcancel

/-! ### Requests (R178) -/

theorem sparesPunches_tallyLane (p : PortId) (l : LaneId) (s : State) : SparesPunches [] s (tallyLane p l s).1 := by
  unfold tallyLane
  split
  · split
    · exact .setPunch rfl
    · exact .refl _ s
  all_goals exact .refl _ s

/-- The kinds whose blocks end or begin a lane's cycle. -/
def Request.movesLane : Request → Bool
  | .enableLane | .disableLane | .cancelLane | .clearStage => true
  | _ => false

/-- Every other kind's block leaves alone what the invariant reads. -/
theorem sparesPunches_block {k : Request} (hk : k.movesLane = false) (p : PortId) (body : List Byte) (s : State) :
    SparesPunches [] s (k.block p body s).1 := by
  have hsame : SparesPunches [] s s := .refl _ s
  cases k with
  | enableLane | disableLane | cancelLane | clearStage => cases hk
  | identify | readParameters | tableStatus | trackerStatus | readJournal | readLines => exact hsame
  | portStatus | readProfile | readLane | readLoop =>
    dsimp only [Request.block, answerPortStatus, answerReadProfile, answerReadLane, answerReadLoop]
    split <;> exact hsame
  | readCue =>
    dsimp only [Request.block, answerReadCue]
    split
    · exact hsame
    · split <;> exact hsame
  | nextCue =>
    dsimp only [Request.block, answerNextCue]
    split <;> exact hsame
  | configurePort =>
    dsimp only [Request.block, answerConfigurePort]
    split
    · split
      · exact hsame
      · exact sparesPunches_writeSettings p _ _ s
    · exact hsame
  | fetchNotices => exact .setPort rfl
  | setParameters =>
    rcases answerSetParameters_cases body s with he | ⟨-, -, he⟩
    · exact he.symm ▸ hsame
    · exact he.symm ▸ .of_same rfl rfl rfl
  | requestGrant =>
    dsimp only [Request.block, answerRequestGrant]
    split
    · exact sparesPunches_giveAtOnce p s
    · split
      · exact hsame
      · split
        · exact hsame
        · exact .of_touches (touches_grant s _)
  | releaseGrant =>
    dsimp only [Request.block, answerReleaseGrant]
    split
    · exact sparesPunches_releaseByHolder p s
    · split
      · exact .of_touches (touches_grant s _)
      · exact hsame
  | insertCue =>
    dsimp only [Request.block, answerInsert]
    split
    · exact hsame
    · split
      · exact hsame
      · split
        · exact hsame
        · split
          · exact hsame
          · exact .of_touches (touches_edited _ s)
  | amendCue =>
    dsimp only [Request.block, answerAmend]
    split
    · exact hsame
    · split
      · exact hsame
      · exact .of_touches (touches_amendFound _ _ s)
  | deleteCue =>
    dsimp only [Request.block, answerDelete]
    split
    · exact hsame
    · split
      · exact hsame
      · split
        · exact hsame
        · exact .of_touches (touches_edited _ s)
  | holdCue =>
    dsimp only [Request.block, answerHold]
    split
    · exact hsame
    · split
      · exact hsame
      · split
        · exact hsame
        · exact .of_touches (touches_edited _ s)
  | clearTable =>
    dsimp only [Request.block, answerClearTable]
    split
    · exact .of_touches (touches_edited _ s)
    · exact hsame
  | setProfile =>
    dsimp only [Request.block, answerSetProfile]
    split
    · split
      · exact .of_touches (touches_table s _)
      · exact hsame
    · exact hsame
  | setLane =>
    dsimp only [Request.block, answerSetLane]
    split
    · split
      · exact sparesPunches_writeRouting _ _ s
      · exact hsame
    · exact hsame
  | ready =>
    dsimp only [Request.block, answerReady]
    split
    · split
      · exact .setPunch rfl
      · exact hsame
    · exact hsame
  | tally =>
    dsimp only [Request.block, answerTally]
    split
    · exact hsame
    · exact sparesPunches_tallyLane p _ s
  | reconfirm => exact .of_touches (touches_setLink s p _)
  | startLoop =>
    dsimp only [Request.block, answerStartLoop]
    split
    · exact hsame
    · exact sparesPunches_startLoop _ s
  | stopLoop =>
    dsimp only [Request.block, answerStopLoop, stopGroup]
    split
    · exact hsame
    · split
      · exact sparesPunches_loopStopActive _ s
      · exact hsame
  | circleTake =>
    dsimp only [Request.block, answerCircle]
    split
    · exact hsame
    · split
      · exact hsame
      · exact sparesPunches_circle _ _ s
  | uncircleTake =>
    dsimp only [Request.block, answerUncircle]
    split
    · exact hsame
    · split
      · exact hsame
      · exact sparesPunches_uncircle _ _ s
  | trimJournal =>
    dsimp only [Request.block, answerTrim]
    split
    · exact hsame
    · exact .of_touches (touches_setEntries s _)
    · exact .of_touches ((touches_journal s _).andThen (touches_setRecords _ _) (zs := [.table, .journal]))
  | setLine =>
    dsimp only [Request.block, answerSetLine]
    split
    · exact hsame
    · exact .of_touches (touches_setInputFrom _ body s)
    · exact .of_touches (touches_setOutputFrom _ body s)

theorem punchInv_block (k : Request) (p : PortId) (body : List Byte) {s : State} (h : s.punchInv) :
    (k.block p body s).1.punchInv := by
  cases hk : k.movesLane with
  | false => exact (sparesPunches_block hk p body s).punchInv h
  | true =>
    cases k with
    | enableLane =>
      dsimp only [Request.block, answerEnable]
      split
      · exact h
      · exact punchInv_laneEnable _ h
    | disableLane =>
      dsimp only [Request.block, answerDisable]
      split
      · exact h
      · exact punchInv_laneDisable _ h
    | cancelLane =>
      dsimp only [Request.block, answerCancel]
      split
      · exact h
      · exact punchInv_laneCancel _ h
    | clearStage => exact punchInv_clearStage h
    | _ => cases hk

theorem punchInv_takeRequest {s : State} (k : Request) (p : PortId) (body : List Byte) (h : s.punchInv) :
    (takeRequest p k body (k.block p body) s).punchInv := by
  by_cases hcan : s.canTake p k body
  · have hdrop := (sparesPunches_dropItem p s).punchInv h
    have hjudge : (judge p k body (k.block p body) (s.dropItem p)).1.punchInv := by
      unfold judge
      split
      · exact hdrop
      · split
        · exact hdrop
        · split
          · exact hdrop
          · exact punchInv_block k p body hdrop
    rw [takeRequest_of_canTake _ hcan]
    exact ((sparesPunches_placeAnswer p _ _).trans (.of_touches (touches_restartIdle p _))).punchInv hjudge
  · rwa [takeRequest_of_not_canTake _ hcan]

/-! ### The tracker's events (R42 to R59) -/

theorem punchInv_laneTakesAdvance {s : State} (l : LaneId) (h : s.punchInv) : (laneTakesAdvance l s).punchInv := by
  unfold laneTakesAdvance
  split
  · exact h
  · split
    · exact punchInv_laneAdvance l _ ((SparesPunches.of_touches (touches_offered s _)).punchInv h)
    · exact h

theorem punchInv_laneTakesLost {s : State} (l : LaneId) (h : s.punchInv) : (laneTakesLost l s).punchInv := by
  unfold laneTakesLost
  split
  · exact punchInv_laneLost l ((SparesPunches.of_touches (touches_offered s _)).punchInv h)
  · exact h

theorem punchInv_punchTakesAdvance {s : State} (h : s.punchInv) : (punchTakesAdvance s).punchInv := by
  unfold punchTakesAdvance
  split
  · exact h
  · split
    · exact punchInv_foldl (fun _ l => punchInv_punchLaneAdvance _ l) allLanes
        ((SparesPunches.of_touches (touches_offered s _)).punchInv h)
    · exact h

theorem punchInv_settle {s : State} (h : s.punchInv) : (settle s).punchInv := by
  have hlanes : (allLanes.foldl laneTakes s).punchInv :=
    punchInv_foldl (fun s l hs => punchInv_laneTakesLost l (punchInv_laneTakesAdvance l hs)) allLanes h
  have hmarks := ((sparesPunches_runHandoffs _).trans (sparesPunches_marksTakeAdvance _)).punchInv hlanes
  exact ((sparesPunches_loopTakesAdvance _).trans ((sparesPunches_loopTakesRelock _).trans
    (sparesPunches_loopTakesLost _))).punchInv (punchInv_punchTakesAdvance hmarks)

theorem sparesPunches_trackerChange (x : TrackerStep) (s : State) : SparesPunches [] s (trackerChange x s) := by
  unfold trackerChange
  dsimp only
  split
  · exact .of_touches (touches_tracker s _)
  · exact (SparesPunches.of_touches (touches_tracker s _)).trans (sparesPunches_post _ _ _)

theorem punchInv_trackerApply {s : State} (x : TrackerStep) (h : s.punchInv) : (trackerApply x s).punchInv := by
  unfold trackerApply
  split
  · exact (sparesPunches_trackerChange x s).punchInv h
  · exact ((sparesPunches_trackerChange x _).trans (.of_touches (touches_offered _ _))).punchInv (punchInv_settle h)

theorem punchInv_posinByte {s : State} (b : Byte) (h : s.punchInv) : (posinByte s b).punchInv := by
  have hrec (r : Option (List Byte)) : (s.setReceiver r).punchInv := (SparesPunches.of_touches (touches_setReceiver s r)).punchInv h
  unfold posinByte
  split
  · split
    · exact hrec _
    · exact h
  · split
    · exact hrec _
    · unfold takeWord
      split
      · exact (SparesPunches.of_touches (touches_countBadWord _)).punchInv (hrec none)
      · exact punchInv_trackerApply _ (hrec none)

theorem punchInv_waitExpiry {s : State} (h : s.punchInv) : (waitExpiry s).punchInv := by
  unfold waitExpiry
  split
  · exact punchInv_trackerApply _ h
  · exact h

theorem punchInv_stepExpiry {s : State} (h : s.punchInv) : (stepExpiry s).punchInv := by
  unfold stepExpiry
  split
  · exact punchInv_trackerApply _ h
  · exact h

/-! ### PRESENT (R174, R175) -/

/-- A port that detaches loses its queues before the Punch Unit hears of it (R129, R175). -/
theorem punchInv_detachPort {s : State} (p : PortId) (h : s.punchInv) : (detachPort p s).punchInv := by
  unfold detachPort
  split
  · have hgrant := sparesPunches_grantDetach p (s.setPort p (s.port p).detached)
    have hempty : (s.setPort p (s.port p).detached).punchInv := punchInv_setPriority h (List.nil_sublist _)
    refine (sparesPunches_loopDetach p _).punchInv (punchInv_punchDetach (hgrant.punchInv hempty) fun l => ?_)
    rw [hgrant.notices, State.punchesAt, State.port_setPort_same]
    rfl
  · exact h

theorem punchInv_samplePresent {s : State} (p : PortId) (v : Level) (h : s.punchInv) : (samplePresent p v s).punchInv := by
  have hset (x : Port) (hx : x.priority = (s.port p).priority) : (s.setPort p x).punchInv := (SparesPunches.setPort hx).punchInv h
  unfold samplePresent
  dsimp only
  split
  · exact hset _ rfl
  · split
    · exact hset _ rfl
    · cases v with
      | high => exact (sparesPunches_attachPort p _).punchInv (hset _ rfl)
      | low => exact punchInv_detachPort p (hset _ rfl)

/-! ### The step -/

/-- Every operation of a step keeps the punch notices. -/
theorem kept_punchInv : Kept State.punchInv where
  reset := punchInv_deviceReset
  pending _ h := h
  countDown h := h
  request := punchInv_takeRequest
  posinByte := punchInv_posinByte
  abandonWord := (SparesPunches.of_touches (touches_abandonWord _)).punchInv
  waitExpiry := punchInv_waitExpiry
  stepExpiry := punchInv_stepExpiry
  idleExpiry := (sparesPunches_idleExpiry _).punchInv
  locateExpiry := (sparesPunches_locateExpiry _).punchInv
  laneTakesAdvance := punchInv_laneTakesAdvance
  laneTakesLost := punchInv_laneTakesLost
  punchTakesAdvance := punchInv_punchTakesAdvance
  takeStartHandoff l := (sparesPunches_takeStartHandoff l _).punchInv
  takeEndHandoff l := (sparesPunches_takeEndHandoff l _).punchInv
  marksTakeAdvance := (sparesPunches_marksTakeAdvance _).punchInv
  sendOverlayWord := (SparesPunches.of_touches (touches_sendOverlayWord _)).punchInv
  loopTakesAdvance := (sparesPunches_loopTakesAdvance _).punchInv
  loopTakesLock := (sparesPunches_loopTakesLock _).punchInv
  loopTakesLost := (sparesPunches_loopTakesLost _).punchInv
  acceptChange i := (sparesPunches_acceptChange i _).punchInv
  sampleInput i v := (sparesPunches_sampleInput i v _).punchInv
  attachPort p := (sparesPunches_attachPort p _).punchInv
  detachPort := punchInv_detachPort
  samplePresent := punchInv_samplePresent
  hearAll p cs := (SparesPunches.setPort (Port.priority_hears cs _)).punchInv
  silence p := (SparesPunches.setPort (Port.priority_silence _)).punchInv
  takeFrameError p := (sparesPunches_takeFrameError p _).punchInv
  takeUnknown p kind body := (sparesPunches_takeUnknown p kind body _).punchInv
  transmitNext := punchInv_transmitNext
  transmitEnd p := (sparesPunches_transmitEnd p _).punchInv

/-- Settles O59: each operation of a step keeps the invariant. -/
theorem stepKeepsThePunches : Obligations.StepKeepsThePunches := by
  unfold Obligations.StepKeepsThePunches
  exact fun _ _ => kept_punchInv.step

end Sys2Proof.Machine
end

section
/-! ## READY, TALLY and RECONFIRM (O47) -/

namespace Sys2Proof.Machine

set_option Elab.async false

section
variable {p : PortId} {s : State}

theorem recordPort_dropItem (s : State) (p q : PortId) (l : LaneId) :
    (s.dropItem p).recordPort l = some q ↔ s.recordPort l = some q := by
  have hsame : ((s.dropItem p).port q).attached = (s.port q).attached ∧ ((s.dropItem p).port q).roles = (s.port q).roles := by
    by_cases hq : q = p
    · subst hq
      rw [State.dropItem, State.port_setPort_same]
      exact ⟨rfl, rfl⟩
    · rw [State.dropItem, State.port_setPort_ne _ _ _ _ (Ne.symm hq)]
      exact ⟨rfl, rfl⟩
  obtain ⟨hattached, hroles⟩ := hsame
  rw [recordPort_eq_some_iff, recordPort_eq_some_iff, hattached, hroles]
  rfl

/-! ### READY (R115) -/

theorem answers_ready_range {b c : Byte} (h : s.admits p .ready [b, c]) (hout : 7 < b.toNat ∨ 1 < c.toNat) :
    Answers .ready p [b, c] s (s.dropItem p) [0x06] := by
  refine answers_bare (x := .range) h ?_
  show answerReady p _ _ = _
  rw [answerReady, byteAt_cons_succ, byteAt_cons_zero, byteAt_cons_zero]
  rcases hout with hb | hc
  · rw [laneOf_eq_none hb]
  · rw [boolOf_eq_none hc]
    cases laneOf b.toNat <;> rfl

theorem answerReady_inRange {l : LaneId} {c : Byte} (hc : c.toNat ≤ 1) (u : State) :
    answerReady p [BitVec.ofNat 8 l.val, c] u =
      if u.recordPort l = some p then
        (u.setPunch l { u.punchOf l with ready := decide (c = 1) }, .okWith (encBool (decide (c = 1))))
      else (u, .bare .wrongPort) := by
  have hbyte : byteAt [BitVec.ofNat 8 l.val, c] 0 = l.val := byteAt_ofNat (by omega)
  rw [answerReady, hbyte, byteAt_cons_succ, byteAt_cons_zero, laneOf_eq_some_iff.mpr rfl, boolOf_toNat hc]

theorem answers_ready_recordPort {l : LaneId} {c : Byte} (h : s.admits p .ready [BitVec.ofNat 8 l.val, c]) (hc : c.toNat ≤ 1)
    (hport : (s.dropItem p).recordPort l = some p) :
    Answers .ready p [BitVec.ofNat 8 l.val, c] s
      ((s.dropItem p).setPunch l { s.punchOf l with ready := decide (c = 1) }) [0x00, c] := by
  have hok := answers_ok h ((answerReady_inRange hc _).trans (if_pos hport))
  have hbit : encBool (decide (c = 1)) = [c] := by
    have hcases : c = 0 ∨ c = 1 := by bv_omega
    rcases hcases with rfl | rfl <;> rfl
  rw [hbit] at hok
  exact hok

theorem answers_ready_wrongPort {l : LaneId} {c : Byte} (h : s.admits p .ready [BitVec.ofNat 8 l.val, c]) (hc : c.toNat ≤ 1)
    (hport : ¬(s.dropItem p).recordPort l = some p) :
    Answers .ready p [BitVec.ofNat 8 l.val, c] s (s.dropItem p) [0x10] :=
  answers_bare (x := .wrongPort) h ((answerReady_inRange hc _).trans (if_neg hport))

/-! ### TALLY (R126) -/

theorem answers_tally_range {b : Byte} (h : s.admits p .tally [b]) (hb : 7 < b.toNat) :
    Answers .tally p [b] s (s.dropItem p) [0x06] := by
  refine answers_bare (x := .range) h ?_
  show answerTally p _ _ = _
  rw [answerTally, byteAt_cons_zero, laneOf_eq_none hb]

theorem answerTally_lane (l : LaneId) (u : State) : answerTally p [BitVec.ofNat 8 l.val] u = tallyLane p l u := by
  rw [answerTally, byteAt_ofNat (by omega), laneOf_eq_some_iff.mpr rfl]

theorem tallyLane_recording {l : LaneId} {n : Nat} (hmode : (s.punchOf l).mode = .recording p n) :
    tallyLane p l s =
      (s.setPunch l { s.punchOf l with tallied := true }, .okWith (num3 n ++ num1 (s.punchOf l).consecutive)) := by
  unfold tallyLane
  rw [hmode]
  exact if_pos rfl

theorem tallyLane_notRecording {l : LaneId} (hmode : ∀ n : Nat, (s.punchOf l).mode ≠ .recording p n) :
    tallyLane p l s = (s, .bare .notRecording) := by
  unfold tallyLane
  split
  · next q n hq =>
    have hqp : q ≠ p := fun e => hmode n (e ▸ hq)
    rw [if_neg hqp]
  all_goals rfl

end

/-- Settles O47: each of the three blocks, case by case; only a port that is attached sends a request, so that a record port that
is not the lane's differs in the routing or in the role. -/
theorem readyTallyReconfirm : Obligations.ReadyTallyReconfirm := by
  unfold Obligations.ReadyTallyReconfirm
  intro p s u
  refine ⟨fun b c h hout => answers_ready_range h hout, fun l c hc h => ⟨fun hroute hrole => ?_, fun hwrong => ?_⟩,
    fun b h hb => answers_tally_range h hb, fun l h => ⟨fun n hmode => ?_, fun hmode => ?_⟩, fun h => ?_⟩
  · have ⟨⟨_, hattached, _⟩, _⟩ := h
    exact answers_ready_recordPort h hc
      ((recordPort_dropItem s p p l).mpr (recordPort_eq_some_iff.mpr ⟨hroute, hattached, hrole⟩))
  · refine answers_ready_wrongPort h hc fun hport => ?_
    obtain ⟨hroute, -, hrole⟩ := recordPort_eq_some_iff.mp ((recordPort_dropItem s p p l).mp hport)
    rcases hwrong with hother | hnone
    · exact hother hroute
    · exact absurd (hrole.symm.trans hnone) (by decide)
  · have hok := answers_ok h ((answerTally_lane l u).trans (tallyLane_recording hmode))
    rwa [← List.append_assoc] at hok
  · exact answers_bare (x := .notRecording) h ((answerTally_lane l u).trans (tallyLane_notRecording hmode))
  · have hok := answers_ok h (rfl : answerReconfirm p u = _)
    rw [num1_linkCode] at hok
    simp only [beq_iff_eq] at hok
    exact hok

end Sys2Proof.Machine
end

section
/-! ## The transmitters (O39) -/

namespace Sys2Proof.Machine

set_option Elab.async false

section
variable {p : PortId} {s : State}

/-! ### What a transmitter takes (R176) -/

theorem transmitNext_notice {n : PriorityNotice} {rest : List PriorityNotice} (hattached : (s.port p).attached = true)
    (hfree : (s.port p).transmitting = none) (hpriority : (s.port p).priority = n :: rest) :
    transmitNext p s =
      noticeTaken n
        (s.setPort p { s.port p with priority := rest, transmitting := some { message := .notice n, newRate := none } }) := by
  unfold transmitNext
  rw [if_pos ⟨hattached, hfree⟩, hpriority]

theorem transmitNext_answer {a : Answer} (hattached : (s.port p).attached = true) (hfree : (s.port p).transmitting = none)
    (hpriority : (s.port p).priority = []) (hslot : (s.port p).slot = some a) :
    transmitNext p s =
      s.setPort p { s.port p with slot := none, transmitting := some { message := .answer a, newRate := a.newRate } } := by
  unfold transmitNext
  rw [if_pos ⟨hattached, hfree⟩]
  split
  · next hcons => cases hpriority.symm.trans hcons
  · next b _ hsome => exact Option.some_inj.mp (hslot.symm.trans hsome) ▸ rfl
  · next hnone => cases hslot.symm.trans hnone

theorem transmitNext_idle
    (h : (s.port p).attached = false ∨ (s.port p).transmitting ≠ none ∨
      ((s.port p).priority = [] ∧ (s.port p).slot = none)) :
    transmitNext p s = s := by
  unfold transmitNext
  dsimp only
  split
  · next hready =>
    obtain ⟨hattached, hfree⟩ := hready
    rcases h with hdetached | hbusy | ⟨hpriority, hslot⟩
    · exact absurd (hattached.symm.trans hdetached) (by decide)
    · exact absurd hfree hbusy
    · rw [hpriority, hslot]
  · rfl

/-! ### What a taken notice tells (R125, R176) -/

theorem punchInTaken_queued {l : LaneId} {q : PortId} {c : CycleRecord} (hmode : (s.punchOf l).mode = .queued q)
    (hc : (s.lane l).cycle = some c) :
    punchInTaken l s =
      s.setPunch l { s.punchOf l with
        mode := .recording q (nextCheckPoint (c.begin.getD 0) s.params.tallyInterval c.last), tallied := false } := by
  unfold punchInTaken
  rw [hmode, hc]

theorem loopLocateTaken_locating {g : GroupId} (hactive : s.activeGroup = some g) (hmode : (s.group g).mode = .locating) :
    loopLocateTaken g s = { s with loop := { s.loop with locateSent := true } } := if_pos ⟨hactive, hmode⟩

theorem loopLocateTaken_other {g : GroupId} (h : s.activeGroup ≠ some g ∨ (s.group g).mode ≠ .locating) :
    loopLocateTaken g s = s := if_neg (not_and_or.mpr h)

/-! ### The end of a message (R176) -/

theorem transmitEnd_idle (h : (s.port p).transmitting = none) : transmitEnd p s = s := by
  unfold transmitEnd
  dsimp only
  rw [h]

theorem transmitEnd_sending {t : Transmission} (h : (s.port p).transmitting = some t) :
    transmitEnd p s =
      s.setPort p { s.port p with transmitting := none, lineRate := t.newRate.getD (s.port p).lineRate } := by
  unfold transmitEnd
  dsimp only
  rw [h]

end

/-- Settles O39: a transmitter that is free sends the front of the priority queue, then the slot, and each kind of notice tells its
block. -/
theorem transmitterTakesPriorityFirst : Obligations.TransmitterTakesPriorityFirst := by
  unfold Obligations.TransmitterTakesPriorityFirst
  intro p s hreset x
  have htake : exec (.transmitTake p) s = .next (transmitNext p s) := live_of_released hreset
  have hcomplete : exec (.transmitComplete p) s = .next (transmitEnd p s) := live_of_released hreset
  rw [htake, hcomplete]
  refine ⟨fun n rest hattached hfree hpriority => ?notice, fun a hattached hfree hpriority hslot => ?answer, fun h => ?nothing,
    fun h => ?notSending, fun t h => ?sending⟩
  case notice =>
    intro sent answer
    have hnext : transmitNext p s = noticeTaken n sent := transmitNext_notice hattached hfree hpriority
    have hloop : sent.loop = s.loop := rfl
    refine ⟨fun l cue take character reel frame slate q c hn hmode hc => ?_, fun l cue take r frame hn => ?_,
      fun g c hn => ?_, fun g reel frame pass hn => ⟨fun hactive hmode => ?_, fun hother => ?_⟩⟩
    all_goals subst hn
    all_goals refine congrArg _ (hnext.trans ?_)
    · exact punchInTaken_queued (s := sent) hmode hc
    · rfl
    · rfl
    · exact loopLocateTaken_locating ((activeGroup_of_loop hloop).trans hactive) ((group_of_loop hloop g).symm ▸ hmode)
    · refine loopLocateTaken_other ?_
      rwa [activeGroup_of_loop hloop, group_of_loop hloop]
  case answer => rw [transmitNext_answer hattached hfree hpriority hslot]
  case nothing => rw [transmitNext_idle h]
  case notSending => rw [transmitEnd_idle h]
  case sending =>
    rw [transmitEnd_sending h]
    cases t.newRate <;> rfl

end Sys2Proof.Machine
end

section
/-! ## The punch-in decision at the begin of a take (O20) -/

namespace Sys2Proof.Machine

set_option Elab.async false

/-! ### What the decision reads (R114, R117) -/

/-- Two states alike in all that the punch-in decision on a lane reads and writes. -/
structure SameDecision (l : LaneId) (s t : State) : Prop where
  routing : (t.lane l).routing = (s.lane l).routing
  punch : t.punch = s.punch
  links : t.links = s.links
  ports : t.ports = s.ports

theorem SameDecision.punchChoice {l : LaneId} {s t : State} (h : SameDecision l s t) : t.punchChoice l = s.punchChoice l := by
  obtain ⟨hrouting, hpunch, hlinks, hports⟩ := h
  have hport (p : PortId) : t.port p = s.port p := by rw [State.port, hports, State.port]
  have hlink (p : PortId) : t.link p = s.link p := by rw [State.link, hlinks, State.link]
  have hpunchOf : t.punchOf l = s.punchOf l := by rw [State.punchOf, hpunch, State.punchOf]
  have hrecord : t.recordPort l = s.recordPort l := by
    unfold State.recordPort
    rw [hrouting]
    simp only [hport]
  unfold State.punchChoice
  simp only [hrecord, hport, hlink, hpunchOf]

section
variable {l : LaneId} {s : State} {p : PortId}

/-! ### The four tests in their order (R117) -/

theorem punchChoice_noRecorder (h : ∀ q : PortId, s.recordPort l ≠ some q) : s.punchChoice l = .dry .noRecorder := by
  unfold State.punchChoice
  rw [Option.eq_none_iff_forall_ne_some.mpr h]

theorem punchChoice_reconfirm (hp : s.recordPort l = some p) (hlink : s.link p = .reconfirm) :
    s.punchChoice l = .dry .reconfirm := by
  unfold State.punchChoice
  rw [hp]
  exact if_pos hlink

/-- The tests that follow on a NORMAL link. -/
theorem punchChoice_normal (hp : s.recordPort l = some p) (hlink : s.link p = .normal) :
    s.punchChoice l =
      if (s.punchOf l).ready = false then .dry .notReady
      else if (s.port p).priority.any (fun n => n.isPunchOut l) then .dry .portBehind
      else .queued p := by
  unfold State.punchChoice
  rw [hp]
  exact if_neg (by rw [hlink]; decide)

theorem punchChoice_notReady (hp : s.recordPort l = some p) (hlink : s.link p = .normal) (hready : (s.punchOf l).ready = false) :
    s.punchChoice l = .dry .notReady := by
  rw [punchChoice_normal hp hlink, if_pos hready]

theorem punchChoice_portBehind (hp : s.recordPort l = some p) (hlink : s.link p = .normal) (hready : (s.punchOf l).ready = true)
    (hbehind : ∃ n ∈ (s.port p).priority, n.isPunchOut l = true) : s.punchChoice l = .dry .portBehind := by
  rw [punchChoice_normal hp hlink, if_neg (by simp [hready]), if_pos (List.any_eq_true.mpr hbehind)]

theorem punchChoice_queued (hp : s.recordPort l = some p) (hlink : s.link p = .normal) (hready : (s.punchOf l).ready = true)
    (hbehind : ¬∃ n ∈ (s.port p).priority, n.isPunchOut l = true) : s.punchChoice l = .queued p := by
  rw [punchChoice_normal hp hlink, if_neg (by simp [hready]), if_neg (fun h => hbehind (List.any_eq_true.mp h))]

/-! ### What the decision leaves (R116, R118) -/

theorem punch_postPunch (n : PriorityNotice) : (postPunch p n s).punch = s.punch := touches_postPunch p n s .punch (by decide)

theorem ports_postPunch_attached (n : PriorityNotice) (h : (s.port p).attached = true) :
    (postPunch p n s).ports = s.ports.set p { s.port p with priority := (s.port p).priority ++ [n] } := by
  unfold postPunch
  exact congrArg State.ports (if_pos h)

/-- What a decision leaves: the lane's new punch record, and the ports. -/
structure Decided (l : LaneId) (m : PunchMode) (s t : State) (ports : Vector Port 4) : Prop where
  punch : t.punch = s.punch.set l (beginning m)
  ports : t.ports = ports

/-- A DRY decision leaves the ports alone. -/
theorem decided_dry {t : State} {x : DryReason} (c : CycleRecord) (h : SameDecision l s t) (hchoice : s.punchChoice l = .dry x) :
    Decided l (.dry x) s (punchDecision l c t) s.ports := by
  rw [punchDecision_of_dry c (h.punchChoice.trans hchoice)]
  exact ⟨congrArg (fun x : Vector PunchLane 8 => x.set l _) h.punch, h.ports⟩

/-- A QUEUED decision puts the take's PUNCH IN at the end of the port's queue. -/
theorem decided_queued {t : State} (c : CycleRecord) (h : SameDecision l s t) (hchoice : s.punchChoice l = .queued p)
    (hattached : (s.port p).attached = true) :
    Decided l (.queued p) s (punchDecision l c t)
      (s.ports.set p { s.port p with priority := (s.port p).priority ++ [c.punchInNotice l] }) := by
  have hport : t.port p = s.port p := by rw [State.port, h.ports, State.port]
  have hset : (t.setPunch l (beginning (.queued p))).port p = s.port p := hport
  rw [punchDecision_of_queued c (h.punchChoice.trans hchoice)]
  refine ⟨(punch_postPunch _).trans (congrArg (fun x : Vector PunchLane 8 => x.set l _) h.punch), ?_⟩
  rw [ports_postPunch_attached _ (hset ▸ hattached), hset]
  exact congrArg (fun x : Vector Port 4 => x.set p _) h.ports

end

/-! ### The take that begins (R76, R77) -/

/-- The lane's advance leaves the punch records and the ports as the decision on the begun take does, in a state alike in what the
decision reads. -/
def TakesDecision (l : LaneId) (c : CycleRecord) (s : State) : Prop :=
  ∃ t u : State, exec (.lanePositionAdvance l) s = .next t ∧ SameDecision l s u ∧
    t.punch = (punchDecision l c u).punch ∧ t.ports = (punchDecision l c u).ports

section
variable {l : LaneId} {a : Advance} {c : CycleRecord} {r : CueRecord} {s : State}

theorem takeBegin_of_on (hrec : c.record = true) :
    takeBegin l c a s = punchDecision l (s.begunCycle c a) (s.setLane l { s.lane l with cycle := some (s.begunCycle c a) }) :=
  if_pos hrec

theorem takesDecision_leadin (hoffer : s.offersLane l a) (hc : (s.lane l).cycle = some c) (hbegun : c.begun = false)
    (hrec : c.record = true) (hpunch : c.punchIn ≤ a.frame) (hr : s.record c.cue = some r) (hmode : (s.lane l).mode = .leadin) :
    TakesDecision l (s.begunRecord c r a) s := by
  -- the state in which the lane has taken the advance and its frame
  let v : State := (s.laneTook l).setLane l { s.lane l with cycle := some { c with last := a.frame } }
  have htouch : c.touch a = { c with last := a.frame } := by simp [CycleRecord.touch, hbegun]
  have hexec : exec (.lanePositionAdvance l) s = .next (leadinAdvance l a v) := by
    rw [exec_lanePositionAdvance hoffer, laneAdvance_leadin (s := s.laneTook l) hmode hc, htouch]
    rfl
  have hlane : v.lane l = { s.lane l with cycle := some { c with last := a.frame } } := State.lane_setLane_same _ _ _
  have hcycle : (v.lane l).cycle = some { c with last := a.frame } := by rw [hlane]
  have hrecord : v.begunCycle { c with last := a.frame } a = s.begunRecord c r a := begunCycle_eq (s := s.laneTook l) a hr
  refine ⟨_, v.setLane l { v.lane l with cycle := some (s.begunRecord c r a) }, hexec, ⟨?_, rfl, rfl, rfl⟩, ?_⟩
  · rw [State.lane_setLane_same, hlane]
  · rw [leadinAdvance_begins hcycle hrec hbegun hpunch, takeBegin_of_on (c := { c with last := a.frame }) hrec, hrecord]
    split <;> exact ⟨rfl, rfl⟩

theorem takesDecision_armed (hoffer : s.offersLane l a) (hc : (s.lane l).cycle = some c) (hbegun : c.begun = false)
    (hrec : c.record = true) (hpunch : c.punchIn ≤ a.frame) (hr : s.record c.cue = some r) (hmode : (s.lane l).mode = .armed)
    (hlead : c.leadIn ≤ a.frame) {n : Nat} (hpin : (s.lane l).pinned = some n)
    (hkeep : s.table.confirmed = false ∨ ∃ x : CueRecord, s.reoffer l a.reel a.frame n = some x ∧ x.number = n) :
    TakesDecision l (s.begunRecord c r a) s := by
  -- the state in which the lane has entered LEADIN and told the Mark Generator
  let v : State := ((s.laneTook l).setLane l
    { s.lane l with mode := .leadin, cycle := some { c with last := a.frame } }).handOff
      (.start l ((s.laneTook l).markSetupOf l c) a.frame)
  have hlane : v.lane l = { s.lane l with mode := .leadin, cycle := some { c with last := a.frame } } :=
    State.lane_setLane_same _ _ _
  have hexec : exec (.lanePositionAdvance l) s = .next (takeBeginTest l a v) := by
    rw [exec_lanePositionAdvance hoffer, laneAdvance_armed_keeps (s := s.laneTook l) hmode hpin hc hbegun hkeep, if_pos hlead]
    rfl
  have hcycle : (v.lane l).cycle = some { c with last := a.frame } := by rw [hlane]
  have hrecord : v.begunCycle { c with last := a.frame } a = s.begunRecord c r a := begunCycle_eq (s := s.laneTook l) a hr
  refine ⟨_, v.setLane l { v.lane l with cycle := some (s.begunRecord c r a) }, hexec, ⟨?_, rfl, rfl, rfl⟩, ?_⟩
  · rw [State.lane_setLane_same, hlane]
  · rw [takeBeginTest_of_begins hcycle hrec hbegun hpunch, takeBegin_of_on (c := { c with last := a.frame }) hrec, hrecord]
    exact ⟨rfl, rfl⟩

end

/-- Settles O20: in LEADIN and at the entry into it the take begins with the decision, which each test in turn settles. -/
theorem punchInDecision : Obligations.PunchInDecision := by
  unfold Obligations.PunchInDecision
  intro l a c r s hoffer hc hbegun hrec hpunch hr hmode isRecordPort behind decided
  have hbegins : TakesDecision l (s.begunRecord c r a) s := by
    rcases hmode with hleadin | ⟨harmed, hlead, n, hpin, hkeep⟩
    · exact takesDecision_leadin hoffer hc hbegun hrec hpunch hr hleadin
    · exact takesDecision_armed hoffer hc hbegun hrec hpunch hr harmed hlead hpin hkeep
  obtain ⟨t, u, hexec, hsame, htpunch, htports⟩ := hbegins
  have hdecided {m : PunchMode} {ports : Vector Port 4} (h : Decided l m s (punchDecision l (s.begunRecord c r a) u) ports) :
      ∃ t : State, decided m t ∧ t.ports = ports := ⟨t, ⟨hexec, htpunch.trans h.punch⟩, htports.trans h.ports⟩
  have hdry {x : DryReason} (h : s.punchChoice l = .dry x) : ∃ t : State, decided (.dry x) t ∧ t.ports = s.ports :=
    hdecided (decided_dry _ hsame h)
  refine ⟨fun hnone => hdry (punchChoice_noRecorder fun q hq => hnone q (recordPort_eq_some_iff.mp hq)), fun p hport => ?_⟩
  have hrecord : s.recordPort l = some p := recordPort_eq_some_iff.mpr hport
  refine ⟨fun hlink => hdry (punchChoice_reconfirm hrecord hlink),
    fun hlink hready => hdry (punchChoice_notReady hrecord hlink hready),
    fun hlink hready hbehind => hdry (punchChoice_portBehind hrecord hlink hready hbehind),
    fun hlink hready hbehind => ?_⟩
  exact hdecided (decided_queued _ hsame (punchChoice_queued hrecord hlink hready hbehind) hport.2.1)

end Sys2Proof.Machine
end

section
/-! ## The Punch Unit checks the tallies (O24)

The lanes are checked one after another. `TallyProgress` is what the checks of the other lanes, before and after a lane's own, cannot
undo; `lane_turn` gives the state in which a lane's own check is made. -/

namespace Sys2Proof.Machine

set_option Elab.async false

/-! ### The next check point (R119, R125) -/

/-- The number of whole intervals from the punch frame to just above a frame, at least 1. -/
theorem nextCheckPoint_least {first interval above : Nat} (hpos : 0 < interval) :
    ∃ k : Nat, 1 ≤ k ∧ nextCheckPoint first interval above = first + k * interval ∧
      above < nextCheckPoint first interval above ∧ ∀ j : Nat, 1 ≤ j → above < first + j * interval → k ≤ j := by
  refine ⟨(above - first) / interval + 1, Nat.le_add_left 1 _, rfl, ?_, fun j hj habove => ?_⟩
  · have hlt : above - first < ((above - first) / interval + 1) * interval :=
      (Nat.div_lt_iff_lt_mul hpos).mp (Nat.lt_succ_self _)
    unfold nextCheckPoint
    omega
  · have hstep : 0 < j * interval := Nat.mul_pos hj hpos
    exact (Nat.div_lt_iff_lt_mul hpos).mpr (by omega)

/-! ### One lane's check (R125, R127) -/

/-- The lane is RECORDING on the port and its check point is reached. -/
def State.due (s : State) (frame : Nat) (l : LaneId) (p : PortId) : Prop :=
  ∃ n : Nat, (s.punchOf l).mode = .recording p n ∧ n ≤ frame

/-- The consecutive misses that a check finds. -/
def State.misses (s : State) (l : LaneId) : Nat := if (s.punchOf l).tallied then 0 else (s.punchOf l).consecutive + 1

section
variable {s : State} {frame : Nat} {l : LaneId} {p : PortId}

theorem punchLaneAdvance_of_not_due (h : ∀ q : PortId, ¬s.due frame l q) : punchLaneAdvance frame s l = s := by
  unfold punchLaneAdvance
  split
  · next q n hmode => exact if_neg fun hn => h q ⟨n, hmode, hn⟩
  all_goals rfl

theorem punchLaneAdvance_of_due (h : s.due frame l p) : punchLaneAdvance frame s l = tallyCheck l p frame s := by
  obtain ⟨n, hmode, hn⟩ := h
  unfold punchLaneAdvance
  rw [hmode]
  exact if_pos hn

theorem punchLaneAdvance_within (h : s.due frame l p) (hmiss : s.misses l ≤ s.params.missAllowance) :
    punchLaneAdvance frame s l = s.setPunch l (s.checkedPunch l p frame) := by
  rw [punchLaneAdvance_of_due h, tallyCheck_eq]
  exact if_neg (not_lt.mpr hmiss)

theorem punchLaneAdvance_fails (h : s.due frame l p) (hmiss : s.params.missAllowance < s.misses l) :
    punchLaneAdvance frame s l = tallyFailure l p (s.setPunch l (s.checkedPunch l p frame)) := by
  rw [punchLaneAdvance_of_due h, tallyCheck_eq]
  exact if_pos hmiss

/-- What a lane's turn can be: nothing, a check within the allowance, or a tally failure. -/
theorem punchLaneAdvance_cases (frame : Nat) (s : State) (l : LaneId) :
    punchLaneAdvance frame s l = s ∨
      ∃ p : PortId, s.due frame l p ∧
        ((s.misses l ≤ s.params.missAllowance ∧ punchLaneAdvance frame s l = s.setPunch l (s.checkedPunch l p frame)) ∨
          (s.params.missAllowance < s.misses l ∧
            punchLaneAdvance frame s l = tallyFailure l p (s.setPunch l (s.checkedPunch l p frame)))) := by
  by_cases hdue : ∃ p : PortId, s.due frame l p
  · obtain ⟨p, hp⟩ := hdue
    refine .inr ⟨p, hp, ?_⟩
    rcases le_or_gt (s.misses l) s.params.missAllowance with hmiss | hmiss
    · exact .inl ⟨hmiss, punchLaneAdvance_within hp hmiss⟩
    · exact .inr ⟨hmiss, punchLaneAdvance_fails hp hmiss⟩
  · exact .inl (punchLaneAdvance_of_not_due (not_exists.mp hdue))

end

/-! ### A tally failure (R127) -/

/-- The PUNCH OUT of a tally failure is posted, if the lane has a cycle record. -/
def postBroken (l : LaneId) (p : PortId) (s : State) : State :=
  match (s.lane l).cycle with
  | none => s
  | some c => postPunch p (.punchOut l c.cue (c.take.getD 0) .broken c.last) s

theorem tallyFailure_eq (l : LaneId) (p : PortId) (s : State) :
    tallyFailure l p s = breakTake l p ((postBroken l p s).setLink p .reconfirm) := rfl

section
variable {s : State} {l : LaneId} {p : PortId}

theorem touches_postBroken (l : LaneId) (p : PortId) (s : State) : TouchesOnly [.ports] s (postBroken l p s) := by
  unfold postBroken
  split
  · exact .refl _ s
  · exact touches_postPunch p _ s

theorem port_tallyFailure (q : PortId) : (tallyFailure l p s).port q = (postBroken l p s).port q := rfl

theorem link_tallyFailure (q : PortId) : (tallyFailure l p s).link q = if p = q then .reconfirm else s.link q := by
  have hpost : (postBroken l p s).link q = s.link q := by rw [State.link, touches_postBroken l p s .links (by decide), State.link]
  have hlink : (tallyFailure l p s).link q = ((postBroken l p s).setLink p .reconfirm).link q := rfl
  rw [hlink, State.link_setLink, hpost]

theorem takeView_postBroken (k : LaneId) : ((postBroken l p s).setLink p .reconfirm).takeView k = s.takeView k :=
  takeView_of (touches_postBroken l p s .lanes (by decide)) (touches_postBroken l p s .punch (by decide)) k

theorem takeView_tallyFailure_same :
    (tallyFailure l p s).takeView l =
      ({ s.lane l with cycle := (s.lane l).cycle.map fun c => { c with broken := true } },
        { s.punchOf l with mode := .broken p }) := by
  obtain ⟨hlane, hpunch⟩ := Prod.mk.inj (takeView_postBroken (s := s) (l := l) (p := p) l)
  rw [tallyFailure_eq, takeView_breakTake_same, hlane, hpunch]

theorem takeView_tallyFailure_ne {k : LaneId} (h : l ≠ k) : (tallyFailure l p s).takeView k = s.takeView k := by
  rw [tallyFailure_eq, takeView_breakTake_ne p h, takeView_postBroken]

theorem port_postBroken_ne {q : PortId} (h : q ≠ p) : (postBroken l p s).port q = s.port q := by
  unfold postBroken
  split
  · rfl
  · rw [port_postPunch, if_neg fun hq => h hq.1]

theorem attached_postBroken (q : PortId) : ((postBroken l p s).port q).attached = (s.port q).attached := by
  unfold postBroken
  split
  · rfl
  · rw [port_postPunch]

theorem priority_postBroken {q : PortId} {n : PriorityNotice} (h : n ∈ (s.port q).priority) :
    n ∈ ((postBroken l p s).port q).priority := by
  unfold postBroken
  split
  · exact h
  · rw [port_postPunch]
    dsimp only
    split
    · exact List.mem_append_left _ h
    · exact h

theorem mem_priority_postBroken {c : CycleRecord} (hc : (s.lane l).cycle = some c) (hattached : (s.port p).attached = true) :
    .punchOut l c.cue (c.take.getD 0) .broken c.last ∈ ((postBroken l p s).port p).priority := by
  unfold postBroken
  rw [hc]
  dsimp only
  rw [port_postPunch]
  dsimp only
  rw [if_pos ⟨rfl, hattached⟩]
  exact List.mem_append_right _ (List.mem_singleton_self _)

end

/-! ### What no check undoes -/

/-- The parameters and who is attached stay, a link to reconfirm stays so, and a notice in a priority queue stays there. -/
structure TallyProgress (s t : State) : Prop where
  params : t.params = s.params
  attached : ∀ p : PortId, (t.port p).attached = (s.port p).attached
  reconfirm : ∀ p : PortId, s.link p = .reconfirm → t.link p = .reconfirm
  notices : ∀ (p : PortId) (n : PriorityNotice), n ∈ (s.port p).priority → n ∈ (t.port p).priority

theorem TallyProgress.refl (s : State) : TallyProgress s s := ⟨rfl, fun _ => rfl, fun _ => id, fun _ _ => id⟩

theorem TallyProgress.trans {s t u : State} (h : TallyProgress s t) (h' : TallyProgress t u) : TallyProgress s u :=
  ⟨h'.params.trans h.params, fun p => (h'.attached p).trans (h.attached p), fun p hp => h'.reconfirm p (h.reconfirm p hp),
    fun p n hn => h'.notices p n (h.notices p n hn)⟩

theorem tallyProgress_tallyFailure (l : LaneId) (p : PortId) (s : State) : TallyProgress s (tallyFailure l p s) where
  params := touches_tallyFailure l p s .params (by decide)
  attached q := by rw [port_tallyFailure, attached_postBroken]
  reconfirm q hq := by
    rw [link_tallyFailure, hq]
    exact ite_self _
  notices q n hn := priority_postBroken hn

section
variable {s : State} {frame : Nat} {l : LaneId} {p : PortId}

theorem tallyProgress_setPunch (x : PunchLane) : TallyProgress s (s.setPunch l x) :=
  ⟨rfl, fun _ => rfl, fun _ => id, fun _ _ => id⟩

theorem tallyProgress_punchLaneAdvance (frame : Nat) (s : State) (l : LaneId) : TallyProgress s (punchLaneAdvance frame s l) := by
  rcases punchLaneAdvance_cases frame s l with he | ⟨p, -, ⟨-, he⟩ | ⟨-, he⟩⟩
  all_goals rw [he]
  · exact .refl s
  · exact tallyProgress_setPunch _
  · exact (tallyProgress_setPunch _).trans (tallyProgress_tallyFailure l p _)

/-- A lane's turn leaves the other lanes and their punch records alone. -/
theorem takeView_punchLaneAdvance_ne {k : LaneId} (h : l ≠ k) : (punchLaneAdvance frame s l).takeView k = s.takeView k := by
  rcases punchLaneAdvance_cases frame s l with he | ⟨p, -, ⟨-, he⟩ | ⟨-, he⟩⟩
  all_goals rw [he]
  · exact takeView_setPunch_ne _ h
  · rw [takeView_tallyFailure_ne h, takeView_setPunch_ne _ h]

theorem tallyProgress_foldl (frame : Nat) :
    ∀ (ls : List LaneId) (s : State), TallyProgress s (ls.foldl (punchLaneAdvance frame) s)
  | [], s => .refl s
  | l :: ls, s => (tallyProgress_punchLaneAdvance frame s l).trans (tallyProgress_foldl frame ls _)

theorem takeView_foldl_of_notMem (frame : Nat) {k : LaneId} :
    ∀ {ls : List LaneId} (s : State), k ∉ ls → (ls.foldl (punchLaneAdvance frame) s).takeView k = s.takeView k
  | [], _, _ => rfl
  | l :: ls, s, h => by
    obtain ⟨hl, hls⟩ := List.ne_and_not_mem_of_not_mem_cons h
    rw [List.foldl_cons, takeView_foldl_of_notMem frame _ hls, takeView_punchLaneAdvance_ne (Ne.symm hl)]

/-- A lane takes its turn in a state that is like the first one for it, and what its turn makes of it lasts. -/
theorem lane_turn (frame : Nat) (s : State) (l : LaneId) :
    ∃ u : State, TallyProgress s u ∧ u.takeView l = s.takeView l ∧
      TallyProgress (punchLaneAdvance frame u l) (punchAdvance frame s) ∧
      (punchAdvance frame s).takeView l = (punchLaneAdvance frame u l).takeView l := by
  obtain ⟨before, after, hsplit⟩ := List.append_of_mem (mem_allLanes l)
  have hnodup : (before ++ l :: after).Nodup := hsplit ▸ (by decide : allLanes.Nodup)
  obtain ⟨hbefore, hafter⟩ : l ∉ before ∧ l ∉ after := by
    obtain ⟨-, hright, hdisjoint⟩ := List.nodup_append'.mp hnodup
    exact ⟨fun hmem => hdisjoint hmem List.mem_cons_self, (List.nodup_cons.mp hright).1⟩
  have hfold : punchAdvance frame s =
      after.foldl (punchLaneAdvance frame) (punchLaneAdvance frame (before.foldl (punchLaneAdvance frame) s) l) := by
    rw [punchAdvance, hsplit, List.foldl_append, List.foldl_cons]
  refine ⟨before.foldl (punchLaneAdvance frame) s, tallyProgress_foldl frame _ s,
    takeView_foldl_of_notMem frame s hbefore, ?_, ?_⟩
  all_goals rw [hfold]
  · exact tallyProgress_foldl frame _ _
  · exact takeView_foldl_of_notMem frame _ hafter

end

/-! ### What the advance makes of each lane (R125, R127) -/

section
variable {s u : State} {frame : Nat} {l : LaneId} {p : PortId}

theorem punchOf_of_takeView (h : u.takeView l = s.takeView l) : u.punchOf l = s.punchOf l := congrArg Prod.snd h

theorem lane_of_takeView (h : u.takeView l = s.takeView l) : u.lane l = s.lane l := congrArg Prod.fst h

theorem due_of_takeView (h : u.takeView l = s.takeView l) : u.due frame l p ↔ s.due frame l p := by
  rw [State.due, punchOf_of_takeView h, State.due]

theorem misses_of_takeView (h : u.takeView l = s.takeView l) : u.misses l = s.misses l := by
  rw [State.misses, punchOf_of_takeView h, State.misses]

theorem checkedPunch_of_takeView (h : u.takeView l = s.takeView l) (hparams : u.params = s.params) :
    u.checkedPunch l p frame = s.checkedPunch l p frame := by
  simp only [State.checkedPunch, punchOf_of_takeView h, lane_of_takeView h, hparams]

theorem takeView_punchAdvance_of_not_due (h : ∀ q : PortId, ¬s.due frame l q) :
    (punchAdvance frame s).takeView l = s.takeView l := by
  obtain ⟨u, -, hview, -, hafter⟩ := lane_turn frame s l
  rw [hafter, punchLaneAdvance_of_not_due fun q hq => h q ((due_of_takeView hview).mp hq), hview]

theorem takeView_punchAdvance_within (h : s.due frame l p) (hmiss : s.misses l ≤ s.params.missAllowance) :
    (punchAdvance frame s).takeView l = (s.lane l, s.checkedPunch l p frame) := by
  obtain ⟨u, hbefore, hview, -, hafter⟩ := lane_turn frame s l
  have hmiss' : u.misses l ≤ u.params.missAllowance := by rwa [misses_of_takeView hview, hbefore.params]
  rw [hafter, punchLaneAdvance_within ((due_of_takeView hview).mpr h) hmiss', takeView_setPunch_same, lane_of_takeView hview,
    checkedPunch_of_takeView hview hbefore.params]

/-- A lane over the miss allowance: its take is broken, its port's link to reconfirm, and its PUNCH OUT waits on an attached port. -/
theorem punchAdvance_fails (h : s.due frame l p) (hmiss : s.params.missAllowance < s.misses l) :
    (punchAdvance frame s).takeView l =
        ({ s.lane l with cycle := (s.lane l).cycle.map fun c => { c with broken := true } },
          { s.checkedPunch l p frame with mode := .broken p }) ∧
      (punchAdvance frame s).link p = .reconfirm ∧
      ∀ c : CycleRecord, (s.lane l).cycle = some c → (s.port p).attached = true →
        .punchOut l c.cue (c.take.getD 0) .broken c.last ∈ ((punchAdvance frame s).port p).priority := by
  obtain ⟨u, hbefore, hview, hlasts, hafter⟩ := lane_turn frame s l
  have hmiss' : u.params.missAllowance < u.misses l := by rwa [misses_of_takeView hview, hbefore.params]
  rw [punchLaneAdvance_fails ((due_of_takeView hview).mpr h) hmiss', checkedPunch_of_takeView hview hbefore.params] at hlasts hafter
  refine ⟨?_, hlasts.reconfirm p ?_, fun c hc hattached => hlasts.notices p _ ?_⟩
  · rw [hafter, takeView_tallyFailure_same, State.punchOf_setPunch_same, State.lane_setPunch_other, lane_of_takeView hview]
  · rw [link_tallyFailure, if_pos rfl]
  · exact mem_priority_postBroken ((congrArg Lane.cycle (lane_of_takeView hview)).trans hc) ((hbefore.attached p).trans hattached)

/-- The turn of a lane that does not go over the miss allowance on the port leaves its link and its queues. -/
theorem port_punchLaneAdvance_of_within (h : s.due frame l p → s.misses l ≤ s.params.missAllowance) :
    (punchLaneAdvance frame s l).link p = s.link p ∧ (punchLaneAdvance frame s l).port p = s.port p := by
  rcases punchLaneAdvance_cases frame s l with he | ⟨q, hq, ⟨-, he⟩ | ⟨hmiss, he⟩⟩
  all_goals rw [he]
  · exact ⟨rfl, rfl⟩
  · exact ⟨rfl, rfl⟩
  · have hqp : q ≠ p := fun e => absurd hmiss (not_lt.mpr (h (e ▸ hq)))
    rw [link_tallyFailure, if_neg hqp, port_tallyFailure, port_postBroken_ne (Ne.symm hqp)]
    exact ⟨rfl, rfl⟩

theorem port_foldl_of_within : ∀ (ls : List LaneId) (s : State), ls.Nodup →
    (∀ k ∈ ls, s.due frame k p → s.misses k ≤ s.params.missAllowance) →
    (ls.foldl (punchLaneAdvance frame) s).link p = s.link p ∧ (ls.foldl (punchLaneAdvance frame) s).port p = s.port p
  | [], _, _, _ => ⟨rfl, rfl⟩
  | k :: ls, s, hnodup, hwithin => by
    obtain ⟨hk, hnodup⟩ := List.nodup_cons.mp hnodup
    obtain ⟨hlink, hport⟩ := port_punchLaneAdvance_of_within (hwithin k List.mem_cons_self)
    obtain ⟨hlink', hport'⟩ := port_foldl_of_within ls (punchLaneAdvance frame s k) hnodup fun j hj => by
      have hview : (punchLaneAdvance frame s k).takeView j = s.takeView j :=
        takeView_punchLaneAdvance_ne fun e => hk (e ▸ hj)
      rw [due_of_takeView hview, misses_of_takeView hview, (tallyProgress_punchLaneAdvance frame s k).params]
      exact hwithin j (List.mem_cons_of_mem k hj)
    exact ⟨hlink'.trans hlink, hport'.trans hport⟩

/-- A port on which no lane goes over the miss allowance keeps its link and its queues. -/
theorem port_punchAdvance_of_within (h : ∀ k : LaneId, s.due frame k p → s.misses k ≤ s.params.missAllowance) :
    (punchAdvance frame s).link p = s.link p ∧ (punchAdvance frame s).port p = s.port p :=
  port_foldl_of_within allLanes s (by decide) fun k _ => h k

end

/-- Settles O24: the least check point, and what the lanes' turns one after another make of each lane and each port. -/
theorem punchUnitChecksTallies : Obligations.PunchUnitChecksTallies := by
  unfold Obligations.PunchUnitChecksTallies
  refine ⟨fun _ _ _ => nextCheckPoint_least, fun a s hreset hevent hoffered => ?_⟩
  have hexec : exec .punchPositionAdvance s = .next (punchAdvance a.frame s.punchTook) := by
    have hlive : exec .punchPositionAdvance s = .next (punchTakesAdvance s) := live_of_released hreset
    rw [hlive, punchTakesAdvance, offeredAdvance_of_event hevent]
    exact congrArg _ (if_pos hoffered)
  have hview (l : LaneId) : s.punchTook.takeView l = s.takeView l := rfl
  refine ⟨_, hexec, (touches_offered s _).andThen (touches_punchAdvance _ _), fun l hnot => ?_, fun l p hdue hmiss => ?_,
    fun l p hdue hmiss => ?_, fun p hwithin => port_punchAdvance_of_within (s := s.punchTook) hwithin⟩
  · obtain ⟨hlane, hpunch⟩ := Prod.mk.inj (takeView_punchAdvance_of_not_due (s := s.punchTook) hnot)
    exact ⟨hpunch, hlane⟩
  · exact Prod.mk.inj (takeView_punchAdvance_within (s := s.punchTook) hdue hmiss)
  · obtain ⟨htake, hlink, hnotice⟩ := punchAdvance_fails (s := s.punchTook) hdue hmiss
    obtain ⟨hlane, hpunch⟩ := Prod.mk.inj htake
    exact ⟨hlane, hpunch, hlink, hnotice⟩

end Sys2Proof.Machine
end

section
/-! ## The Loop Controller's invariant, operation by operation

`State.loopInv` reads the loop record alone. The controller writes it for the active group, or for any group while none is active:
`loopInv_of_written` says once what such a write must meet. The lanes reach it by the releases of their pins (R141). -/

namespace Sys2Proof.Machine

set_option Elab.async false

/-! ### What the invariant reads -/

section
variable {s t : State} {g : GroupId}

theorem loopInv_of_loop (hloop : t.loop = s.loop) (h : s.loopInv) : t.loopInv := by
  unfold State.loopInv
  simp only [group_of_loop hloop, hloop]
  exact h

theorem loopInv_of_touches {xs : List Part} (ht : TouchesOnly xs s t) (h : s.loopInv)
    (hloop : Part.loop ∉ xs := by decide) : t.loopInv := loopInv_of_loop (ht .loop hloop) h

theorem loopInv_ite {p : Prop} [Decidable p] (hs : s.loopInv) (ht : t.loopInv) : (if p then s else t).loopInv := by
  split
  · exact hs
  · exact ht

theorem loopInv_foldl {α : Type} {f : State → α → State} (hf : ∀ {u : State} (x : α), u.loopInv → (f u x).loopInv)
    (xs : List α) {s : State} (h : s.loopInv) : (xs.foldl f s).loopInv := by
  induction xs generalizing s with
  | nil => exact h
  | cons x xs ih => exact ih (hf x h)

/-! ### Writing one group (R133) -/

/-- No group but this one is active. -/
def State.onlyActive (s : State) (g : GroupId) : Prop := ∀ h : GroupId, (s.group h).mode.isActive = true → h = g

theorem onlyActive_of_active (h : s.loopInv) (hg : s.activeGroup = some g) : s.onlyActive g := by
  obtain ⟨hone, -, -⟩ := h
  exact fun k hk => hone k g hk (isActive_of_activeGroup hg)

theorem onlyActive_of_none (hg : s.activeGroup = none) : s.onlyActive g := fun k hk => by
  rw [(activeGroup_eq_none_iff s).mp hg k] at hk
  cases hk

/-- A group that is written alone may be active while no other is; the timer and locate sent must follow its state. -/
theorem loopInv_of_written {x : Group} (hgroup : ∀ h, t.group h = if g = h then x else s.group h) (ho : s.onlyActive g)
    (htimer : t.loop.locateTimer.isRunning = true ↔ x.mode = .locating)
    (hsent : t.loop.locateSent = true → x.mode = .locating) : t.loopInv := by
  have hwritten : t.group g = x := by rw [hgroup, if_pos rfl]
  have hactive (h : GroupId) (hh : (t.group h).mode.isActive = true) : h = g := by
    rw [hgroup] at hh
    split at hh
    · next he => exact he.symm
    · exact ho h hh
  have hlocating : (∃ h, (t.group h).mode = .locating) ↔ x.mode = .locating := by
    refine ⟨fun ⟨h, hh⟩ => ?_, fun hx => ⟨g, by rw [hwritten, hx]⟩⟩
    obtain rfl := hactive h (by rw [hh]; rfl)
    rwa [hwritten] at hh
  refine ⟨fun h k hh hk => (hactive h hh).trans (hactive k hk).symm, ?_, ?_⟩
  · rw [hlocating]
    exact htimer
  · rw [hlocating]
    exact hsent

theorem onlyActive_setGroup {x : Group} (ho : s.onlyActive g) : (s.setGroup g x).onlyActive g := fun h hh => by
  rw [State.group_setGroup] at hh
  split at hh
  · next he => exact he.symm
  · exact ho h hh

theorem onlyActive_of_loop (hloop : t.loop = s.loop) (ho : s.onlyActive g) : t.onlyActive g := fun h hh =>
  ho h (by rwa [group_of_loop hloop] at hh)

/-! ### The controller's operations (R136 to R148) -/

theorem loopInv_loopChange {m : LoopMode} (c : LoopCause) (hm : m ≠ .locating) (ho : s.onlyActive g) :
    (loopChange g m c s).loopInv := by
  refine loopInv_of_written (x := { s.group g with mode := m, cause := c }) (fun h => ?_) ho ?_ ?_
  · exact State.group_setGroup s g h _
  · exact iff_of_false Bool.false_ne_true hm
  · exact fun hf => absurd hf Bool.false_ne_true

theorem loopInv_loopHalt {m : LoopMode} (c : LoopCause) (hm : m ≠ .locating) (ho : s.onlyActive g) :
    (loopHalt g m c s).loopInv :=
  loopInv_loopChange c hm (onlyActive_of_loop (touches_postToTransport g _ s .loop (by decide)) ho)

/-- A group that goes LOCATING over a span (R136, items 3 to 5). -/
def Group.located (x : Group) (c : LoopCause) (sp : LoopSpan) : Group :=
  { x with mode := .locating, cause := c, reel := some sp.reel, spanStart := some sp.first, spanEnd := some sp.last }

theorem loopInv_loopLocate (c : LoopCause) (sp : LoopSpan) (ho : s.onlyActive g) : (loopLocate g c sp s).loopInv := by
  refine loopInv_of_written (x := (s.group g).located c sp) (fun h => ?_) ho (iff_of_true rfl rfl)
    (fun hf => absurd hf Bool.false_ne_true)
  have hloop (n : PriorityNotice) (x : Group) : (postToTransport g n (s.setGroup g x)).group h = (s.setGroup g x).group h :=
    group_of_loop (touches_postToTransport g n _ .loop (by decide)) h
  exact (hloop _ _).trans (State.group_setGroup s g h _)

theorem loopInv_passEnd (ho : s.onlyActive g) : (passEnd g s).loopInv := by
  have hcounted (n : Nat) := onlyActive_setGroup (x := { s.group g with passes := n }) ho
  unfold passEnd
  dsimp only
  refine loopInv_ite (loopInv_loopHalt _ (by decide) (hcounted _)) ?_
  split
  · exact loopInv_loopHalt _ (by decide) (hcounted _)
  · exact loopInv_ite (loopInv_loopLocate _ _ (hcounted _)) (loopInv_loopHalt _ (by decide) (hcounted _))

theorem loopInv_afterRelease (n : Nat) (h : s.loopInv) : (afterRelease n s).loopInv := by
  unfold afterRelease
  split
  · exact h
  · next hg => exact loopInv_ite (loopInv_passEnd (onlyActive_of_active h hg)) h

theorem loopInv_loopTakeLock (q : Position) (h : s.loopInv) : (loopTakeLock q s).loopInv := by
  unfold loopTakeLock
  split
  · exact h
  · next hg => exact loopInv_ite (loopInv_loopChange _ (by decide) (onlyActive_of_active h hg)) h

theorem loopInv_loopTakeFrame (p : Nat) (h : s.loopInv) : (loopTakeFrame p s).loopInv := by
  unfold loopTakeFrame
  split
  · exact h
  · next hg =>
    have ho := onlyActive_of_active h hg
    exact loopInv_ite (loopInv_ite (loopInv_loopChange _ (by decide) ho) (loopInv_passEnd ho)) h

theorem loopInv_loopTakeLost (h : s.loopInv) : (loopTakeLost s).loopInv := by
  unfold loopTakeLost
  split
  · exact h
  · next hg =>
    have ho := onlyActive_of_active h hg
    split
    · exact loopInv_loopHalt _ (by decide) ho
    · exact loopInv_passEnd ho
    all_goals exact h

theorem loopInv_loopTakeAdvance (a : Advance) (h : s.loopInv) : (loopTakeAdvance a s).loopInv := by
  unfold loopTakeAdvance
  split
  · exact loopInv_loopTakeFrame _ h
  · exact loopInv_loopTakeFrame _ (loopInv_loopTakeLock _ h)

theorem loopInv_loopStopActive (c : LoopCause) (h : s.loopInv) : (loopStopActive c s).loopInv := by
  unfold loopStopActive
  split
  · exact h
  · next hg => exact loopInv_loopHalt _ (by decide) (onlyActive_of_active h hg)

theorem loopInv_loopDetach (p : PortId) (h : s.loopInv) : (loopDetach p s).loopInv := by
  unfold loopDetach
  split
  · exact h
  · next hg => exact loopInv_ite (loopInv_loopChange _ (by decide) (onlyActive_of_active h hg)) h

theorem loopInv_locateExpiry (h : s.loopInv) : (locateExpiry s).loopInv := by
  unfold locateExpiry
  split
  · exact h
  · next hg => exact loopInv_ite (loopInv_loopHalt _ (by decide) (onlyActive_of_active h hg)) h

/-- Locate sent becomes YES only while the group is LOCATING (R137). -/
theorem loopInv_loopLocateTaken (k : GroupId) (h : s.loopInv) : (loopLocateTaken k s).loopInv := by
  unfold loopLocateTaken
  split
  · next hk =>
    obtain ⟨hone, htimer, -⟩ := h
    exact ⟨hone, htimer, fun _ => ⟨k, hk.2⟩⟩
  · exact h

theorem loopInv_startLoop (o : LoopOrder) (h : s.loopInv) : (startLoop o s).1.loopInv := by
  unfold startLoop
  split
  · exact h
  · next hnone =>
    have ho : s.onlyActive o.group := onlyActive_of_none (by simpa using hnone)
    split
    · exact h
    · split
      · exact h
      · split
        · exact loopInv_loopLocate _ _ (onlyActive_setGroup ho)
        · exact h

theorem loopInv_stopGroup (k : GroupId) (h : s.loopInv) : (stopGroup k s).loopInv :=
  loopInv_ite (loopInv_loopStopActive _ h) h

end

/-! ### The lanes (R67 to R91): they reach the controller by the releases of their pins -/

section
variable {s : State} {l : LaneId}

theorem loopInv_releaseClaim (h : s.loopInv) : (releaseClaim l s).loopInv := by
  unfold releaseClaim
  split
  · exact h
  · exact loopInv_afterRelease _ (loopInv_of_touches (touches_setLane s l _) h)

theorem loopInv_takeEndClaim (h : s.loopInv) : (takeEndClaim l s).loopInv := by
  unfold takeEndClaim
  split
  · exact h
  · exact loopInv_afterRelease _ (loopInv_of_touches (touches_setLane _ l _) (loopInv_of_touches (touches_setRecords s _) h))

theorem loopInv_letGo (m : LaneMode) (h : s.loopInv) : (letGo l m s).loopInv :=
  loopInv_of_touches (touches_setLane _ l _) (loopInv_releaseClaim h)

theorem loopInv_switchCue (n : Nat) (c : CueRecord) (p : Nat) (h : s.loopInv) : (switchCue l n c p s).loopInv :=
  loopInv_of_touches ((touches_setLane _ l _).andThen (touches_post _ _ _) (zs := [.lanes, .ports]))
    (loopInv_afterRelease n (loopInv_of_touches (touches_setLane s l _) h))

theorem loopInv_rearm (r p : Nat) (h : s.loopInv) : (rearm l r p s).loopInv := by
  unfold rearm
  split
  · exact h
  · split
    · exact loopInv_letGo _ h
    · exact loopInv_ite h (loopInv_switchCue _ _ p h)

theorem loopInv_falseStart (h : s.loopInv) : (falseStart l s).loopInv :=
  loopInv_of_touches (touches_setLane _ l _) (loopInv_releaseClaim (loopInv_of_touches (touches_handOff s _) h))

theorem loopInv_finishCycle (e : CycleStop) (x : PunchEnd) (q : Option Position) (c : CycleRecord) (h : s.loopInv) :
    (finishCycle l e x q c s).loopInv := by
  have hclaim : (takeEndClaim l (journalWrite (c.entry l e x) s).1).loopInv :=
    loopInv_takeEndClaim (loopInv_of_touches (touches_journalWrite _ s) h)
  unfold finishCycle
  dsimp only
  split
  · exact loopInv_of_loop rfl hclaim
  · exact loopInv_ite (loopInv_of_touches (touches_armingAttempt l _ _ _) (loopInv_of_loop rfl hclaim))
      (loopInv_of_loop rfl hclaim)

theorem loopInv_endCycle (e : CycleStop) (told : Bool) (q : Option Position) (h : s.loopInv) :
    (endCycle l e told q s).loopInv := by
  have hended (c : CycleRecord) : (endMarks l told (punchEnd l c e.reason s)).loopInv :=
    loopInv_of_touches (touches_endMarks l told _) (loopInv_of_touches (touches_punchEnd l c _ s) h)
  unfold endCycle
  split
  · exact h
  · dsimp only
    split
    · exact hended _
    · exact loopInv_finishCycle e _ q _ (hended _)

theorem loopInv_tailYieldTest (a : Advance) (h : s.loopInv) : (tailYieldTest l a s).loopInv := by
  unfold tailYieldTest
  refine loopInv_ite ?_ h
  split
  · exact h
  · exact loopInv_ite (loopInv_endCycle _ _ _ h) h

theorem loopInv_armedAdvance (a : Advance) (h : s.loopInv) : (armedAdvance l a s).loopInv := by
  have hrearm : (if s.table.confirmed then rearm l a.reel a.frame s else s).loopInv := loopInv_ite (loopInv_rearm _ _ h) h
  unfold armedAdvance
  dsimp only
  split
  · exact loopInv_ite (loopInv_of_touches (touches_enterLeadin l _ a _) hrearm) hrearm
  · exact hrearm

theorem loopInv_leadinAdvance (a : Advance) (h : s.loopInv) : (leadinAdvance l a s).loopInv := by
  have hbegin : (takeBeginTest l a s).loopInv := loopInv_of_touches (touches_takeBeginTest l a s) h
  unfold leadinAdvance
  dsimp only
  split
  · exact hbegin
  · exact loopInv_ite (loopInv_of_touches (touches_enterTake l _ a _) hbegin) hbegin

theorem loopInv_takeAdvance (a : Advance) (h : s.loopInv) : (takeAdvance l a s).loopInv := by
  have hexit : (s.handOff (.stop l true)).loopInv := loopInv_of_touches (touches_handOff s _) h
  unfold takeAdvance
  split
  · exact h
  · refine loopInv_ite (loopInv_ite (loopInv_endCycle _ _ _ hexit) ?_) h
    exact loopInv_tailYieldTest a (loopInv_of_touches (touches_setLane _ l _) hexit)

theorem loopInv_tailAdvance (a : Advance) (h : s.loopInv) : (tailAdvance l a s).loopInv := by
  unfold tailAdvance
  split
  · exact h
  · exact loopInv_ite (loopInv_endCycle _ _ _ h) (loopInv_tailYieldTest a h)

theorem loopInv_laneAdvance (a : Advance) (h : s.loopInv) : (laneAdvance l a s).loopInv := by
  have htouched : (modCycle l (fun r => r.touch a) s).loopInv := loopInv_of_touches (touches_modCycle l _ s) h
  unfold laneAdvance
  split
  · exact h
  · exact loopInv_of_touches (touches_armingAttempt l _ _ s) h
  · exact loopInv_armedAdvance a htouched
  · exact loopInv_leadinAdvance a htouched
  · exact loopInv_takeAdvance a htouched
  · exact loopInv_tailAdvance a htouched

theorem loopInv_laneLost (h : s.loopInv) : (laneLost l s).loopInv := by
  unfold laneLost
  split
  · exact h
  · exact h
  · exact loopInv_letGo _ h
  · exact loopInv_ite (loopInv_endCycle _ _ _ h) (loopInv_falseStart h)
  · exact loopInv_endCycle _ _ _ h
  · exact loopInv_endCycle _ _ _ h

theorem loopInv_laneCancel (h : s.loopInv) : (laneCancel l s).loopInv := by
  unfold laneCancel
  split
  · exact h
  · exact h
  · exact loopInv_letGo _ h
  · exact loopInv_ite (loopInv_endCycle _ _ _ h) (loopInv_falseStart h)
  · exact loopInv_endCycle _ _ _ h
  · exact loopInv_endCycle _ _ _ h

theorem loopInv_laneDisable (h : s.loopInv) : (laneDisable l s).loopInv := by
  unfold laneDisable
  split
  · exact h
  · exact loopInv_of_touches (touches_setLane s l _) h
  · exact loopInv_letGo _ h
  all_goals exact loopInv_of_touches (touches_setLane s l _) h

end

end Sys2Proof.Machine
end

section
/-! ## Every step keeps at most one active group (O57) -/

namespace Sys2Proof.Machine

set_option Elab.async false

section
variable {s : State}

/-- CLEAR STAGE stops the active group and cancels the lanes; the rest of it leaves the loop groups alone (R87, R148). -/
theorem loopInv_clearStage (h : s.loopInv) : (clearStage s).loopInv := by
  have hstopped : (stageStopped s).loopInv := loopInv_loopStopActive _ (loopInv_of_touches (touches_handoffs s []) h)
  rw [clearStage_eq]
  refine loopInv_of_loop ?_ (loopInv_foldl (fun l hu => loopInv_laneCancel (l := l) hu) allLanes hstopped)
  exact touches_clearRest _ .loop (by decide)

/-! ### The tracker's events (R42 to R59) -/

theorem loopInv_laneTakesAdvance (l : LaneId) (h : s.loopInv) : (laneTakesAdvance l s).loopInv := by
  unfold laneTakesAdvance
  split
  · exact h
  · exact loopInv_ite (loopInv_laneAdvance _ (loopInv_of_touches (touches_offered s _) h)) h

theorem loopInv_laneTakesLost (l : LaneId) (h : s.loopInv) : (laneTakesLost l s).loopInv :=
  loopInv_ite (loopInv_laneLost (loopInv_of_touches (touches_offered s _) h)) h

theorem loopInv_marksTakeAdvance (h : s.loopInv) : (marksTakeAdvance s).loopInv := by
  unfold marksTakeAdvance
  split
  · exact h
  · exact loopInv_ite (loopInv_of_touches (touches_marksAdvance _ _) (loopInv_of_touches (touches_offered s _) h)) h

theorem loopInv_punchTakesAdvance (h : s.loopInv) : (punchTakesAdvance s).loopInv := by
  unfold punchTakesAdvance
  split
  · exact h
  · exact loopInv_ite (loopInv_of_touches (touches_punchAdvance _ _) (loopInv_of_touches (touches_offered s _) h)) h

theorem loopInv_loopTakesAdvance (h : s.loopInv) : (loopTakesAdvance s).loopInv := by
  unfold loopTakesAdvance
  split
  · exact h
  · exact loopInv_ite (loopInv_loopTakeAdvance _ (loopInv_of_touches (touches_offered s _) h)) h

theorem loopInv_loopTakesRelock (h : s.loopInv) : (loopTakesRelock s).loopInv := by
  unfold loopTakesRelock
  split
  · exact loopInv_ite (loopInv_loopTakeLock _ (loopInv_of_touches (touches_offered s _) h)) h
  all_goals exact h

theorem loopInv_loopTakesLock (h : s.loopInv) : (loopTakesLock s).loopInv :=
  loopInv_ite (loopInv_loopTakesAdvance (loopInv_loopTakesRelock h)) h

theorem loopInv_loopTakesLost (h : s.loopInv) : (loopTakesLost s).loopInv :=
  loopInv_ite (loopInv_loopTakeLost (loopInv_of_touches (touches_offered s _) h)) h

theorem loopInv_settle (h : s.loopInv) : (settle s).loopInv := by
  have hlanes : (allLanes.foldl laneTakes s).loopInv :=
    loopInv_foldl (fun l hu => loopInv_laneTakesLost l (loopInv_laneTakesAdvance l hu)) _ h
  have hmarks := loopInv_marksTakeAdvance (loopInv_of_touches (touches_runHandoffs _) hlanes)
  exact loopInv_loopTakesLost (loopInv_loopTakesRelock (loopInv_loopTakesAdvance (loopInv_punchTakesAdvance hmarks)))

theorem loopInv_trackerApply (x : TrackerStep) (h : s.loopInv) : (trackerApply x s).loopInv := by
  unfold trackerApply
  split
  · exact loopInv_of_touches (touches_trackerChange x s) h
  · exact loopInv_of_touches ((touches_trackerChange x _).andThen (touches_offered _ _) (zs := [.tracker, .ports, .offered]))
      (loopInv_settle h)

theorem loopInv_posinByte (b : Byte) (h : s.loopInv) : (posinByte s b).loopInv := by
  have hrec (r : Option (List Byte)) : (s.setReceiver r).loopInv := loopInv_of_touches (touches_setReceiver s r) h
  unfold posinByte
  split
  · exact loopInv_ite (hrec _) h
  · refine loopInv_ite (hrec _) ?_
    unfold takeWord
    split
    · exact loopInv_of_touches (touches_countBadWord _) (hrec none)
    · exact loopInv_trackerApply _ (hrec none)

theorem loopInv_waitExpiry (h : s.loopInv) : (waitExpiry s).loopInv := loopInv_ite (loopInv_trackerApply _ h) h

theorem loopInv_stepExpiry (h : s.loopInv) : (stepExpiry s).loopInv := loopInv_ite (loopInv_trackerApply _ h) h

/-- A millisecond counts the locate timer down but neither stops nor starts it. -/
theorem loopInv_countDown (h : s.loopInv) : (countDown s).loopInv := by
  obtain ⟨hone, htimer, hsent⟩ := h
  exact ⟨hone, (isRunning_tick s.loop.locateTimer ▸ htimer :), hsent⟩

/-! ### Lines and ports (R162 to R166, R174 to R183) -/

theorem loopInv_acceptChange (i : LineId) (h : s.loopInv) : (acceptChange i s).loopInv := by
  have hactivate (x : InputLine) {u : State} (hu : u.loopInv) : (activate i x u).loopInv := by
    unfold activate
    split
    · exact hu
    · split
      · exact loopInv_of_touches (touches_setLane u _ _) hu
      · exact hu
    · split
      · exact loopInv_of_touches (touches_lines u _) hu
      · exact hu
    · exact loopInv_of_touches (touches_circleLast _ i u) hu
    · exact loopInv_loopStopActive _ hu
  have hset := fun x => loopInv_of_touches (touches_setInput s i x) h
  unfold acceptChange
  exact loopInv_of_touches (touches_post _ _ _) (loopInv_ite (hactivate _ (hset _)) (hset _))

theorem loopInv_sampleInput (i : LineId) (v : Level) (h : s.loopInv) : (sampleInput i v s).loopInv :=
  loopInv_ite (loopInv_of_touches (touches_setInput s i _) h)
    (loopInv_ite (loopInv_of_touches (touches_setInput s i _) h) (loopInv_acceptChange i h))

theorem loopInv_detachPort (p : PortId) (h : s.loopInv) : (detachPort p s).loopInv := by
  refine loopInv_ite (loopInv_loopDetach p ?_) h
  exact loopInv_of_loop (loop_before_loopDetach p s) h

theorem loopInv_acceptPresent (p : PortId) (v : Level) (h : s.loopInv) : (acceptPresent p v s).loopInv := by
  cases v with
  | high => exact loopInv_of_touches ((touches_setPort s p _).andThen (touches_attachPort p _) (zs := [.links, .ports])) h
  | low => exact loopInv_detachPort p (loopInv_of_touches (touches_setPort s p _) h)

theorem loopInv_samplePresent (p : PortId) (v : Level) (h : s.loopInv) : (samplePresent p v s).loopInv :=
  loopInv_ite (loopInv_of_touches (touches_setPort s p _) h)
    (loopInv_ite (loopInv_of_touches (touches_setPort s p _) h) (loopInv_acceptPresent p v h))

theorem loopInv_noticeTaken (n : PriorityNotice) (h : s.loopInv) : (noticeTaken n s).loopInv := by
  cases n with
  | punchIn l => exact loopInv_of_touches (touches_punchInTaken l s) h
  | locate g => exact loopInv_loopLocateTaken g h
  | punchOut | halt => exact h

theorem loopInv_transmitNext (p : PortId) (h : s.loopInv) : (transmitNext p s).loopInv := by
  have hset := fun x => loopInv_of_touches (touches_setPort s p x) h
  unfold transmitNext
  dsimp only
  refine loopInv_ite ?_ h
  split
  · exact loopInv_noticeTaken _ (hset _)
  · exact hset _
  · exact h

end

/-! ### Requests (R178) -/

/-- The kinds whose blocks start or stop a group, or let go of a lane's pin (R70, R86, R87, R135, R144). -/
def Request.movesLoop : Request → Bool
  | .disableLane | .cancelLane | .clearStage | .startLoop | .stopLoop => true
  | _ => false

/-- Every other kind's block leaves the loop groups alone. -/
theorem loop_block {k : Request} (hk : k.movesLoop = false) (p : PortId) (body : List Byte) (s : State) :
    (k.block p body s).1.loop = s.loop := by
  cases k with
  | disableLane | cancelLane | clearStage | startLoop | stopLoop => cases hk
  | identify | readParameters | tableStatus | trackerStatus | readJournal | readLines | fetchNotices | reconfirm => rfl
  | portStatus | readProfile | readLane | readLoop | readCue | nextCue | insertCue | deleteCue | holdCue | clearTable | setProfile
  | ready | trimJournal | requestGrant =>
    dsimp only [Request.block, answerPortStatus, answerReadProfile, answerReadLane, answerReadLoop, answerReadCue, answerNextCue,
      answerInsert, answerDelete, answerHold, answerClearTable, answerSetProfile, answerReady, answerTrim, answerRequestGrant]
    repeat' split
    all_goals rfl
  | setParameters =>
    rcases answerSetParameters_cases body s with he | ⟨-, -, he⟩
    all_goals exact (congrArg State.loop he :)
  | configurePort =>
    dsimp only [Request.block, answerConfigurePort]
    split
    · split
      · rfl
      · exact touches_writeSettings p _ _ s .loop (by decide)
    · rfl
  | releaseGrant =>
    dsimp only [Request.block, answerReleaseGrant]
    split
    · exact touches_releaseByHolder p s .loop (by decide)
    · split <;> rfl
  | amendCue =>
    dsimp only [Request.block, answerAmend]
    split
    · rfl
    · split
      · rfl
      · exact touches_amendFound _ _ s .loop (by decide)
  | setLane =>
    dsimp only [Request.block, answerSetLane]
    split
    · split
      · exact touches_writeRouting _ _ s .loop (by decide)
      · rfl
    · rfl
  | enableLane =>
    dsimp only [Request.block, answerEnable]
    split
    · rfl
    · exact touches_laneEnable _ s .loop (by decide)
  | tally =>
    dsimp only [Request.block, answerTally]
    split
    · rfl
    · exact touches_tallyLane p _ s .loop (by decide)
  | circleTake =>
    dsimp only [Request.block, answerCircle]
    split
    · rfl
    · split
      · rfl
      · exact touches_circle _ _ s .loop (by decide)
  | uncircleTake =>
    dsimp only [Request.block, answerUncircle]
    split
    · rfl
    · split
      · rfl
      · exact touches_uncircle _ _ s .loop (by decide)
  | setLine =>
    dsimp only [Request.block, answerSetLine]
    split
    · rfl
    · exact touches_setInputFrom _ body s .loop (by decide)
    · exact touches_setOutputFrom _ body s .loop (by decide)

theorem loopInv_block (k : Request) (p : PortId) (body : List Byte) {s : State} (h : s.loopInv) :
    (k.block p body s).1.loopInv := by
  cases hk : k.movesLoop with
  | false => exact loopInv_of_loop (loop_block hk p body s) h
  | true =>
    cases k with
    | disableLane =>
      dsimp only [Request.block, answerDisable]
      split
      · exact h
      · exact loopInv_laneDisable h
    | cancelLane =>
      dsimp only [Request.block, answerCancel]
      split
      · exact h
      · exact loopInv_laneCancel h
    | clearStage => exact loopInv_clearStage h
    | startLoop =>
      dsimp only [Request.block, answerStartLoop]
      split
      · exact h
      · exact loopInv_startLoop _ h
    | stopLoop =>
      dsimp only [Request.block, answerStopLoop]
      split
      · exact h
      · exact loopInv_stopGroup _ h
    | _ => cases hk

/-! ### The step -/

/-- Every operation of a step keeps at most one active group and the locate timer with it. -/
theorem kept_loopInv : Kept State.loopInv where
  reset := loopInv_deviceReset
  pending _ h := h
  countDown := loopInv_countDown
  request k p body := takeRequest_keeps (fun ht h => loopInv_of_touches ht h) k p body (loopInv_block k p body)
  posinByte := loopInv_posinByte
  abandonWord := loopInv_of_touches (touches_abandonWord _)
  waitExpiry := loopInv_waitExpiry
  stepExpiry := loopInv_stepExpiry
  idleExpiry := loopInv_of_touches (touches_idleExpiry _)
  locateExpiry := loopInv_locateExpiry
  laneTakesAdvance := loopInv_laneTakesAdvance
  laneTakesLost := loopInv_laneTakesLost
  punchTakesAdvance := loopInv_punchTakesAdvance
  takeStartHandoff l := loopInv_of_touches (touches_takeStartHandoff l _)
  takeEndHandoff l := loopInv_of_touches (touches_takeEndHandoff l _)
  marksTakeAdvance := loopInv_marksTakeAdvance
  sendOverlayWord := loopInv_of_touches (touches_sendOverlayWord _)
  loopTakesAdvance := loopInv_loopTakesAdvance
  loopTakesLock := loopInv_loopTakesLock
  loopTakesLost := loopInv_loopTakesLost
  acceptChange := loopInv_acceptChange
  sampleInput := loopInv_sampleInput
  attachPort p := loopInv_of_touches (touches_attachPort p _)
  detachPort := loopInv_detachPort
  samplePresent := loopInv_samplePresent
  hearAll p cs := loopInv_of_touches (touches_hearAll p cs _)
  silence p := loopInv_of_touches (touches_setPort _ p _)
  takeFrameError p := loopInv_of_touches (touches_takeFrameError p _)
  takeUnknown p kind body := loopInv_of_touches (touches_takeUnknown p kind body _)
  transmitNext := loopInv_transmitNext
  transmitEnd p := loopInv_of_touches (touches_transmitEnd p _)

/-- Settles O57: each operation of a step keeps the invariant. -/
theorem stepKeepsTheLoop : Obligations.StepKeepsTheLoop := by
  unfold Obligations.StepKeepsTheLoop
  exact fun _ _ => kept_loopInv.step

end Sys2Proof.Machine
end

section
/-! ## What the Loop Controller makes of the state (R133 to R146)

Every change of a group that reaches its transport writes one group, the locate timer and locate sent, and posts two notices:
`haltedAs` and `locatedAs` are the states it brings about. -/

namespace Sys2Proof.Machine

set_option Elab.async false

/-! ### The members and their span (R134, R136, R142) -/

/-- A fold that keeps at each step the one of two numbers that comes first in an order ends at the first number of the list. -/
theorem foldl_extreme {α : Type} {op : Nat → Nat → Nat} {r : Nat → Nat → Prop} (hrefl : ∀ m, r m m)
    (htrans : ∀ {m n k}, r m n → r n k → r m k) (hleft : ∀ m n, r (op m n) m) (hright : ∀ m n, r (op m n) n)
    (hpick : ∀ m n, op m n = m ∨ op m n = n) (f : α → Nat) (c : α) (xs : List α) :
    (∀ d ∈ c :: xs, r (xs.foldl (fun n x => op n (f x)) (f c)) (f d)) ∧
      ∃ d ∈ c :: xs, f d = xs.foldl (fun n x => op n (f x)) (f c) := by
  induction xs generalizing c with
  | nil => exact ⟨by simpa using hrefl (f c), c, List.mem_cons_self, rfl⟩
  | cons x xs ih =>
    rw [List.foldl_cons]
    rcases hpick (f c) (f x) with he | he
    · obtain ⟨hbound, d, hd, hat⟩ := ih c
      have hc := hbound c List.mem_cons_self
      have hx := htrans hc (he ▸ hright (f c) (f x))
      rw [he]
      exact ⟨by grind, d, by grind, hat⟩
    · obtain ⟨hbound, d, hd, hat⟩ := ih x
      have hx := hbound x List.mem_cons_self
      have hc := htrans hx (he ▸ hleft (f c) (f x))
      rw [he]
      exact ⟨by grind, d, by grind, hat⟩

/-- The span of some members runs from their least lead-in start to their greatest cycle end (R136, item 4). -/
theorem spanOf_cons (s : State) (c : CueRecord) (rest : List CueRecord) :
    ∃ sp : LoopSpan, s.spanOf (c :: rest) = some sp ∧ sp.reel = c.reel ∧
      (∀ d ∈ c :: rest, sp.first ≤ (s.frames d).leadIn ∧ (s.frames d).cycleEnd ≤ sp.last) ∧
      (∃ d ∈ c :: rest, (s.frames d).leadIn = sp.first) ∧ ∃ d ∈ c :: rest, (s.frames d).cycleEnd = sp.last := by
  obtain ⟨hfirst, hleast⟩ := foldl_extreme (op := min) (r := (· ≤ ·)) Nat.le_refl Nat.le_trans Nat.min_le_left Nat.min_le_right
    (fun m n => by omega) (fun x => (s.frames x).leadIn) c rest
  obtain ⟨hlast, hgreatest⟩ := foldl_extreme (op := max) (r := (· ≥ ·)) Nat.le_refl (fun h h' => Nat.le_trans h' h)
    Nat.le_max_left Nat.le_max_right (fun m n => by omega) (fun x => (s.frames x).cycleEnd) c rest
  exact ⟨_, rfl, rfl, fun d hd => ⟨hfirst d hd, hlast d hd⟩, hleast, hgreatest⟩

/-- Members on two reels have a span as well: the test of the reels is its own (R135, R142). -/
theorem exists_spanOf {s : State} {cs : List CueRecord} (h : ∃ c ∈ cs, ∃ d ∈ cs, c.reel ≠ d.reel) :
    ∃ sp : LoopSpan, s.spanOf cs = some sp := by
  obtain ⟨c, hc, -⟩ := h
  cases cs with
  | nil => cases hc
  | cons x xs => exact ⟨_, rfl⟩

theorem oneReel_cons (c : CueRecord) (rest : List CueRecord) :
    oneReel (c :: rest) = true ↔ ∀ d ∈ rest, d.reel = c.reel := by
  simp [oneReel]

theorem oneReel_eq_false {cs : List CueRecord} (h : ∃ c ∈ cs, ∃ d ∈ cs, c.reel ≠ d.reel) : oneReel cs = false := by
  obtain ⟨c, hc, d, hd, hne⟩ := h
  cases cs with
  | nil => cases hc
  | cons x xs =>
    rw [← Bool.not_eq_true, oneReel_cons]
    intro hall
    have hx : ∀ y ∈ x :: xs, y.reel = x.reel := List.forall_mem_cons.mpr ⟨rfl, hall⟩
    exact hne ((hx c hc).trans (hx d hd).symm)

section
variable {s : State} {g : GroupId} {q : PortId}

theorem armableMembers_eq (s : State) (g : GroupId) :
    s.armableMembers g = s.table.records.filter fun c =>
      c.group == some g && !c.hold && decide (c.takeCount < c.takeLimit) && (s.lane c.lane).mode != .off &&
        !(s.lane c.lane).closing := by
  simp only [State.armableMembers, State.armable, Bool.and_assoc]

theorem lanePinsMember_iff (s : State) (g : GroupId) (l : LaneId) :
    s.lanePinsMember g l = true ↔
      ∃ (n : Nat) (c : CueRecord), (s.lane l).pinned = some n ∧ s.record n = some c ∧ c.group = some g := by
  unfold State.lanePinsMember
  split
  · next hp => simp [hp]
  · next n hp =>
    split
    · next hr => simp [hp, hr]
    · next c hr => simp [hp, hr]

theorem anyMemberPinned_iff (s : State) (g : GroupId) :
    s.anyMemberPinned g = true ↔
      ∃ (l : LaneId) (n : Nat) (c : CueRecord), (s.lane l).pinned = some n ∧ s.record n = some c ∧ c.group = some g := by
  simp only [State.anyMemberPinned, any_allLanes, lanePinsMember_iff]

/-! ### Halting and locating (R133, R136, R137, R146) -/

/-- The group is written in a state in which its transport stops: HALT TRANSPORT, the timer and locate sent, LOOP STATE. -/
def haltedAs (g : GroupId) (q : PortId) (x : Group) (s : State) : State :=
  post .loop (.loopState g x.mode x.passes x.cause none)
    { postTransport q (.halt g x.cause) s with
      loop := { groups := s.loop.groups.set g x, locateTimer := .stopped, locateSent := false } }

/-- The group is written LOCATING: LOCATE AND ROLL, the timer at its full length, LOOP STATE. -/
def locatedAs (g : GroupId) (q : PortId) (x : Group) (s : State) : State :=
  post .loop (.loopState g .locating x.passes x.cause (some { reel := x.reel.getD 0, frame := x.locateFrame }))
    { postTransport q (.locate g (x.reel.getD 0) x.locateFrame (x.passes + 1)) s with
      loop :=
        { groups := s.loop.groups.set g x, locateTimer := .running (1000 * s.params.locateTimeout), locateSent := false } }

/-- A transport notice and the loop record are written apart. -/
theorem postTransport_loop (n : PriorityNotice) (x : Loop) :
    postTransport q n { s with loop := x } = { postTransport q n s with loop := x } := by
  have hport : State.port { s with loop := x } q = s.port q := rfl
  unfold postTransport
  rw [hport]
  split <;> rfl

theorem loopHalt_setGroup {m : LoopMode} {x : Group} (c : LoopCause) (hm : m ≠ .locating) (hport : x.port = some q) :
    loopHalt g m c (s.setGroup g x) = haltedAs g q { x with mode := m, cause := c } s := by
  have hwritten : (postTransport q (.halt g c) (s.setGroup g x)) =
      { postTransport q (.halt g c) s with loop := (s.setGroup g x).loop } := postTransport_loop _ _
  rw [loopHalt, postToTransport_of_port _ (by rw [State.group_setGroup_same, hport]), loopChange_eq _ _ hm, hwritten]
  have hgroup : State.group { postTransport q (.halt g c) s with loop := (s.setGroup g x).loop } g = x :=
    State.group_setGroup_same s g x
  rw [hgroup, haltedAs]
  simp [State.setGroup]

theorem setGroup_self (s : State) (g : GroupId) : s.setGroup g (s.group g) = s := by
  simp [State.setGroup, State.group]

theorem loopHalt_eq_haltedAs {m : LoopMode} (c : LoopCause) (hm : m ≠ .locating) (hport : (s.group g).port = some q) :
    loopHalt g m c s = haltedAs g q { s.group g with mode := m, cause := c } s := by
  rw [← loopHalt_setGroup c hm hport, setGroup_self]

theorem loopLocate_setGroup {x : Group} (c : LoopCause) (sp : LoopSpan) (hport : x.port = some q) :
    loopLocate g c sp (s.setGroup g x) = locatedAs g q (x.located c sp) s := by
  unfold loopLocate
  dsimp only
  rw [State.group_setGroup_same, State.setGroup_twice, postToTransport_of_port (q := q) _ (by rw [State.group_setGroup_same, hport])]
  rw [State.setGroup, postTransport_loop]
  have hparams (n : PriorityNotice) : (postTransport q n s).params = s.params := touches_postTransport q n s .params (by decide)
  simp [locatedAs, Group.notice, Group.located, seconds, hparams, Group.locateFrame]

theorem group_locatedAs (x : Group) : (locatedAs g q x s).group g = x :=
  State.group_setGroup_same s g x

/-! ### The end of a pass (R142) -/

/-- The group with its pass counted, at most 99 (R142, item 1). -/
def Group.counted (x : Group) : Group := { x with passes := min 99 (x.passes + 1) }

/-- The count as the model steps it. -/
theorem counted_passes {x : Group} (hle : x.passes ≤ 99) :
    (if x.passes < 99 then x.passes + 1 else x.passes) = x.counted.passes := by
  show _ = min 99 _
  split <;> omega

section
variable (hport : (s.group g).port = some q) (hle : (s.group g).passes ≤ 99)
include hport hle

theorem passEnd_of_limit (h0 : (s.group g).limit ≠ 0) (hn : (s.group g).counted.passes = (s.group g).limit) :
    passEnd g s = haltedAs g q { (s.group g).counted with mode := .done, cause := .limit } s := by
  unfold passEnd
  dsimp only
  rw [counted_passes hle, if_pos ⟨h0, hn⟩]
  exact loopHalt_setGroup (x := (s.group g).counted) _ (by decide) hport

/-- Below its limit the group's course goes by the span of its armable members. -/
theorem passEnd_below_limit (hgo : (s.group g).limit = 0 ∨ (s.group g).counted.passes ≠ (s.group g).limit) :
    (s.spanOf (s.armableMembers g) = none →
      passEnd g s = haltedAs g q { (s.group g).counted with mode := .done, cause := .exhausted } s) ∧
      ∀ sp : LoopSpan, s.spanOf (s.armableMembers g) = some sp →
        (oneReel (s.armableMembers g) = false →
          passEnd g s = haltedAs g q { (s.group g).counted with mode := .failed, cause := .reels } s) ∧
        (oneReel (s.armableMembers g) = true →
          passEnd g s = locatedAs g q ((s.group g).counted.located .pass sp) s) := by
  have hlimit : ¬((s.group g).limit ≠ 0 ∧ (s.group g).counted.passes = (s.group g).limit) := by
    rintro ⟨h0, hn⟩
    exact hgo.elim h0 (· hn)
  have hcounted : (s.group g).counted.port = some q := hport
  unfold passEnd
  dsimp only
  rw [counted_passes hle, if_neg hlimit]
  split
  · next hnone =>
    exact ⟨fun _ => loopHalt_setGroup _ (by decide) hcounted, fun sp hspan => nomatch hnone.symm.trans hspan⟩
  · next sp hsome =>
    refine ⟨fun hspan => (nomatch hspan.symm.trans hsome), fun sp' hspan => ?_⟩
    obtain rfl : sp' = sp := Option.some.inj (hspan.symm.trans hsome)
    refine ⟨fun hreels => ?_, fun hone => ?_⟩
    · exact (if_neg (fun h => Bool.false_ne_true (hreels.symm.trans h))).trans (loopHalt_setGroup _ (by decide) hcounted)
    · exact (if_pos hone).trans (loopLocate_setGroup _ _ hcounted)

/-- The four courses of a pass that ends, in their order (R142), for whatever the state after them is asked. -/
theorem passEnd_courses {answer : State → Prop} (h : answer (passEnd g s)) :
    let n := (s.group g).counted.passes
    let halted (m : LoopMode) (c : LoopCause) : Prop := answer (haltedAs g q { (s.group g).counted with mode := m, cause := c } s)
    ((s.group g).limit ≠ 0 → n = (s.group g).limit → halted .done .limit) ∧
      ((s.group g).limit = 0 ∨ n ≠ (s.group g).limit →
        (s.armableMembers g = [] → halted .done .exhausted) ∧
          ((∃ c ∈ s.armableMembers g, ∃ d ∈ s.armableMembers g, c.reel ≠ d.reel) → halted .failed .reels) ∧
          ∀ (c : CueRecord) (rest : List CueRecord), s.armableMembers g = c :: rest → (∀ d ∈ rest, d.reel = c.reel) →
            ∃ first last : Nat,
              (∀ d ∈ s.armableMembers g, first ≤ (s.frames d).leadIn ∧ (s.frames d).cycleEnd ≤ last) ∧
              (∃ d ∈ s.armableMembers g, (s.frames d).leadIn = first) ∧
              (∃ d ∈ s.armableMembers g, (s.frames d).cycleEnd = last) ∧
              answer (locatedAs g q ((s.group g).counted.located .pass { reel := c.reel, first := first, last := last }) s)) := by
  intro n halted
  refine ⟨fun h0 hn => ?_, fun hgo => ?_⟩
  · rwa [passEnd_of_limit hport hle h0 hn] at h
  obtain ⟨hexhausted, hspanned⟩ := passEnd_below_limit hport hle hgo
  refine ⟨fun hnone => ?_, fun hreels => ?_, fun c rest hcons hone => ?_⟩
  · rwa [hexhausted (by rw [hnone]; rfl)] at h
  · obtain ⟨sp, hspan⟩ := exists_spanOf hreels
    rwa [(hspanned sp hspan).1 (oneReel_eq_false hreels)] at h
  · obtain ⟨sp, hspan, hreel, hbound, hleast, hgreatest⟩ := spanOf_cons s c rest
    rw [← hcons] at hspan hbound hleast hgreatest
    rw [(hspanned sp hspan).2 (hcons ▸ (oneReel_cons c rest).mpr hone)] at h
    refine ⟨sp.first, sp.last, hbound, hleast, hgreatest, ?_⟩
    rwa [← hreel]

end

/-! ### The events at the active group (R138 to R141) -/

/-- The active group is found again where every group is as active as before. -/
theorem activeGroup_of_isActive {t : State} (h : ∀ k, (t.group k).mode.isActive = (s.group k).mode.isActive) :
    t.activeGroup = s.activeGroup := by
  simp only [State.activeGroup, h]

section
variable (hactive : s.activeGroup = some g)
include hactive

theorem loopTakeLock_of_active (p : Position) :
    loopTakeLock p s =
      if (s.group g).mode = .locating ∧ s.loop.locateSent = true ∧ (s.group g).reel = some p.reel ∧
          p.frame < (s.group g).spanStart.getD 0 then
        loopChange g .running .lock s
      else s := by
  unfold loopTakeLock
  rw [hactive]

theorem loopTakeFrame_of_active (n : Nat) :
    loopTakeFrame n s =
      if (s.group g).mode = .running ∧ (s.group g).spanEnd.getD 0 ≤ n then
        if s.anyMemberPinned g then loopChange g .draining .spanEnd s else passEnd g s
      else s := by
  unfold loopTakeFrame
  rw [hactive]

theorem loopTakeFrame_of_not_running (n : Nat) (hm : (s.group g).mode ≠ .running) : loopTakeFrame n s = s := by
  rw [loopTakeFrame_of_active hactive, if_neg fun h => hm h.1]

theorem loopTakeLock_of_not_locating (p : Position) (hm : (s.group g).mode ≠ .locating) : loopTakeLock p s = s := by
  rw [loopTakeLock_of_active hactive, if_neg fun h => hm h.1]

/-- The lock entry that an advance carries concerns a LOCATING group alone (R138). -/
theorem loopTakeAdvance_of_not_locating (a : Advance) (h : (s.group g).mode ≠ .locating ∨ a.lock = none) :
    loopTakeAdvance a s = loopTakeFrame a.frame s := by
  unfold loopTakeAdvance
  split
  · rfl
  · next hlock =>
    rw [loopTakeLock_of_not_locating hactive _ (h.resolve_right (by simp [hlock]))]

theorem loopTakeLost_of_running (hm : (s.group g).mode = .running) : loopTakeLost s = loopHalt g .failed .rollLost s := by
  simp [loopTakeLost, hactive, hm]

theorem loopTakeLost_of_draining (hm : (s.group g).mode = .draining) : loopTakeLost s = passEnd g s := by
  simp [loopTakeLost, hactive, hm]

theorem loopTakeLost_of_locating (hm : (s.group g).mode = .locating) : loopTakeLost s = s := by
  simp [loopTakeLost, hactive, hm]

theorem afterRelease_of_active (cue : Nat) :
    afterRelease cue s =
      if (s.group g).mode = .draining ∧ (s.record cue).bind (fun c => c.group) = some g ∧ s.anyMemberPinned g = false then
        passEnd g s
      else s := by
  unfold afterRelease
  rw [hactive]

theorem locateExpiry_of_active :
    locateExpiry s =
      if (s.group g).mode = .locating ∧ s.loop.locateTimer.isRunning = true then loopHalt g .failed .locateTimeout s else s := by
  unfold locateExpiry
  rw [hactive]

/-- A pass that starts is not ended by an advance below the span end (R138, R140). -/
theorem loopTakeFrame_after_start {n : Nat} (hn : n < (s.group g).spanEnd.getD 0) :
    loopTakeFrame n (loopChange g .running .lock s) = loopChange g .running .lock s := by
  have hgroup (k : GroupId) : (loopChange g .running .lock s).group k =
      if g = k then { s.group g with mode := .running, cause := .lock } else s.group k := State.group_setGroup s g k _
  have hfound : (loopChange g .running .lock s).activeGroup = some g := by
    rw [← hactive]
    refine activeGroup_of_isActive fun k => ?_
    rw [hgroup]
    split
    · next he => exact (he ▸ isActive_of_activeGroup hactive).symm
    · rfl
  rw [loopTakeFrame_of_active hfound, hgroup, if_pos rfl, if_neg]
  simpa using hn

end

/-! ### The commands that bring an event to the controller -/

section
variable (hreset : s.resetHeld = false) (hoffered : s.offered.loop = true)
include hreset hoffered

theorem exec_loopPositionAdvance {a : Advance} (he : s.offered.event = some (.advance a)) :
    exec .loopPositionAdvance s = .next (loopTakeAdvance a s.loopTook) := by
  refine (live_of_released hreset).trans (congrArg _ ?_)
  simp [loopTakesAdvance, offeredAdvance_of_event he, hoffered]

theorem exec_loopLockEntry_of_relock {p : Position} (he : s.offered.event = some (.relock p)) :
    exec .loopLockEntry s = .next (loopTakeLock p s.loopTook) := by
  have hrelock : loopTakesRelock s = loopTakeLock p s.loopTook := by
    unfold loopTakesRelock
    rw [he]
    exact if_pos hoffered
  have hnone : (loopTakesRelock s).offeredAdvance = none :=
    offeredAdvance_of_relock (q := p) ((event_loopTakesRelock s).trans he)
  refine (live_of_released hreset).trans (congrArg _ ?_)
  rw [loopTakesLock, if_pos (by simp [State.offeredLock, he]), loopTakesAdvance_of_none hnone, hrelock]

theorem exec_loopLockEntry_of_advance {a : Advance} (he : s.offered.event = some (.advance a)) (hlock : a.lock ≠ none) :
    exec .loopLockEntry s = .next (loopTakeAdvance a s.loopTook) := by
  refine Eq.trans ?_ (exec_loopPositionAdvance hreset hoffered he)
  refine (live_of_released hreset).trans (Eq.trans (congrArg _ ?_) (live_of_released hreset).symm)
  rw [loopTakesLock, if_pos (by simpa [State.offeredLock, he] using Option.isSome_iff_ne_none.mpr hlock),
    loopTakesRelock_of_advance he]

theorem exec_loopRollLost {r : RollLost} (he : s.offered.event = some (.lost r)) :
    exec .loopRollLost s = .next (loopTakeLost s.loopTook) := by
  refine (live_of_released hreset).trans (congrArg _ ?_)
  simp [loopTakesLost, State.offeredLost, he, hoffered]

end

end

/-! ### Where a transport notice stands (R180) -/

theorem isTransport_iff (x : PriorityNotice) :
    x.isTransport = true ↔ (∃ (g : GroupId) (c : LoopCause), x = .halt g c) ∨
      ∃ (g : GroupId) (reel frame pass : Nat), x = .locate g reel frame pass := by
  cases x <;> simp [PriorityNotice.isTransport]

theorem replaceTransport_of_none (n : PriorityNotice) {ns : List PriorityNotice} (h : ∀ x ∈ ns, ¬x.isTransport = true) :
    replaceTransport n ns = ns ++ [n] := by
  induction ns with
  | nil => rfl
  | cons x xs ih =>
    obtain ⟨hx, hxs⟩ := List.forall_mem_cons.mp h
    rw [replaceTransport, if_neg hx, ih hxs, List.cons_append]

theorem replaceTransport_of_one (n : PriorityNotice) {older newer : List PriorityNotice} {x : PriorityNotice}
    (hx : x.isTransport = true) (hfirst : ∀ y ∈ older, ¬y.isTransport = true) (hnewer : ∀ y ∈ newer, ¬y.isTransport = true) :
    replaceTransport n (older ++ x :: newer) = older ++ n :: newer := by
  induction older with
  | nil =>
    have hkept : newer.filter (fun y => !y.isTransport) = newer := List.filter_eq_self.mpr (by simpa using hnewer)
    rw [List.nil_append, List.nil_append, replaceTransport, if_pos hx, hkept]
  | cons y ys ih =>
    obtain ⟨hy, hys⟩ := List.forall_mem_cons.mp hfirst
    rw [List.cons_append, replaceTransport, if_neg hy, ih hys, List.cons_append]

end Sys2Proof.Machine
end

section
/-! ## Lock entries, advances, rolls lost, releases and the locate timer at the active group (O29, O30, O31) -/

namespace Sys2Proof.Machine

set_option Elab.async false

/-! ### A lock entry (R138) -/

section
variable {s : State} {g : GroupId} {q : Position} (hreset : s.resetHeld = false) (hoffered : s.offered.loop = true)
  (hevent : s.offered.event = some (.relock q) ∨
    ∃ a : Advance, s.offered.event = some (.advance a) ∧ a.lock ≠ none ∧ q = { reel := a.reel, frame := a.frame })
include hreset hoffered hevent

/-- A lock entry reaches the controller alone, or before the frame of the advance that carries it (R58; log 18). -/
theorem exec_loopLockEntry_cases :
    exec .loopLockEntry s = .next (loopTakeLock q s.loopTook) ∨
      exec .loopLockEntry s = .next (loopTakeFrame q.frame (loopTakeLock q s.loopTook)) := by
  rcases hevent with he | ⟨a, he, hlock, rfl⟩
  · exact .inl (exec_loopLockEntry_of_relock hreset hoffered he)
  · refine .inr ((exec_loopLockEntry_of_advance hreset hoffered he hlock).trans ?_)
    unfold loopTakeAdvance
    split
    · next hnone => exact absurd hnone hlock
    · rfl

variable (hactive : s.activeGroup = some g) (hmode : (s.group g).mode = .locating)
include hactive hmode

theorem exec_loopLockEntry_starts (hsent : s.loop.locateSent = true) (hreel : (s.group g).reel = some q.reel)
    (hstart : q.frame < (s.group g).spanStart.getD 0) (hend : q.frame < (s.group g).spanEnd.getD 0) :
    exec .loopLockEntry s = .next (loopChange g .running .lock s.loopTook) := by
  have hlock : loopTakeLock q s.loopTook = loopChange g .running .lock s.loopTook :=
    (loopTakeLock_of_active (s := s.loopTook) hactive q).trans (if_pos ⟨hmode, hsent, hreel, hstart⟩)
  have hframe := loopTakeFrame_after_start (s := s.loopTook) hactive hend
  rcases exec_loopLockEntry_cases hreset hoffered hevent with he | he
  · rw [he, hlock]
  · rw [he, hlock, hframe]

theorem exec_loopLockEntry_ignored
    (hother : s.loop.locateSent = false ∨ (s.group g).reel ≠ some q.reel ∨ (s.group g).spanStart.getD 0 ≤ q.frame) :
    exec .loopLockEntry s = .next s.loopTook := by
  have hlock : loopTakeLock q s.loopTook = s.loopTook := by
    refine (loopTakeLock_of_active (s := s.loopTook) hactive q).trans (if_neg ?_)
    rintro ⟨-, hsent, hreel, hstart⟩
    rcases hother with h | h | h
    · exact Bool.false_ne_true (h.symm.trans hsent)
    · exact h hreel
    · exact Nat.not_lt.mpr h hstart
  have hframe : loopTakeFrame q.frame s.loopTook = s.loopTook :=
    loopTakeFrame_of_not_running (s := s.loopTook) hactive _ (fun h => LoopMode.noConfusion (hmode.symm.trans h))
  rcases exec_loopLockEntry_cases hreset hoffered hevent with he | he
  · rw [he, hlock]
  · rw [he, hlock, hframe]

end

/-- Settles O29: the controller's test of a lock entry, and the advance that carries one below the span end. -/
theorem lockEntryStartsThePass : Obligations.LockEntryStartsThePass := by
  unfold Obligations.LockEntryStartsThePass
  intro g q s hreset hoffered hactive hmode hevent
  refine ⟨fun hsent hreel hstart hend => ?_, fun hother => ?_⟩
  · rw [exec_loopLockEntry_starts hreset hoffered hevent hactive hmode hsent hreel hstart hend, loopChange_eq _ _ (by decide)]
    rfl
  · exact exec_loopLockEntry_ignored hreset hoffered hevent hactive hmode hother

/-! ### An advance (R140) -/

/-- Settles O30: the four courses of a pass that ends, for the command and for any other bringer, and the tests of an advance. -/
theorem advanceAtTheSpanEnd : Obligations.AdvanceAtTheSpanEnd := by
  unfold Obligations.AdvanceAtTheSpanEnd
  intro g q s hactive hport e n members pinned loopIs ends
  have hmembers : members = s.armableMembers g := (armableMembers_eq s g).symm
  have hends (o : Offered) {answer : State → Prop} (h : answer (passEnd g { s with offered := o })) :
      ends { s with offered := o } answer := by
    intro hle
    rw [hmembers]
    exact passEnd_courses (s := { s with offered := o }) hport hle h
  refine ⟨hends s.offered rfl, fun a hreset hoffered he => ?_⟩
  intro answer
  have hexec : exec .loopPositionAdvance s = .next (loopTakeAdvance a s.loopTook) :=
    exec_loopPositionAdvance hreset hoffered he
  have htake (h : (s.group g).mode ≠ .locating ∨ a.lock = none) :
      exec .loopPositionAdvance s = .next (loopTakeFrame a.frame s.loopTook) :=
    hexec.trans (congrArg _ (loopTakeAdvance_of_not_locating (s := s.loopTook) hactive a h))
  have hframe := loopTakeFrame_of_active (s := s.loopTook) hactive a.frame
  refine ⟨fun hmode => ?_, fun hmode => ?_, fun hlock => ?_⟩
  · have htake := htake (.inl (by simp [hmode]))
    refine ⟨fun hbelow => ?_, fun hend hpinned => ?_, fun hend hfree => hends s.loopTook.offered (answer := answer) ?_⟩
    · exact htake.trans (congrArg _ (hframe.trans (if_neg fun h => Nat.not_le.mpr hbelow h.2)))
    · have hdrain : loopTakeFrame a.frame s.loopTook = loopChange g .draining .spanEnd s.loopTook :=
        (hframe.trans (if_pos ⟨hmode, hend⟩)).trans (if_pos ((anyMemberPinned_iff s g).mpr hpinned))
      exact htake.trans (congrArg _ (hdrain.trans (loopChange_eq _ _ (by decide))))
    · have hpass : loopTakeFrame a.frame s.loopTook = passEnd g s.loopTook :=
        (hframe.trans (if_pos ⟨hmode, hend⟩)).trans (if_neg (mt (anyMemberPinned_iff s g).mp hfree))
      exact htake.trans (congrArg _ hpass)
  · have hrunning : (s.group g).mode ≠ .running := by rcases hmode with h | ⟨h, -⟩ <;> simp [h]
    have hcarried : (s.group g).mode ≠ .locating ∨ a.lock = none := by
      rcases hmode with h | ⟨-, h⟩
      · exact .inl (by simp [h])
      · exact .inr h
    exact (htake hcarried).trans (congrArg _ (loopTakeFrame_of_not_running (s := s.loopTook) hactive _ hrunning))
  · exact hexec.trans (exec_loopLockEntry_of_advance hreset hoffered he hlock).symm

/-! ### A roll lost, a release, the locate timer (R139 to R141), and where a transport notice stands (R180) -/

/-- A transport notice takes the place of the one that waits, else the end; a detached port takes none (R175, R180). -/
theorem postTransport_places (q : PortId) (n : PriorityNotice) (s : State) :
    ((s.port q).attached = false → postTransport q n s = s) ∧
      ((s.port q).attached = true →
        ((∀ x ∈ (s.port q).priority, ¬x.isTransport = true) →
          postTransport q n s = s.setPort q { s.port q with priority := (s.port q).priority ++ [n] }) ∧
          ∀ (older newer : List PriorityNotice) (x : PriorityNotice), (s.port q).priority = older ++ x :: newer →
            x.isTransport = true → (∀ y ∈ older, ¬y.isTransport = true) → (∀ y ∈ newer, ¬y.isTransport = true) →
            postTransport q n s = s.setPort q { s.port q with priority := older ++ n :: newer }) := by
  refine ⟨fun h => if_neg (by simp [h]), fun h => ⟨fun hnone => ?_, fun older newer x hqueue hx hfirst hnewer => ?_⟩⟩
  · rw [postTransport, if_pos h, replaceTransport_of_none n hnone]
  · rw [postTransport, if_pos h, hqueue, replaceTransport_of_one n hx hfirst hnewer]

section
variable {s : State} {g : GroupId}

/-- The release of a member's pin that leaves none pinned ends the pass of a DRAINING group, and no other release does (R141). -/
theorem afterRelease_cases (hactive : s.activeGroup = some g) (cue : Nat) :
    let ends : Prop :=
      (s.group g).mode = .draining ∧ (∃ c : CueRecord, s.record cue = some c ∧ c.group = some g) ∧
        ∀ (l : LaneId) (n : Nat) (c : CueRecord), (s.lane l).pinned = some n → s.record n = some c → c.group ≠ some g
    (ends → afterRelease cue s = passEnd g s) ∧ (¬ends → afterRelease cue s = s) := by
  intro ends
  have hends : (s.group g).mode = .draining ∧ (s.record cue).bind (fun c => c.group) = some g ∧ s.anyMemberPinned g = false ↔
      ends := by
    rw [Option.bind_eq_some_iff, ← Bool.not_eq_true, anyMemberPinned_iff]
    simp only [ends, not_exists, not_and, ne_eq]
  rw [afterRelease_of_active hactive]
  exact ⟨fun h => if_pos (hends.mpr h), fun h => if_neg (mt hends.mp h)⟩

theorem locateExpiry_of_stopped (h : s.loop.locateTimer.isRunning = false) : locateExpiry s = s := by
  unfold locateExpiry
  split
  · rfl
  · exact if_neg (by simp [h])

end

/-- Settles O31: the place of a transport notice, then each event by the state of the active group. -/
theorem groupsFailAndDrain : Obligations.GroupsFailAndDrain := by
  unfold Obligations.GroupsFailAndDrain
  refine ⟨fun q n s => ?_, fun g q s hreset hactive hport => ?_⟩
  · intro transport queued
    have htransport (x : PriorityNotice) : transport x ↔ x.isTransport = true := (isTransport_iff x).symm
    simp only [htransport]
    exact postTransport_places q n s
  · intro failed
    have hfails (c : LoopCause) (o : Offered) :
        loopHalt g .failed c { s with offered := o } = failed c { s with offered := o } :=
      loopHalt_eq_haltedAs (s := { s with offered := o }) c (by decide) hport
    refine ⟨fun r he hoffered => ?_, afterRelease_cases hactive, fun hmode htimer => ?_, fun hstopped => ?_⟩
    · have hexec := exec_loopRollLost hreset hoffered he
      refine ⟨fun hmode => ?_, fun hmode => ?_, fun hmode => ?_⟩
      · have hlost := loopTakeLost_of_running (s := s.loopTook) hactive hmode
        exact hexec.trans (congrArg _ (hlost.trans (hfails _ s.loopTook.offered)))
      · exact hexec.trans (congrArg _ (loopTakeLost_of_locating (s := s.loopTook) hactive hmode))
      · exact hexec.trans (congrArg _ (loopTakeLost_of_draining (s := s.loopTook) hactive hmode))
    · refine (live_of_released hreset).trans (congrArg _ ?_)
      exact ((locateExpiry_of_active hactive).trans (if_pos ⟨hmode, htimer⟩)).trans (hfails _ s.offered)
    · exact (live_of_released hreset).trans (congrArg _ (locateExpiry_of_stopped hstopped))

end Sys2Proof.Machine
end

section
/-! ## START LOOP and STOP LOOP (O48) -/

namespace Sys2Proof.Machine

set_option Elab.async false

/-! ### START LOOP: its tests in their order (R135) -/

theorem loopOrderOf_eq_none {b : List Byte}
    (h : byteAt b 0 = 0 ∨ 16 < byteAt b 0 ∨ 99 < byteAt b 1 ∨ 480 < wordAt b 2) : loopOrderOf b = none := by
  unfold loopOrderOf
  split
  · rfl
  · next hg =>
    refine if_neg fun hrange => ?_
    have hnone : ¬(byteAt b 0 = 0 ∨ 16 < byteAt b 0) := fun h0 => by
      rw [groupOf_eq_none h0] at hg
      cases hg
    omega

theorem loopOrderOf_of_fields {b : List Byte} {g : GroupId} (hg : byteAt b 0 = g.val + 1) (hlimit : byteAt b 1 ≤ 99)
    (hpreroll : wordAt b 2 ≤ 480) :
    loopOrderOf b = some { group := g, limit := byteAt b 1, preroll := wordAt b 2 } := by
  unfold loopOrderOf
  rw [hg, groupOf_number]
  exact if_pos ⟨hlimit, hpreroll⟩

section
variable {s : State} {o : LoopOrder} {q : PortId}

theorem allPorts_split : ∀ q : PortId,
    allPorts = allPorts.take q.val ++ q :: allPorts.drop (q.val + 1) ∧ ∀ r ∈ allPorts.take q.val, r < q := by decide

theorem transportPort_eq_none (h : ∀ q : PortId, ¬((s.port q).attached = true ∧ (s.port q).roles.transport = true)) :
    s.transportPort = none := by
  simpa [State.transportPort, List.find?_eq_none, mem_allPorts] using h

/-- The port is the lowest-numbered attached one with the TRANSPORT role (R136, item 2). -/
theorem transportPort_eq_some (h : (s.port q).attached = true ∧ (s.port q).roles.transport = true)
    (hlowest : ∀ r : PortId, r < q → ¬((s.port r).attached = true ∧ (s.port r).roles.transport = true)) :
    s.transportPort = some q := by
  obtain ⟨hsplit, hbefore⟩ := allPorts_split q
  refine List.find?_eq_some_iff_append.mpr ⟨by simp [h], _, _, hsplit, fun r hr => ?_⟩
  rw [Bool.not_eq_true', ← Bool.not_eq_true, Bool.and_eq_true]
  exact hlowest r (hbefore r hr)

theorem startLoop_of_active (h : s.activeGroup ≠ none) : startLoop o s = (s, .bare .busy) :=
  if_pos (Option.isSome_iff_ne_none.mpr h)

/-- The group that START LOOP starts, before it locates (R136, items 1 and 2). -/
def Group.ordered (x : Group) (o : LoopOrder) (q : PortId) : Group :=
  { x with passes := 0, limit := o.limit, preroll := o.preroll, port := some q }

section
variable (hnone : s.activeGroup = none)
include hnone

theorem startLoop_of_no_port (h : s.transportPort = none) : startLoop o s = (s, .bare .noTransport) := by
  unfold startLoop
  rw [hnone, h]
  rfl

variable (hport : s.transportPort = some q)
include hport

theorem startLoop_of_no_members (h : s.armableMembers o.group = []) : startLoop o s = (s, .bare .noCue) := by
  unfold startLoop
  rw [hnone, hport, h]
  rfl

theorem startLoop_of_two_reels
    (h : ∃ c ∈ s.armableMembers o.group, ∃ d ∈ s.armableMembers o.group, c.reel ≠ d.reel) :
    startLoop o s = (s, .bare .range) := by
  unfold startLoop
  rw [hnone, hport]
  obtain ⟨sp, hspan⟩ := exists_spanOf (s := s) h
  dsimp only
  rw [hspan]
  exact if_neg (Bool.eq_false_iff.mp (oneReel_eq_false h))

theorem startLoop_of_span {sp : LoopSpan} (hspan : s.spanOf (s.armableMembers o.group) = some sp)
    (hone : oneReel (s.armableMembers o.group) = true) :
    startLoop o s =
      (locatedAs o.group q (((s.group o.group).ordered o q).located .start sp) s,
        .okWith (((s.group o.group).ordered o q).located .start sp).startBytes) := by
  have hstart : startGroup o q sp s = locatedAs o.group q (((s.group o.group).ordered o q).located .start sp) s :=
    loopLocate_setGroup (x := (s.group o.group).ordered o q) .start sp rfl
  unfold startLoop
  rw [hnone, hport]
  dsimp only
  rw [hspan]
  dsimp only
  rw [if_pos hone, hstart, group_locatedAs]
  rfl

end

/-! ### STOP LOOP (R144) -/

theorem stopGroup_of_other {g : GroupId} (h : s.activeGroup ≠ some g) : stopGroup g s = s := if_neg h

theorem stopGroup_of_active {g : GroupId} (h : s.activeGroup = some g) (hport : (s.group g).port = some q) :
    stopGroup g s = haltedAs g q { s.group g with mode := .idle, cause := .stopRequest } s := by
  rw [stopGroup, if_pos h, loopStopActive_of_some _ h, loopHalt_eq_haltedAs _ (by decide) hport]

theorem group_haltedAs {g : GroupId} (x : Group) : (haltedAs g q x s).group g = x := State.group_setGroup_same s g x

end

/-! ### The requests -/

section
variable {p q : PortId} {s : State} {b : List Byte} {o : LoopOrder}

theorem answers_startLoop_refused {x : Status} (h : s.admits p .startLoop b) (ho : loopOrderOf b = some o)
    (hb : startLoop o (s.dropItem p) = (s.dropItem p, .bare x)) :
    Answers .startLoop p b s (s.dropItem p) (num1 x.code) := by
  refine answers_bare h ?_
  show answerStartLoop b _ = _
  rw [answerStartLoop, ho]
  exact hb

theorem answers_startLoop_range (h : s.admits p .startLoop b) (ho : loopOrderOf b = none) :
    Answers .startLoop p b s (s.dropItem p) [0x06] := by
  refine answers_bare (x := .range) h ?_
  show answerStartLoop b _ = _
  rw [answerStartLoop, ho]

theorem answers_startLoop_ok {t : State} {fields : List Byte} (h : s.admits p .startLoop b) (ho : loopOrderOf b = some o)
    (hb : startLoop o (s.dropItem p) = (t, .okWith fields)) :
    Answers .startLoop p b s t ([0x00] ++ fields) := by
  refine answers_ok h ?_
  show answerStartLoop b _ = _
  rw [answerStartLoop, ho]
  exact hb

theorem answers_stopLoop_range {c : Byte} (h : s.admits p .stopLoop [c]) (hc : c.toNat = 0 ∨ 16 < c.toNat) :
    Answers .stopLoop p [c] s (s.dropItem p) [0x06] := by
  refine answers_bare (x := .range) h ?_
  show answerStopLoop [c] _ = _
  rw [answerStopLoop, byteAt_cons_zero, groupOf_eq_none hc]

theorem answers_stopLoop_ok {c : Byte} {g : GroupId} {t : State} (h : s.admits p .stopLoop [c]) (hc : c.toNat = g.val + 1)
    (ht : stopGroup g (s.dropItem p) = t) :
    Answers .stopLoop p [c] s t ([0x00] ++ num1 (t.group g).mode.code) := by
  refine answers_ok h ?_
  show answerStopLoop [c] _ = _
  rw [answerStopLoop, byteAt_cons_zero, hc, groupOf_number]
  dsimp only
  rw [ht]

end

/-- Settles O48: the tests of START LOOP in their order and the group it starts, and the group that STOP LOOP stops. -/
theorem startAndStopLoop : Obligations.StartAndStopLoop := by
  unfold Obligations.StartAndStopLoop
  intro p s u code transport
  have htransport (q : PortId) : transport q ↔ (u.port q).attached = true ∧ (u.port q).roles.transport = true := by
    simp only [transport, u, dropItem_attached, dropItem_roles]
  refine ⟨fun b hadmits => ?_, fun b hadmits => ⟨answers_stopLoop_range hadmits, fun g hb => ?_⟩⟩
  · intro answer
    refine ⟨fun hrange => answers_startLoop_range hadmits (loopOrderOf_eq_none hrange), fun g hg hlimit hpreroll => ?_⟩
    intro members
    have hmembers : members = u.armableMembers g := (armableMembers_eq u g).symm
    have ho := loopOrderOf_of_fields hg hlimit hpreroll
    refine ⟨fun hbusy => ?_, fun hnone hports => ?_, fun q hnone hq hlowest => ?_⟩
    · exact answers_startLoop_refused hadmits ho (startLoop_of_active hbusy)
    · exact answers_startLoop_refused hadmits ho
        (startLoop_of_no_port hnone (transportPort_eq_none fun q => mt (htransport q).mpr (hports q)))
    · have hport : u.transportPort = some q :=
        transportPort_eq_some ((htransport q).mp hq) fun r hr => mt (htransport r).mpr (hlowest r hr)
      rw [hmembers]
      refine ⟨fun hempty => ?_, fun hreels => ?_, fun c rest hcons hone => ?_⟩
      · exact answers_startLoop_refused hadmits ho (startLoop_of_no_members hnone hport hempty)
      · exact answers_startLoop_refused hadmits ho (startLoop_of_two_reels hnone hport hreels)
      · obtain ⟨sp, hspan, hreel, hbound, hleast, hgreatest⟩ := spanOf_cons u c rest
        rw [← hcons] at hspan hbound hleast hgreatest
        refine ⟨sp.first, sp.last, hbound, hleast, hgreatest, ?_⟩
        rw [← hreel]
        exact answers_startLoop_ok hadmits ho
          (startLoop_of_span (s := u) hnone hport hspan (hcons ▸ (oneReel_cons c rest).mpr hone))
  · have hcode (m : LoopMode) : num1 m.code = [code m] := by cases m <;> rfl
    refine ⟨fun hother => ?_, fun q hactive hport => ?_⟩
    · have hanswer := answers_stopLoop_ok hadmits hb (stopGroup_of_other (s := s.dropItem p) hother)
      rwa [hcode] at hanswer
    · have hanswer := answers_stopLoop_ok hadmits hb (stopGroup_of_active (s := s.dropItem p) hactive hport)
      rwa [group_haltedAs] at hanswer

end Sys2Proof.Machine
end

section
/-! ## The take journal's invariant, operation by operation

The journal's invariant reads the sequence numbers of the entries, the next one and the seal. Marks, evictions and trims leave a
sublist of the sequence numbers (`journalInv_of_sublist`); a write adds the next one to a journal that has room for it. -/

namespace Sys2Proof.Machine

set_option Elab.async false

/-! ### What the invariant reads -/

/-- The sequence numbers of the entries, in the order of the list. -/
def Journal.sequences (j : Journal) : List Nat := j.entries.map fun e => e.sequence

section
variable {s t : State}

theorem journalInv_iff (s : State) :
    s.journalInv ↔ s.journal.sequences.length ≤ Config.journalCapacity ∧ s.journal.sequences.Pairwise (· < ·) ∧
      (∀ k ∈ s.journal.sequences, 1 ≤ k ∧ k ≤ Config.lastSequence) ∧
      (s.journal.isSealed = true ↔ s.journal.next = none) ∧
      ∀ n ∈ s.journal.next, 1 ≤ n ∧ n ≤ Config.lastSequence ∧ ∀ k ∈ s.journal.sequences, k < n := by
  simp only [State.journalInv, Journal.sequences, List.length_map, List.pairwise_map, List.forall_mem_map]

theorem journalInv_of_journal (hjournal : t.journal = s.journal) (h : s.journalInv) : t.journalInv := by
  unfold State.journalInv
  rwa [hjournal]

theorem journalInv_of_touches {xs : List Part} (ht : TouchesOnly xs s t) (h : s.journalInv)
    (hjournal : Part.journal ∉ xs := by decide) : t.journalInv := journalInv_of_journal (ht .journal hjournal) h

theorem journalInv_ite {p : Prop} [Decidable p] (hs : s.journalInv) (ht : t.journalInv) :
    (if p then s else t).journalInv := by
  split
  · exact hs
  · exact ht

theorem journalInv_foldl {α : Type} {f : State → α → State} (hf : ∀ {u : State} (x : α), u.journalInv → (f u x).journalInv)
    (xs : List α) {s : State} (h : s.journalInv) : (xs.foldl f s).journalInv := by
  induction xs generalizing s with
  | nil => exact h
  | cons x xs ih => exact ih (hf x h)

/-- Entries that go, or change in anything but their numbers, leave the invariant standing. -/
theorem journalInv_of_sublist (hsub : t.journal.sequences.Sublist s.journal.sequences) (hnext : t.journal.next = s.journal.next)
    (hsealed : t.journal.isSealed = s.journal.isSealed) (h : s.journalInv) : t.journalInv := by
  rw [journalInv_iff] at h ⊢
  obtain ⟨hlen, hsorted, hrange, hseal, hbelow⟩ := h
  rw [hnext, hsealed]
  refine ⟨hsub.length_le.trans hlen, hsorted.sublist hsub, fun k hk => hrange k (hsub.subset hk), hseal, fun n hn => ?_⟩
  obtain ⟨hone, hlast, hall⟩ := hbelow n hn
  exact ⟨hone, hlast, fun k hk => hall k (hsub.subset hk)⟩

/-! ### Marks and trims (R154, R155, R159) -/

theorem journalInv_setEntries {es : List JournalEntry} (hsub : es.Sublist s.journal.entries) (h : s.journalInv) :
    (s.setEntries es).journalInv :=
  journalInv_of_sublist (hsub.map _) rfl rfl h

/-- CIRCLED is no part of an entry's number. -/
theorem journalInv_markEntry (n : Nat) (k : Bool) (h : s.journalInv) : (markEntry n k s).journalInv := by
  have hsame : (markEntry n k s).journal.sequences = s.journal.sequences := by
    show List.map _ (List.map _ _) = List.map _ _
    rw [List.map_map]
    refine List.map_congr_left fun e _ => ?_
    dsimp only [Function.comp]
    split <;> rfl
  exact journalInv_of_sublist (s := s) (hsame ▸ .refl _) rfl rfl h

theorem journalInv_circle (e : JournalEntry) (x : CircleSource) (h : s.journalInv) : (circle e x s).journalInv :=
  journalInv_of_touches ((touches_setRecords _ _).andThen (touches_post _ _ _) (zs := [.table, .ports]))
    (journalInv_markEntry e.sequence true h)

theorem journalInv_uncircle (e : JournalEntry) (x : CircleSource) (h : s.journalInv) : (uncircle e x s).journalInv :=
  journalInv_of_touches ((touches_setRecords _ _).andThen (touches_post _ _ _) (zs := [.table, .ports]))
    (journalInv_markEntry e.sequence false h)

theorem journalInv_circleLast (l : LaneId) (i : LineId) (h : s.journalInv) : (circleLast l i s).journalInv := by
  unfold circleLast
  split
  · exact h
  · exact journalInv_circle _ _ h

theorem journalInv_trimUncircled (h : s.journalInv) : (trimUncircled s).journalInv :=
  journalInv_setEntries List.filter_sublist h

theorem journalInv_trimAll (s : State) : (trimAll s).journalInv := by
  simp [State.journalInv, trimAll, clearAllCircled, State.setRecords, Config.lastSequence]

/-! ### The write of an entry (R150 to R153) -/

theorem dropFirst_eq_eraseP (f : JournalEntry → Bool) (es : List JournalEntry) : dropFirst f es = es.eraseP f := by
  induction es with
  | nil => rfl
  | cons e es ih => rw [dropFirst, List.eraseP_cons, ih, Bool.cond_eq_ite]

theorem journal_evictCircled (e : JournalEntry) (rest : List JournalEntry) (s : State) :
    (evictCircled e rest s).journal = { s.journal with entries := rest } := by
  have hclear (u : State) : (clearCircled e.cue e.take u).journal = u.journal := rfl
  unfold evictCircled
  dsimp only
  rw [touches_post _ _ _ .journal (by decide), apply_ite State.journal, hclear, ite_self]
  rfl

/-- Some entries go, and there is a place for one more (R152, R153). -/
theorem journal_makeRoom (hle : s.journal.entries.length ≤ Config.journalCapacity) :
    ∃ es : List JournalEntry, es.Sublist s.journal.entries ∧ es.length < Config.journalCapacity ∧
      (makeRoom s).journal = { s.journal with entries := es } := by
  unfold makeRoom
  split
  · next hroom => exact ⟨_, .refl _, hroom, rfl⟩
  · next hfull =>
    split
    · next hany =>
      obtain ⟨e, he, huncircled⟩ := List.any_eq_true.mp hany
      refine ⟨_, List.eraseP_sublist, ?_, by rw [dropFirst_eq_eraseP]; rfl⟩
      have hlength := List.length_eraseP_of_mem (p := fun e => !e.circled) he huncircled
      have hpos := List.length_pos_of_mem he
      omega
    · split
      · next hnil => exact absurd (by rw [hnil]; decide) hfull
      · next e rest hcons =>
        refine ⟨rest, hcons ▸ List.sublist_cons_self e rest, ?_, journal_evictCircled e rest s⟩
        rw [hcons, List.length_cons] at hle
        omega

/-- A journal with room whose next number joins the end: the number after it is above it, or the journal is sealed. -/
theorem journalInv_of_appended {n : Nat} (hsequences : t.journal.sequences = s.journal.sequences ++ [n])
    (hnext : s.journal.next = some n) (hroom : s.journal.entries.length < Config.journalCapacity)
    (hseal : t.journal.isSealed = true ↔ t.journal.next = none)
    (habove : ∀ m ∈ t.journal.next, n < m ∧ m ≤ Config.lastSequence) (h : s.journalInv) : t.journalInv := by
  rw [journalInv_iff] at h ⊢
  obtain ⟨-, hsorted, hrange, -, hbelow⟩ := h
  obtain ⟨hone, hlast, hall⟩ := hbelow n hnext
  rw [hsequences]
  refine ⟨?length, ?sorted, fun k hk => ?range, hseal, fun m hm => ?below⟩
  case length => rwa [List.length_append, Journal.sequences, List.length_map]
  case sorted => simpa [List.pairwise_append, hsorted] using hall
  case range =>
    rcases List.mem_append.mp hk with hk | hk
    · exact hrange k hk
    · rw [List.mem_singleton.mp hk]
      exact ⟨hone, hlast⟩
  case below =>
    obtain ⟨hlt, hle⟩ := habove m hm
    refine ⟨by omega, hle, fun k hk => ?_⟩
    rcases List.mem_append.mp hk with hk | hk
    · exact (hall k hk).trans hlt
    · rwa [List.mem_singleton.mp hk]

theorem isSealed_of_next {n : Nat} (hnext : s.journal.next = some n) (h : s.journalInv) : s.journal.isSealed = false := by
  obtain ⟨-, -, -, hseal, -⟩ := h
  rw [← Bool.not_eq_true, hseal, hnext]
  exact Option.some_ne_none n

/-- The entry takes the next number, and the one after it is the next or the journal is sealed (R150, R151). -/
theorem journalInv_appendEntry {n : Nat} (e : JournalEntry) (hnext : s.journal.next = some n)
    (hroom : s.journal.entries.length < Config.journalCapacity) (h : s.journalInv) : (appendEntry n e s).journalInv := by
  obtain ⟨-, -, -, -, hbelow⟩ := (journalInv_iff s).mp h
  obtain ⟨-, hlast, -⟩ := hbelow n hnext
  rw [appendEntry_eq n e (isSealed_of_next hnext h)]
  split
  · refine journalInv_of_touches (touches_post _ _ _) ?_
    exact journalInv_of_appended (n := n) List.map_append hnext hroom (by simp) (by simp) h
  · refine journalInv_of_appended (n := n) List.map_append hnext hroom (by simp) (fun m hm => ?_) h
    cases hm
    unfold Config.lastSequence at hlast ⊢
    omega

theorem journalInv_journalWrite (e : JournalEntry) (h : s.journalInv) : (journalWrite e s).1.journalInv := by
  unfold journalWrite
  split
  · exact h
  · next n hnext =>
    split
    · exact h
    · obtain ⟨es, hsub, hroom, hjournal⟩ := journal_makeRoom (s := s) (by obtain ⟨hlength, -⟩ := h; exact hlength)
      have hmade : (makeRoom s).journalInv := journalInv_of_journal hjournal (journalInv_setEntries hsub h)
      exact journalInv_appendEntry e (by rw [hjournal, hnext]) (by rw [hjournal]; exact hroom) hmade

end

end Sys2Proof.Machine
end

section
/-! ## Every step keeps the take journal (O55) -/

namespace Sys2Proof.Machine

set_option Elab.async false

/-! ### The lanes (R67 to R91): they write the journal where a begun take ends (R89, step 3) -/

section
variable {s : State} {l : LaneId}

theorem journalInv_finishCycle (e : CycleStop) (x : PunchEnd) (q : Option Position) (c : CycleRecord) (h : s.journalInv) :
    (finishCycle l e x q c s).journalInv := by
  have hclaim : (takeEndClaim l (journalWrite (c.entry l e x) s).1).journalInv :=
    journalInv_of_touches (touches_takeEndClaim l _) (journalInv_journalWrite _ h)
  unfold finishCycle
  dsimp only
  split
  · exact journalInv_of_journal rfl hclaim
  · exact journalInv_ite (journalInv_of_touches (touches_armingAttempt l _ _ _) (journalInv_of_journal rfl hclaim))
      (journalInv_of_journal rfl hclaim)

theorem journalInv_endCycle (e : CycleStop) (told : Bool) (q : Option Position) (h : s.journalInv) :
    (endCycle l e told q s).journalInv := by
  have hended (c : CycleRecord) : (endMarks l told (punchEnd l c e.reason s)).journalInv :=
    journalInv_of_touches (touches_endMarks l told _) (journalInv_of_touches (touches_punchEnd l c _ s) h)
  unfold endCycle
  split
  · exact h
  · dsimp only
    split
    · exact hended _
    · exact journalInv_finishCycle e _ q _ (hended _)

theorem journalInv_letGo (m : LaneMode) (h : s.journalInv) : (letGo l m s).journalInv :=
  journalInv_of_touches (touches_letGo l m s) h

theorem journalInv_falseStart (h : s.journalInv) : (falseStart l s).journalInv :=
  journalInv_of_touches (((touches_handOff s _).andThen (touches_releaseClaim l _)
    (zs := [.lanes, .handoffs, .loop, .ports])).andThen (touches_setLane _ l _) (zs := [.lanes, .handoffs, .loop, .ports])) h

theorem journalInv_tailYieldTest (a : Advance) (h : s.journalInv) : (tailYieldTest l a s).journalInv := by
  unfold tailYieldTest
  refine journalInv_ite ?_ h
  split
  · exact h
  · exact journalInv_ite (journalInv_endCycle _ _ _ h) h

theorem journalInv_armedAdvance (a : Advance) (h : s.journalInv) : (armedAdvance l a s).journalInv := by
  have hrearm : (if s.table.confirmed then rearm l a.reel a.frame s else s).journalInv :=
    journalInv_ite (journalInv_of_touches (touches_rearm l _ _ s) h) h
  unfold armedAdvance
  dsimp only
  split
  · exact journalInv_ite (journalInv_of_touches (touches_enterLeadin l _ a _) hrearm) hrearm
  · exact hrearm

theorem journalInv_leadinAdvance (a : Advance) (h : s.journalInv) : (leadinAdvance l a s).journalInv := by
  have hbegin : (takeBeginTest l a s).journalInv := journalInv_of_touches (touches_takeBeginTest l a s) h
  unfold leadinAdvance
  dsimp only
  split
  · exact hbegin
  · exact journalInv_ite (journalInv_of_touches (touches_enterTake l _ a _) hbegin) hbegin

theorem journalInv_takeAdvance (a : Advance) (h : s.journalInv) : (takeAdvance l a s).journalInv := by
  have hexit : (s.handOff (.stop l true)).journalInv := journalInv_of_touches (touches_handOff s _) h
  unfold takeAdvance
  split
  · exact h
  · refine journalInv_ite (journalInv_ite (journalInv_endCycle _ _ _ hexit) ?_) h
    exact journalInv_tailYieldTest a (journalInv_of_touches (touches_setLane _ l _) hexit)

theorem journalInv_tailAdvance (a : Advance) (h : s.journalInv) : (tailAdvance l a s).journalInv := by
  unfold tailAdvance
  split
  · exact h
  · exact journalInv_ite (journalInv_endCycle _ _ _ h) (journalInv_tailYieldTest a h)

theorem journalInv_laneAdvance (a : Advance) (h : s.journalInv) : (laneAdvance l a s).journalInv := by
  have htouched : (modCycle l (fun r => r.touch a) s).journalInv := journalInv_of_touches (touches_modCycle l _ s) h
  unfold laneAdvance
  split
  · exact h
  · exact journalInv_of_touches (touches_armingAttempt l _ _ s) h
  · exact journalInv_armedAdvance a htouched
  · exact journalInv_leadinAdvance a htouched
  · exact journalInv_takeAdvance a htouched
  · exact journalInv_tailAdvance a htouched

theorem journalInv_laneLost (h : s.journalInv) : (laneLost l s).journalInv := by
  unfold laneLost
  split
  · exact h
  · exact h
  · exact journalInv_letGo _ h
  · exact journalInv_ite (journalInv_endCycle _ _ _ h) (journalInv_falseStart h)
  · exact journalInv_endCycle _ _ _ h
  · exact journalInv_endCycle _ _ _ h

theorem journalInv_laneCancel (h : s.journalInv) : (laneCancel l s).journalInv := by
  unfold laneCancel
  split
  · exact h
  · exact h
  · exact journalInv_letGo _ h
  · exact journalInv_ite (journalInv_endCycle _ _ _ h) (journalInv_falseStart h)
  · exact journalInv_endCycle _ _ _ h
  · exact journalInv_endCycle _ _ _ h

/-- CLEAR STAGE writes the journal by the cancels alone (R87). -/
theorem journalInv_clearStage (h : s.journalInv) : (clearStage s).journalInv := by
  have hstopped : (stageStopped s).journalInv := journalInv_of_touches (touches_stageStopped s) h
  rw [clearStage_eq]
  exact journalInv_of_touches (touches_clearRest _)
    (journalInv_foldl (fun l hu => journalInv_laneCancel (l := l) hu) allLanes hstopped)

/-! ### The tracker's events (R42 to R59) -/

theorem journalInv_laneTakesAdvance (l : LaneId) (h : s.journalInv) : (laneTakesAdvance l s).journalInv := by
  unfold laneTakesAdvance
  split
  · exact h
  · exact journalInv_ite (journalInv_laneAdvance _ (journalInv_of_touches (touches_offered s _) h)) h

theorem journalInv_laneTakesLost (l : LaneId) (h : s.journalInv) : (laneTakesLost l s).journalInv :=
  journalInv_ite (journalInv_laneLost (journalInv_of_touches (touches_offered s _) h)) h

theorem journalInv_marksTakeAdvance (h : s.journalInv) : (marksTakeAdvance s).journalInv := by
  unfold marksTakeAdvance
  split
  · exact h
  · exact journalInv_ite (journalInv_of_touches (touches_marksAdvance _ _) (journalInv_of_touches (touches_offered s _) h)) h

theorem journalInv_punchTakesAdvance (h : s.journalInv) : (punchTakesAdvance s).journalInv := by
  unfold punchTakesAdvance
  split
  · exact h
  · exact journalInv_ite (journalInv_of_touches (touches_punchAdvance _ _) (journalInv_of_touches (touches_offered s _) h)) h

theorem journalInv_loopTakesAdvance (h : s.journalInv) : (loopTakesAdvance s).journalInv := by
  unfold loopTakesAdvance
  split
  · exact h
  · exact journalInv_ite (journalInv_of_touches (touches_loopTakeAdvance _ _) (journalInv_of_touches (touches_offered s _) h)) h

theorem journalInv_loopTakesRelock (h : s.journalInv) : (loopTakesRelock s).journalInv := by
  unfold loopTakesRelock
  split
  · exact journalInv_ite (journalInv_of_touches (touches_loopTakeLock _ _) (journalInv_of_touches (touches_offered s _) h)) h
  all_goals exact h

theorem journalInv_loopTakesLock (h : s.journalInv) : (loopTakesLock s).journalInv :=
  journalInv_ite (journalInv_loopTakesAdvance (journalInv_loopTakesRelock h)) h

theorem journalInv_loopTakesLost (h : s.journalInv) : (loopTakesLost s).journalInv :=
  journalInv_ite (journalInv_of_touches (touches_loopTakeLost _) (journalInv_of_touches (touches_offered s _) h)) h

theorem journalInv_settle (h : s.journalInv) : (settle s).journalInv := by
  have hlanes : (allLanes.foldl laneTakes s).journalInv :=
    journalInv_foldl (fun l hu => journalInv_laneTakesLost l (journalInv_laneTakesAdvance l hu)) _ h
  have hmarks := journalInv_marksTakeAdvance (journalInv_of_touches (touches_runHandoffs _) hlanes)
  exact journalInv_loopTakesLost (journalInv_loopTakesRelock (journalInv_loopTakesAdvance (journalInv_punchTakesAdvance hmarks)))

theorem journalInv_trackerApply (x : TrackerStep) (h : s.journalInv) : (trackerApply x s).journalInv := by
  unfold trackerApply
  split
  · exact journalInv_of_touches (touches_trackerChange x s) h
  · exact journalInv_of_touches ((touches_trackerChange x _).andThen (touches_offered _ _) (zs := [.tracker, .ports, .offered]))
      (journalInv_settle h)

theorem journalInv_posinByte (b : Byte) (h : s.journalInv) : (posinByte s b).journalInv := by
  have hrec (r : Option (List Byte)) : (s.setReceiver r).journalInv := journalInv_of_touches (touches_setReceiver s r) h
  unfold posinByte
  split
  · exact journalInv_ite (hrec _) h
  · refine journalInv_ite (hrec _) ?_
    unfold takeWord
    split
    · exact journalInv_of_touches (touches_countBadWord _) (hrec none)
    · exact journalInv_trackerApply _ (hrec none)

theorem journalInv_waitExpiry (h : s.journalInv) : (waitExpiry s).journalInv := journalInv_ite (journalInv_trackerApply _ h) h

theorem journalInv_stepExpiry (h : s.journalInv) : (stepExpiry s).journalInv := journalInv_ite (journalInv_trackerApply _ h) h

/-! ### Lines (R156, R162 to R166) -/

theorem journalInv_activate (i : LineId) (x : InputLine) (h : s.journalInv) : (activate i x s).journalInv := by
  unfold activate
  split
  · exact h
  · split
    · exact journalInv_of_touches (touches_setLane s _ _) h
    · exact h
  · split
    · exact journalInv_of_touches (touches_lines s _) h
    · exact h
  · exact journalInv_circleLast _ i h
  · exact journalInv_of_touches (touches_loopStopActive _ s) h

theorem journalInv_acceptChange (i : LineId) (h : s.journalInv) : (acceptChange i s).journalInv := by
  have hset (x : InputLine) : (s.setInput i x).journalInv := journalInv_of_touches (touches_setInput s i x) h
  unfold acceptChange
  exact journalInv_of_touches (touches_post _ _ _) (journalInv_ite (journalInv_activate i _ (hset _)) (hset _))

theorem journalInv_sampleInput (i : LineId) (v : Level) (h : s.journalInv) : (sampleInput i v s).journalInv :=
  journalInv_ite (journalInv_of_touches (touches_setInput s i _) h)
    (journalInv_ite (journalInv_of_touches (touches_setInput s i _) h) (journalInv_acceptChange i h))

end

/-! ### Requests (R178) -/

/-- The kinds whose blocks end takes, mark entries or trim the journal (R86, R87, R154, R155, R159). -/
def Request.movesJournal : Request → Bool
  | .cancelLane | .clearStage | .circleTake | .uncircleTake | .trimJournal => true
  | _ => false

/-- Every other kind's block leaves the journal alone. -/
theorem journal_block {k : Request} (hk : k.movesJournal = false) (p : PortId) (body : List Byte) (s : State) :
    (k.block p body s).1.journal = s.journal := by
  cases k with
  | cancelLane | clearStage | circleTake | uncircleTake | trimJournal => cases hk
  | identify | readParameters | tableStatus | trackerStatus | readJournal | readLines | fetchNotices | reconfirm => rfl
  | portStatus | readProfile | readLane | readLoop | readCue | nextCue | insertCue | deleteCue | holdCue | clearTable | setProfile
  | ready | requestGrant =>
    dsimp only [Request.block, answerPortStatus, answerReadProfile, answerReadLane, answerReadLoop, answerReadCue, answerNextCue,
      answerInsert, answerDelete, answerHold, answerClearTable, answerSetProfile, answerReady, answerRequestGrant]
    repeat' split
    all_goals rfl
  | setParameters =>
    rcases answerSetParameters_cases body s with he | ⟨-, -, he⟩
    all_goals exact (congrArg State.journal he :)
  | configurePort =>
    dsimp only [Request.block, answerConfigurePort]
    split
    · split
      · rfl
      · exact touches_writeSettings p _ _ s .journal (by decide)
    · rfl
  | releaseGrant =>
    dsimp only [Request.block, answerReleaseGrant]
    split
    · exact touches_releaseByHolder p s .journal (by decide)
    · split <;> rfl
  | amendCue =>
    dsimp only [Request.block, answerAmend]
    split
    · rfl
    · split
      · rfl
      · exact touches_amendFound _ _ s .journal (by decide)
  | setLane =>
    dsimp only [Request.block, answerSetLane]
    split
    · split
      · exact touches_writeRouting _ _ s .journal (by decide)
      · rfl
    · rfl
  | enableLane =>
    dsimp only [Request.block, answerEnable]
    split
    · rfl
    · exact touches_laneEnable _ s .journal (by decide)
  | disableLane =>
    dsimp only [Request.block, answerDisable]
    split
    · rfl
    · exact touches_laneDisable _ s .journal (by decide)
  | tally =>
    dsimp only [Request.block, answerTally]
    split
    · rfl
    · exact touches_tallyLane p _ s .journal (by decide)
  | startLoop =>
    dsimp only [Request.block, answerStartLoop]
    split
    · rfl
    · exact touches_startLoop _ s .journal (by decide)
  | stopLoop =>
    dsimp only [Request.block, answerStopLoop, stopGroup]
    split
    · rfl
    · split
      · exact touches_loopStopActive _ s .journal (by decide)
      · rfl
  | setLine =>
    dsimp only [Request.block, answerSetLine]
    split
    · rfl
    · exact touches_setInputFrom _ body s .journal (by decide)
    · exact touches_setOutputFrom _ body s .journal (by decide)

theorem journalInv_block (k : Request) (p : PortId) (body : List Byte) {s : State} (h : s.journalInv) :
    (k.block p body s).1.journalInv := by
  cases hk : k.movesJournal with
  | false => exact journalInv_of_journal (journal_block hk p body s) h
  | true =>
    cases k with
    | cancelLane =>
      dsimp only [Request.block, answerCancel]
      split
      · exact h
      · exact journalInv_laneCancel h
    | clearStage => exact journalInv_clearStage h
    | circleTake =>
      dsimp only [Request.block, answerCircle]
      split
      · exact h
      · split
        · exact h
        · exact journalInv_circle _ _ h
    | uncircleTake =>
      dsimp only [Request.block, answerUncircle]
      split
      · exact h
      · split
        · exact h
        · exact journalInv_uncircle _ _ h
    | trimJournal =>
      dsimp only [Request.block, answerTrim]
      split
      · exact h
      · exact journalInv_trimUncircled h
      · exact journalInv_trimAll s
    | _ => cases hk

/-! ### The step -/

/-- Every operation of a step keeps the journal's entries, numbers and seal in agreement. -/
theorem kept_journalInv : Kept State.journalInv where
  reset := journalInv_deviceReset
  pending _ h := h
  countDown h := h
  request k p body := takeRequest_keeps (fun ht h => journalInv_of_touches ht h) k p body (journalInv_block k p body)
  posinByte := journalInv_posinByte
  abandonWord := journalInv_of_touches (touches_abandonWord _)
  waitExpiry := journalInv_waitExpiry
  stepExpiry := journalInv_stepExpiry
  idleExpiry := journalInv_of_touches (touches_idleExpiry _)
  locateExpiry := journalInv_of_touches (touches_locateExpiry _)
  laneTakesAdvance := journalInv_laneTakesAdvance
  laneTakesLost := journalInv_laneTakesLost
  punchTakesAdvance := journalInv_punchTakesAdvance
  takeStartHandoff l := journalInv_of_touches (touches_takeStartHandoff l _)
  takeEndHandoff l := journalInv_of_touches (touches_takeEndHandoff l _)
  marksTakeAdvance := journalInv_marksTakeAdvance
  sendOverlayWord := journalInv_of_touches (touches_sendOverlayWord _)
  loopTakesAdvance := journalInv_loopTakesAdvance
  loopTakesLock := journalInv_loopTakesLock
  loopTakesLost := journalInv_loopTakesLost
  acceptChange := journalInv_acceptChange
  sampleInput := journalInv_sampleInput
  attachPort p := journalInv_of_touches (touches_attachPort p _)
  detachPort p := journalInv_of_touches (touches_detachPort p _)
  samplePresent p v := journalInv_of_touches (touches_samplePresent p v _)
  hearAll p cs := journalInv_of_touches (touches_hearAll p cs _)
  silence p := journalInv_of_touches (touches_setPort _ p _)
  takeFrameError p := journalInv_of_touches (touches_takeFrameError p _)
  takeUnknown p kind body := journalInv_of_touches (touches_takeUnknown p kind body _)
  transmitNext p := journalInv_of_touches (touches_transmitNext p _)
  transmitEnd p := journalInv_of_touches (touches_transmitEnd p _)

/-- Settles O55: each operation of a step keeps the invariant. -/
theorem stepKeepsTheJournal : Obligations.StepKeepsTheJournal := by
  unfold Obligations.StepKeepsTheJournal
  exact fun _ _ => kept_journalInv.step

end Sys2Proof.Machine
end

section
/-! ## Circles and trims of the take journal (O49) -/

namespace Sys2Proof.Machine

set_option Elab.async false

/-! ### The newest entry that meets a test (R154, R156) -/

section
variable {s : State} {f : JournalEntry → Bool}

theorem newest_eq_some {older newer : List JournalEntry} {e : JournalEntry} (hentries : s.journal.entries = older ++ e :: newer)
    (he : f e = true) (hnewer : ∀ y ∈ newer, f y = false) : s.newest f = some e := by
  rw [State.newest, List.find?_eq_some_iff_append]
  refine ⟨he, newer.reverse, older.reverse, by simp [hentries], fun y hy => ?_⟩
  rw [hnewer y (List.mem_reverse.mp hy), Bool.not_false]

theorem newest_eq_none (h : ∀ y ∈ s.journal.entries, f y = false) : s.newest f = none := by
  rw [State.newest, List.find?_eq_none]
  exact fun y hy => by simp [h y (List.mem_reverse.mp hy)]

end

/-! ### A mark, the cue's circled take and CIRCLED (R23, R154, R155, R157) -/

/-- A cue's circled take as CIRCLED and the answer report it, once it has been changed (R157). -/
def State.fieldAfter (s : State) (cue : Nat) (f : Option Nat → Option Nat) : CueField :=
  (s.record cue).elim .noRecord fun c => .field (f c.circled)

/-- The journal with CIRCLED written in the entry of a sequence number. -/
def Journal.marked (j : Journal) (n : Nat) (k : Bool) : Journal :=
  { j with entries := j.entries.map fun y => if y.sequence = n then { y with circled := k } else y }

/-- The state with an entry marked and the circled take of its cue changed. -/
def State.withMark (s : State) (e : JournalEntry) (k : Bool) (f : Option Nat → Option Nat) : State :=
  { s with
    journal := s.journal.marked e.sequence k
    table :=
      { s.table with
        records := s.table.records.map fun c => if c.number = e.cue then { c with circled := f c.circled } else c } }

/-- The same with CIRCLED posted. -/
def markedAs (e : JournalEntry) (k : Bool) (x : CircleSource) (f : Option Nat → Option Nat) (s : State) : State :=
  post .journal (.circled e.sequence e.cue e.take e.lane k x (s.fieldAfter e.cue f)) (s.withMark e k f)

/-- The claim that clears a circled take leaves one of another number (R23). -/
def clearedTake (take : Nat) (c : Option Nat) : Option Nat := if c = some take then none else c

section
variable {s t : State} {cue : Nat} {f : Option Nat → Option Nat}

/-- Changing a cue's circled take changes no number, so its record is found where it was. -/
theorem cueField_of_records
    (h : t.table.records = s.table.records.map fun c => if c.number = cue then { c with circled := f c.circled } else c) :
    t.cueField cue = s.fieldAfter cue f := by
  have hfind : t.record cue = (s.record cue).map fun c => { c with circled := f c.circled } := by
    have hnumber (c : CueRecord) :
        (if c.number = cue then { c with circled := f c.circled } else c : CueRecord).number = c.number := by split <;> rfl
    unfold State.record
    rw [h, List.find?_map]
    simp only [Function.comp_def, hnumber]
    refine Option.map_congr fun c hc => ?_
    exact if_pos (by simpa using List.find?_some hc)
  unfold State.cueField State.fieldAfter
  rw [hfind]
  cases s.record cue <;> rfl

theorem cueField_withMark (e : JournalEntry) (k : Bool) : (s.withMark e k f).cueField e.cue = s.fieldAfter e.cue f :=
  cueField_of_records rfl

theorem markEntry_eq (n : Nat) (k : Bool) (s : State) : markEntry n k s = { s with journal := s.journal.marked n k } := by
  simp [markEntry, State.setEntries, Journal.marked]

theorem setCircled_markEntry (e : JournalEntry) (s : State) :
    setCircled e.cue e.take (markEntry e.sequence true s) = s.withMark e true fun _ => some e.take := by
  rw [markEntry_eq, setCircled, changeCue_eq_map]
  rfl

theorem clearCircled_markEntry (e : JournalEntry) (s : State) :
    clearCircled e.cue e.take (markEntry e.sequence false s) = s.withMark e false (clearedTake e.take) := by
  have hcleared (c : CueRecord) :
      (if c.circled = some e.take then { c with circled := none } else c) = { c with circled := clearedTake e.take c.circled } := by
    unfold clearedTake
    split <;> rfl
  rw [markEntry_eq, clearCircled_eq]
  simp only [hcleared]
  rfl

/-- A circle (R154): the cue's circled take becomes the entry's. -/
theorem circle_eq (e : JournalEntry) (x : CircleSource) (s : State) :
    circle e x s = markedAs e true x (fun _ => some e.take) s := by
  unfold circle markedAs
  dsimp only
  rw [setCircled_markEntry, cueField_withMark]

/-- An uncircle (R155): the cue's circled take is cleared if it is the entry's. -/
theorem uncircle_eq (e : JournalEntry) (x : CircleSource) (s : State) :
    uncircle e x s = markedAs e false x (clearedTake e.take) s := by
  unfold uncircle markedAs
  dsimp only
  rw [clearCircled_markEntry, cueField_withMark]

theorem circleBytes_markedAs (e : JournalEntry) (k : Bool) (x : CircleSource) (f : Option Nat → Option Nat) (s : State) :
    (markedAs e k x f s).circleBytes e = num3 e.sequence ++ num1 (s.fieldAfter e.cue f).code := by
  have hfield : (markedAs e k x f s).cueField e.cue = s.fieldAfter e.cue f := cueField_of_records rfl
  rw [State.circleBytes, hfield]

theorem fieldAfter_circle (s : State) (cue take : Nat) :
    s.fieldAfter cue (fun _ => some take) = if s.record cue = none then .noRecord else .field (some take) := by
  unfold State.fieldAfter
  cases s.record cue <;> rfl

theorem fieldAfter_of_none (f : Option Nat → Option Nat) (h : s.record cue = none) : s.fieldAfter cue f = .noRecord := by
  rw [State.fieldAfter, h]
  rfl

theorem fieldAfter_of_some {c : CueRecord} (f : Option Nat → Option Nat) (h : s.record cue = some c) :
    s.fieldAfter cue f = .field (f c.circled) := by
  rw [State.fieldAfter, h]
  rfl

end

/-! ### CIRCLE TAKE and UNCIRCLE TAKE (R154, R155) -/

theorem circleInRange_eq_false_iff {cue : Nat} {b : Byte} (hcue : cue ≤ 65535) :
    circleInRange (num2 cue ++ [b]) = false ↔ cue = 0 ∨ b.toNat = 0 ∨ 99 < b.toNat := by
  obtain ⟨hword, hbyte⟩ := wordAt_holdBody hcue b
  simp only [circleInRange, hword, hbyte, Bool.and_eq_false_iff, bne_eq_false_iff_eq, decide_eq_false_iff_not]
  omega

/-- The two requests differ in the mark they make. -/
def answerMark (mark : JournalEntry → CircleSource → State → State) (p : PortId) (body : List Byte) (s : State) : State × Reply :=
  if circleInRange body = false then (s, .bare .range)
  else
    match s.entryOf (wordAt body 0) (byteAt body 2) with
    | none => (s, .bare .notFound)
    | some e => (mark e (.port p) s, .okWith ((mark e (.port p) s).circleBytes e))

theorem block_circleTake (p : PortId) (body : List Byte) : Request.circleTake.block p body = answerMark circle p body := rfl

theorem block_uncircleTake (p : PortId) (body : List Byte) : Request.uncircleTake.block p body = answerMark uncircle p body := rfl

section
variable {k : Request} {mark : JournalEntry → CircleSource → State → State} {p : PortId} {s : State} {cue : Nat} {b : Byte}
  (hcue : cue ≤ 65535) (hblock : k.block p (num2 cue ++ [b]) = answerMark mark p (num2 cue ++ [b]))
  (h : s.admits p k (num2 cue ++ [b]))
include hcue hblock h

theorem answers_mark_range (hrange : cue = 0 ∨ b.toNat = 0 ∨ 99 < b.toNat) :
    Answers k p (num2 cue ++ [b]) s (s.dropItem p) [0x06] := by
  refine answers_bare (x := .range) h ?_
  rw [hblock, answerMark, if_pos ((circleInRange_eq_false_iff hcue).mpr hrange)]

theorem answers_mark_notFound (hrange : ¬(cue = 0 ∨ b.toNat = 0 ∨ 99 < b.toNat))
    (habsent : ∀ y ∈ s.journal.entries, ¬(y.cue = cue ∧ y.take = b.toNat)) :
    Answers k p (num2 cue ++ [b]) s (s.dropItem p) [0x0E] := by
  obtain ⟨hword, hbyte⟩ := wordAt_holdBody hcue b
  have hnone : (s.dropItem p).entryOf cue b.toNat = none := newest_eq_none fun y hy => by simpa using habsent y hy
  refine answers_bare (x := .notFound) h ?_
  rw [hblock, answerMark, if_neg (mt (circleInRange_eq_false_iff hcue).mp hrange), hword, hbyte, hnone]

theorem answers_mark_found (hrange : ¬(cue = 0 ∨ b.toNat = 0 ∨ 99 < b.toNat)) {older newer : List JournalEntry} {e : JournalEntry}
    (hentries : s.journal.entries = older ++ e :: newer) (he : e.cue = cue ∧ e.take = b.toNat)
    (hnewer : ∀ y ∈ newer, ¬(y.cue = cue ∧ y.take = b.toNat)) :
    Answers k p (num2 cue ++ [b]) s (mark e (.port p) (s.dropItem p))
      ([0x00] ++ (mark e (.port p) (s.dropItem p)).circleBytes e) := by
  obtain ⟨hword, hbyte⟩ := wordAt_holdBody hcue b
  have hsome : (s.dropItem p).entryOf cue b.toNat = some e :=
    newest_eq_some (s := s.dropItem p) hentries (by simpa using he) fun y hy => by simpa using hnewer y hy
  refine answers_ok h ?_
  rw [hblock, answerMark, if_neg (mt (circleInRange_eq_false_iff hcue).mp hrange), hword, hbyte, hsome]

end

/-! ### TRIM JOURNAL (R159) -/

section
variable {s : State} {p : PortId} {b : Byte} (h : s.admits p .trimJournal [b])
include h

theorem answers_trimJournal_range (hb : 1 < b.toNat) : Answers .trimJournal p [b] s (s.dropItem p) [0x06] := by
  refine answers_bare (x := .range) h ?_
  show answerTrim [b] _ = _
  rw [answerTrim, byteAt_cons_zero, boolOf_eq_none hb]

/-- What goes are the entries without CIRCLED. -/
theorem answers_trimJournal_uncircled (hb : b = 0) :
    Answers .trimJournal p [b] s (trimUncircled (s.dropItem p))
      ([0x00] ++ num2 (s.journal.entries.countP fun e => !e.circled)) := by
  have hsplit := List.length_eq_countP_add_countP (fun e : JournalEntry => e.circled) (l := s.journal.entries)
  have hgone : s.journal.entries.length - (trimUncircled (s.dropItem p)).journal.entries.length =
      s.journal.entries.countP fun e => !e.circled := by
    show _ - (s.journal.entries.filter fun e => e.circled).length = _
    rw [← List.countP_eq_length_filter, hsplit]
    simp
  refine answers_ok h ?_
  show answerTrim [b] _ = _
  subst hb
  rw [← hgone]
  rfl

theorem answers_trimJournal_all (hb : b = 1) :
    Answers .trimJournal p [b] s (trimAll (s.dropItem p)) ([0x00] ++ num2 s.journal.entries.length) := by
  subst hb
  exact answers_ok h rfl

end

/-- Settles O49: the two marks are one request with its mark, each written out by what it changes, and the trims by their byte. -/
theorem circleUncircleTrim : Obligations.CircleUncircleTrim := by
  unfold Obligations.CircleUncircleTrim
  intro p s u
  refine ⟨fun cue b hcue => ?marks, fun b h => ⟨answers_trimJournal_range h, answers_trimJournal_uncircled h,
    answers_trimJournal_all h⟩⟩
  case marks =>
    intro body marked outOfRange found absent
    refine ⟨fun h => ⟨answers_mark_range hcue (block_circleTake p _) h, answers_mark_notFound hcue (block_circleTake p _) h,
      fun older newer e hrange hfound => ?circled⟩,
      fun h => ⟨answers_mark_range hcue (block_uncircleTake p _) h, answers_mark_notFound hcue (block_uncircleTake p _) h,
        fun older newer e hrange hfound => ?uncircled⟩⟩
    case circled =>
      obtain ⟨hentries, rfl, htake, hnewer⟩ := hfound
      have hanswer := answers_mark_found hcue (block_circleTake p _) h hrange hentries ⟨rfl, htake⟩ hnewer
      have hbyte : num1 (if s.record e.cue = none then CueField.noRecord else .field (some e.take)).code =
          [if s.record e.cue = none then 0xFE else b] := by
        split
        · rfl
        · simp [num1, CueField.code, htake]
      rw [circle_eq, circleBytes_markedAs, markedAs, fieldAfter_circle, ← List.append_assoc, dropItem_record, hbyte] at hanswer
      exact hanswer
    case uncircled =>
      obtain ⟨hentries, rfl, htake, hnewer⟩ := hfound
      have hanswer := answers_mark_found hcue (block_uncircleTake p _) h hrange hentries ⟨rfl, htake⟩ hnewer
      rw [uncircle_eq, circleBytes_markedAs, markedAs, ← List.append_assoc] at hanswer
      cases hrecord : s.record e.cue with
      | none =>
        rw [fieldAfter_of_none (s := s.dropItem p) _ hrecord] at hanswer
        exact hanswer
      | some c =>
        rw [fieldAfter_of_some (s := s.dropItem p) _ hrecord] at hanswer
        exact hanswer

end Sys2Proof.Machine
end

section
/-! ## Input line changes and samples (O35) -/

namespace Sys2Proof.Machine

set_option Elab.async false

/-- Director hold is the toggle or a LEVEL line of that function that is active (R164). -/
theorem directorHold_iff (s : State) :
    s.directorHold = true ↔ s.lines.holdToggle = true ∨ ∃ j : LineId, (s.input j).function = .directorHold ∧
      (s.input j).trigger = .level ∧ (s.input j).level = (s.input j).polarity := by
  simp [State.directorHold, List.any_eq_true, mem_allLines, InputLine.active, and_assoc]

/-! ### An accepted level (R162, R166) -/

/-- The line with its other level accepted. -/
def InputLine.turned (x : InputLine) : InputLine := { x with level := otherLevel x.level, differing := 0 }

/-- LINE CHANGE of a line as it now stands, posted after the line's function (R166). -/
def toldOfLine (i : LineId) (x : InputLine) (s : State) : State :=
  post .lines (.lineChange i x.level (x.level == x.polarity) x.function s.directorHold) s

section
variable {s : State} {i : LineId}

/-- The level is accepted, the function runs on an activation, and LINE CHANGE is posted (R162, R166). -/
theorem acceptChange_eq (i : LineId) (s : State) :
    acceptChange i s =
      toldOfLine i (s.input i).turned
        (if (s.input i).turned.active = true then activate i (s.input i).turned (s.setInput i (s.input i).turned)
        else s.setInput i (s.input i).turned) := rfl

theorem turned_active_iff (x : InputLine) : x.turned.active = true ↔ otherLevel x.level = x.polarity := by
  simp [InputLine.active, InputLine.turned]

theorem acceptChange_of_inactive (h : otherLevel (s.input i).level ≠ (s.input i).polarity) :
    acceptChange i s = toldOfLine i (s.input i).turned (s.setInput i (s.input i).turned) := by
  rw [acceptChange_eq, if_neg (mt (turned_active_iff _).mp h)]

theorem acceptChange_of_active (h : otherLevel (s.input i).level = (s.input i).polarity) :
    acceptChange i s =
      toldOfLine i (s.input i).turned (activate i (s.input i).turned (s.setInput i (s.input i).turned)) := by
  rw [acceptChange_eq, if_pos ((turned_active_iff _).mpr h)]

/-- A line whose activation does nothing is told of alone, whether it is active or not. -/
theorem acceptChange_of_quiet (h : ∀ t : State, activate i (s.input i).turned t = t) :
    acceptChange i s = toldOfLine i (s.input i).turned (s.setInput i (s.input i).turned) := by
  by_cases hactive : otherLevel (s.input i).level = (s.input i).polarity
  · rw [acceptChange_of_active hactive, h]
  · exact acceptChange_of_inactive hactive

end

/-! ### The functions at an activation (R156, R163 to R165) -/

section
variable {i : LineId} {x : InputLine} {s : State}

theorem activate_none (h : x.function = .none) : activate i x s = s := by
  rw [activate, h]

/-- A LEVEL line of ACTOR READY or DIRECTOR HOLD acts by its level, which is read where it counts (R163, R164). -/
theorem activate_level (htrigger : x.trigger = .level)
    (h : x.function = .directorHold ∨ ∃ l : LaneId, x.function = .actorReady l) : activate i x s = s := by
  rcases h with h | ⟨l, h⟩
  · simp only [activate, h, htrigger]
  · simp only [activate, h, htrigger]

theorem activate_actorReady {l : LaneId} (h : x.function = .actorReady l) (htrigger : x.trigger = .edge) :
    activate i x s = s.setLane l { s.lane l with readyLatch := true } := by
  simp only [activate, h, htrigger]
  rfl

theorem activate_directorHold (h : x.function = .directorHold) (htrigger : x.trigger = .edge) :
    activate i x s = { s with lines := { s.lines with holdToggle := !s.lines.holdToggle } } := by
  simp only [activate, h, htrigger]
  rfl

theorem activate_loopStop (h : x.function = .loopStop) : activate i x s = loopStopActive .stopLine s := by
  rw [activate, h]

theorem activate_circleLast_none {l : LaneId} (h : x.function = .circleLast l) (hnone : ∀ e ∈ s.journal.entries, e.lane ≠ l) :
    activate i x s = s := by
  have hnewest : (s.newest fun e => e.lane == l) = none := newest_eq_none fun e he => by simpa using hnone e he
  simp only [activate, h, circleLast, hnewest]

/-- The lane's newest entry is circled (R156). -/
theorem activate_circleLast_some {l : LaneId} (h : x.function = .circleLast l) {e : JournalEntry}
    {older newer : List JournalEntry} (hentries : s.journal.entries = older ++ e :: newer) (he : e.lane = l)
    (hnewer : ∀ y ∈ newer, y.lane ≠ l) : activate i x s = markedAs e true (.line i) (fun _ => some e.take) s := by
  have hnewest : (s.newest fun e => e.lane == l) = some e :=
    newest_eq_some hentries (by simpa using he) fun y hy => by simpa using hnewer y hy
  simp only [activate, h, circleLast, hnewest, circle_eq]

end

/-! ### Samples (R162) -/

section
variable {s : State} {i : LineId} {w : Level}

theorem sampleInput_agrees (h : w = (s.input i).level) :
    sampleInput i w s = s.setInput i { s.input i with differing := 0 } := if_pos h

theorem sampleInput_counts (h : w ≠ (s.input i).level) (hlt : (s.input i).differing + 1 < (s.input i).debounce) :
    sampleInput i w s = s.setInput i { s.input i with differing := (s.input i).differing + 1 } :=
  (if_neg h).trans (if_pos hlt)

/-- The sample that reaches the count is the change (log 23). -/
theorem sampleInput_accepts (h : w ≠ (s.input i).level) (hle : (s.input i).debounce ≤ (s.input i).differing + 1) :
    sampleInput i w s = acceptChange i s :=
  (if_neg h).trans (if_neg (by omega))

end

/-- Settles O35: the change by the line's level and function, and a sample by its level and the count. -/
theorem inputLineChangesAndSamples : Obligations.InputLineChangesAndSamples := by
  unfold Obligations.InputLineChangesAndSamples
  intro i s hreset x v u told answer
  have hchange : exec (.inputLineChange i) s = .next (acceptChange i s) := live_of_released hreset
  have hsample (w : Level) : exec (.inputSample i w) s = .next (sampleInput i w s) := live_of_released hreset
  have hquiet (h : ∀ t : State, activate i x.turned t = t) : answer (told u) :=
    hchange.trans (congrArg _ (acceptChange_of_quiet h))
  have hactive {t : State} (hv : v = x.polarity) (ht : activate i x.turned u = t) : answer (told t) :=
    hchange.trans (congrArg _ ((acceptChange_of_active hv).trans (congrArg _ ht)))
  refine ⟨directorHold_iff s, ?still, fun htrigger hf => hquiet fun _ => activate_level htrigger hf,
    fun l hv hf htrigger => hactive hv (activate_actorReady hf htrigger),
    fun hv hf htrigger => hactive hv (activate_directorHold hf htrigger), fun l hv hf => ⟨?circleNone, ?circleSome⟩,
    fun hv hf => ⟨?stopNone, ?stopSome⟩, fun w => ⟨?agrees, ?counts, ?accepts⟩⟩
  case still =>
    rintro (hv | hf)
    · exact hchange.trans (congrArg _ (acceptChange_of_inactive hv))
    · exact hquiet fun _ => activate_none hf
  case circleNone => exact fun hnone => hactive hv (activate_circleLast_none hf hnone)
  case circleSome =>
    intro e older newer hentries he hnewer
    have hmarked := hactive hv (activate_circleLast_some (s := u) hf hentries he hnewer)
    subst he
    rw [markedAs, fieldAfter_circle] at hmarked
    exact hmarked
  case stopNone =>
    exact fun hnone => hactive hv ((activate_loopStop hf).trans (loopStopActive_of_none (s := u) _ hnone))
  case stopSome =>
    intro g q hg hport
    refine hactive hv ((activate_loopStop hf).trans ?_)
    exact (loopStopActive_of_some (s := u) _ hg).trans (loopHalt_eq (s := u) _ hport)
  case agrees => exact fun hw => (hsample w).trans (congrArg _ (sampleInput_agrees hw))
  case counts => exact fun hw hlt => (hsample w).trans (congrArg _ (sampleInput_counts hw hlt))
  case accepts => exact fun hw hle => ((hsample w).trans (congrArg _ (sampleInput_accepts hw hle))).trans hchange.symm

end Sys2Proof.Machine
end

section
/-! ## A port's places, counters and attach state

What `Port.wf` says of a port (R173, R175, R177, R181), part by part, and that every operation on one port keeps it: posting, the
receiver, the answer slot, the transmitter, CONFIGURE PORT and FETCH NOTICES. -/

namespace Sys2Proof.Machine

set_option Elab.async false

/-- What a detached port holds: nothing (R175). -/
structure Port.Empty (x : Port) : Prop where
  receiver : x.receiver = none
  receiveQueue : x.receiveQueue = []
  slot : x.slot = none
  priority : x.priority = []
  ordinary : x.ordinary = []
  transmitting : x.transmitting = none
  lost : x.lostSinceFetch = 0

/-- The parts of `Port.wf`. -/
structure Port.Sound (x : Port) : Prop where
  receiveQueue : x.receiveQueue.length ≤ 4
  ordinary : x.ordinary.length ≤ 32
  present : x.attached = true ↔ x.presentLevel = .high
  differing : x.presentDiffering < 20
  threshold : 1 ≤ x.threshold ∧ x.threshold ≤ 32
  lost : x.lostSinceFetch ≤ 65535
  frameErrors : x.frameErrors ≤ 65535
  overruns : x.overruns ≤ 65535
  noticesLost : x.noticesLost ≤ 65535
  detached : x.attached = false → x.Empty

theorem Port.empty_iff (x : Port) :
    x.Empty ↔ x.receiver = none ∧ x.receiveQueue = [] ∧ x.slot = none ∧ x.priority = [] ∧ x.ordinary = [] ∧
      x.transmitting = none ∧ x.lostSinceFetch = 0 :=
  ⟨fun ⟨hreceiver, hreceive, hslot, hpriority, hordinary, hsending, hlost⟩ =>
      ⟨hreceiver, hreceive, hslot, hpriority, hordinary, hsending, hlost⟩,
    fun ⟨hreceiver, hreceive, hslot, hpriority, hordinary, hsending, hlost⟩ =>
      ⟨hreceiver, hreceive, hslot, hpriority, hordinary, hsending, hlost⟩⟩

theorem Port.wf_iff (x : Port) : x.wf ↔ x.Sound := by
  unfold Port.wf
  rw [← Port.empty_iff]
  constructor
  · rintro ⟨hreceive, hordinary, hpresent, hdiffering, hlow, hhigh, hlost, herrors, hoverruns, hnotices, hdetached⟩
    exact ⟨hreceive, hordinary, hpresent, hdiffering, ⟨hlow, hhigh⟩, hlost, herrors, hoverruns, hnotices, hdetached⟩
  · rintro ⟨hreceive, hordinary, hpresent, hdiffering, ⟨hlow, hhigh⟩, hlost, herrors, hoverruns, hnotices, hdetached⟩
    exact ⟨hreceive, hordinary, hpresent, hdiffering, hlow, hhigh, hlost, herrors, hoverruns, hnotices, hdetached⟩

theorem portsInv_iff (s : State) : s.portsInv ↔ ∀ p : PortId, (s.port p).Sound := forall_congr' fun p => (s.port p).wf_iff

/-- Of an attached port nothing need be empty. -/
theorem Port.empty_of_attached {x y : Port} (h : x.attached = true) : x.attached = false → y.Empty :=
  fun hx => absurd (h.symm.trans hx) (by decide)

section
variable {x : Port}

/-! ### Notices (R137, R180, R181) -/

theorem Port.Sound.enqueue (h : x.Sound) (hx : x.attached = true) (n : Notice) : (x.enqueue n).Sound := by
  unfold Port.enqueue
  split
  · next hroom => exact { h with ordinary := by rw [List.length_append]; exact hroom, detached := Port.empty_of_attached hx }
  · exact { h with
      lost := satInc_le h.lost, noticesLost := satInc_le h.noticesLost, detached := Port.empty_of_attached hx }

/-- A priority queue of any length fits an attached port, the empty one a detached port as well. -/
theorem Port.Sound.setPriority (h : x.Sound) {ns : List PriorityNotice} (hns : x.attached = false → ns = []) :
    ({ x with priority := ns } : Port).Sound :=
  { h with detached := fun hx => { h.detached hx with priority := hns hx } }

/-! ### The receiver (R176, R177) -/

theorem Port.Sound.join (h : x.Sound) (hx : x.attached = true) (i : RxItem) : (x.join i).Sound := by
  unfold Port.join
  split
  · next hroom => exact { h with receiveQueue := by rw [List.length_append]; exact hroom, detached := Port.empty_of_attached hx }
  · exact { h with overruns := satInc_le h.overruns, detached := Port.empty_of_attached hx }

theorem Port.Sound.setReceiver (h : x.Sound) (hx : x.attached = true) (r : Option (List Byte)) :
    ({ x with receiver := r } : Port).Sound :=
  { h with detached := Port.empty_of_attached hx }

theorem Port.Sound.failFrame (h : x.Sound) (hx : x.attached = true) (f : FrameFailure) : (x.failFrame f).Sound := by
  have hcounted : ({ x with receiver := none, frameErrors := satInc x.frameErrors } : Port).Sound :=
    { h with frameErrors := satInc_le h.frameErrors, detached := Port.empty_of_attached hx }
  exact hcounted.join hx _

theorem Port.Sound.frameByte (h : x.Sound) (hx : x.attached = true) (bytes : List Byte) : (x.frameByte bytes).Sound := by
  unfold Port.frameByte
  dsimp only
  split
  · exact h.failFrame hx _
  · split
    · exact h.setReceiver hx _
    · unfold Port.finishFrame
      split
      · exact (h.setReceiver hx none).join hx _
      · exact h.failFrame hx _

theorem Port.Sound.hear (h : x.Sound) (c : RxChar) : (x.hear c).Sound := by
  unfold Port.hear
  split
  · next hx =>
    split
    · split
      · exact h.setReceiver hx _
      · exact h
    · split
      · exact h.frameByte hx _
      · exact h.failFrame hx _
  · exact h

theorem Port.Sound.hears (h : x.Sound) (cs : List RxChar) : (cs.foldl Port.hear x).Sound := by
  induction cs generalizing x with
  | nil => exact h
  | cons c cs ih => exact ih (h.hear c)

theorem Port.Sound.silence (h : x.Sound) : x.silence.Sound := by
  unfold Port.silence
  split
  · exact h
  · split
    · next hx => exact h.failFrame hx _
    · exact h

/-! ### The receive queue, the slot and the transmitter (R177 to R179) -/

theorem Port.Sound.dropItem (h : x.Sound) : ({ x with receiveQueue := x.receiveQueue.tail } : Port).Sound :=
  { h with
    receiveQueue := (List.tail_sublist _).length_le.trans h.receiveQueue
    detached := fun hx => { h.detached hx with receiveQueue := by rw [(h.detached hx).receiveQueue, List.tail_nil] } }

theorem Port.Sound.setSlot (h : x.Sound) (hx : x.attached = true) (a : Option Answer) : ({ x with slot := a } : Port).Sound :=
  { h with detached := Port.empty_of_attached hx }

/-- An attached port sends a notice or its answer. -/
theorem Port.Sound.send (h : x.Sound) (hx : x.attached = true) (ns : List PriorityNotice) (a : Option Answer)
    (m : Option Transmission) : ({ x with priority := ns, slot := a, transmitting := m } : Port).Sound :=
  { h with detached := Port.empty_of_attached hx }

theorem Port.Sound.endMessage (h : x.Sound) (b : Rate) : ({ x with transmitting := none, lineRate := b } : Port).Sound :=
  { h with detached := fun hx => { h.detached hx with transmitting := rfl } }

/-! ### CONFIGURE PORT and FETCH NOTICES (R182, R183) -/

theorem settingsOf_threshold {b : List Byte} {y : PortSettings} (h : settingsOf b = some y) :
    1 ≤ y.threshold ∧ y.threshold ≤ 32 := by
  unfold settingsOf at h
  split at h
  · split at h
    · next hrange =>
      cases h
      exact hrange
    · cases h
  · cases h

theorem Port.Sound.takeRate (h : x.Sound) (b : Rate) : (x.takeRate b).Sound := by
  rw [takeRate_eq]
  exact { h with
    detached := fun hx => { h.detached hx with
      slot := by rw [(h.detached hx).slot, Option.map_none]
      transmitting := by rw [(h.detached hx).transmitting, Option.map_none] } }

theorem Port.Sound.configured (h : x.Sound) (own : Bool) {y : PortSettings} (hy : 1 ≤ y.threshold ∧ y.threshold ≤ 32) :
    (x.configured own y).Sound := by
  have hset : ({ x with roles := y.roles, subscription := y.subscription, rate := y.rate, threshold := y.threshold } : Port).Sound :=
    { h with threshold := hy, detached := fun hx => { h.detached hx with } }
  unfold Port.configured
  dsimp only
  split
  · exact hset
  · exact hset.takeRate _

theorem Port.Sound.fetched (h : x.Sound) (hx : x.attached = true) {ns : List Notice} (hns : ns.length ≤ x.ordinary.length) :
    ({ x with ordinary := ns, lostSinceFetch := 0 } : Port).Sound :=
  { h with ordinary := hns.trans h.ordinary, lost := Nat.zero_le _, detached := Port.empty_of_attached hx }

/-! ### PRESENT (R174, R175) -/

theorem Port.Sound.attach (h : x.Sound) :
    ({ x with attached := true, presentLevel := .high, presentDiffering := 0, receiver := none } : Port).Sound :=
  { h with present := ⟨fun _ => rfl, fun _ => rfl⟩, differing := Nat.zero_lt_succ _, detached := Port.empty_of_attached rfl }

theorem Port.Sound.detach (h : x.Sound) : x.detached.Sound where
  receiveQueue := Nat.zero_le _
  ordinary := Nat.zero_le _
  present := by simp [Port.detached]
  differing := Nat.zero_lt_succ _
  threshold := h.threshold
  lost := Nat.zero_le _
  frameErrors := h.frameErrors
  overruns := h.overruns
  noticesLost := h.noticesLost
  detached _ := ⟨rfl, rfl, rfl, rfl, rfl, rfl, rfl⟩

theorem Port.Sound.setDiffering (h : x.Sound) {n : Nat} (hn : n < 20) : ({ x with presentDiffering := n } : Port).Sound :=
  { h with differing := hn, detached := fun hx => { h.detached hx with } }

end

end Sys2Proof.Machine
end

section
/-! ## Every step keeps the ports (O56) -/

namespace Sys2Proof.Machine

set_option Elab.async false

/-! ### What posting and the ports' own commands leave (R175 to R181) -/

theorem portsInv_setPort {s : State} {p : PortId} {x : Port} (h : s.portsInv) (hx : (s.port p).Sound → x.Sound) :
    (s.setPort p x).portsInv := by
  rw [portsInv_iff] at h ⊢
  intro q
  rw [State.port_setPort]
  split
  · exact hx (h p)
  · exact h q

theorem portsInv_of_ports {s t : State} (h : s.portsInv) (ht : t.ports = s.ports) : t.portsInv := fun p => by
  rw [State.port, ht]
  exact h p

theorem portsInv_of_touches {xs : List Part} {s t : State} (h : s.portsInv) (ht : TouchesOnly xs s t)
    (hports : Part.ports ∉ xs := by decide) : t.portsInv := portsInv_of_ports h (ht .ports hports)

/-- A detached port takes no notice, so posting finds room or counts what it drops (R175, R181). -/
theorem Posts.portsInv {s t : State} (h : Posts s t) : s.portsInv → t.portsInv := by
  induction h with
  | same hports => exact fun hs => portsInv_of_ports hs hports
  | notice pick n s =>
    intro hs
    rw [portsInv_iff] at hs ⊢
    intro p
    rw [postWhere, State.port_mapPorts]
    split
    · next hpick => exact (hs p).enqueue (Bool.and_eq_true_iff.mp hpick).1 n
    · exact hs p
  | punch p n s | transport p n s =>
    intro hs
    dsimp only [postPunch, postTransport]
    split
    · next hattached => exact portsInv_setPort hs fun hp => hp.setPriority fun hx => absurd (hattached.symm.trans hx) (by decide)
    · exact hs
  | cancel l p s =>
    intro hs
    refine portsInv_setPort hs fun hp => hp.setPriority fun hx => ?_
    rw [(hp.detached hx).priority, List.filter_nil]
  | trans _ _ ih ih' => exact fun hs => ih' (ih hs)

theorem portsInv_hearAll {s : State} (p : PortId) (cs : List RxChar) (h : s.portsInv) : (hearAll p cs s).portsInv :=
  portsInv_setPort h fun hp => hp.hears cs

theorem portsInv_dropItem {s : State} (p : PortId) (h : s.portsInv) : (s.dropItem p).portsInv :=
  portsInv_setPort h Port.Sound.dropItem

/-- An answer is placed at a port that is attached (R175, R177). -/
theorem portsInv_placeAnswer {s : State} {p : PortId} (hattached : (s.port p).attached = true) (a : Answer) (h : s.portsInv) :
    (s.placeAnswer p a).portsInv := portsInv_setPort h fun hp => hp.setSlot hattached _

theorem attached_of_mayTake {x : Port} {i : RxItem} (h : x.mayTake i = true) : x.attached = true := by
  simp only [Port.mayTake, Bool.and_eq_true] at h
  exact h.1.1

theorem portsInv_takeFrameError {s : State} (p : PortId) (h : s.portsInv) : (takeFrameError p s).portsInv := by
  unfold takeFrameError
  split
  · exact h
  · split
    · next hmay =>
      exact portsInv_placeAnswer (by rw [dropItem_attached, attached_of_mayTake hmay]) _ (portsInv_dropItem p h)
    · exact h

theorem portsInv_takeUnknown {s : State} (p : PortId) (kind : Byte) (body : List Byte) (h : s.portsInv) :
    (takeUnknown p kind body s).portsInv := by
  unfold takeUnknown
  split
  · next hmay =>
    refine portsInv_of_touches (portsInv_placeAnswer ?_ _ (portsInv_dropItem p h)) (touches_restartIdle p _)
    rw [dropItem_attached, attached_of_mayTake hmay.2.2]
  · exact h

theorem portsInv_transmitNext {s : State} (p : PortId) (h : s.portsInv) : (transmitNext p s).portsInv := by
  unfold transmitNext
  dsimp only
  split
  · next hready =>
    obtain ⟨hattached, -⟩ := hready
    split
    · next n rest _ =>
      exact portsInv_of_touches (portsInv_setPort h fun hp => hp.send hattached _ _ _) (touches_noticeTaken n _)
    · exact portsInv_setPort h fun hp => hp.send hattached _ _ _
    · exact h
  · exact h

theorem portsInv_transmitEnd {s : State} (p : PortId) (h : s.portsInv) : (transmitEnd p s).portsInv := by
  unfold transmitEnd
  dsimp only
  split
  · exact h
  · exact portsInv_setPort h fun hp => hp.endMessage _

/-! ### PRESENT (R174, R175) -/

theorem portsInv_attachPort {s : State} (p : PortId) (h : s.portsInv) : (attachPort p s).portsInv := by
  unfold attachPort
  split
  · exact h
  · exact portsInv_of_touches (portsInv_setPort h Port.Sound.attach) (touches_setLink _ p _)

/-- The port empties itself; what the other blocks make of its detach they only post (R175). -/
theorem portsInv_detachPort {s : State} (p : PortId) (h : s.portsInv) : (detachPort p s).portsInv := by
  unfold detachPort
  split
  · have hpunch := (posts_grantDetach p (s.setPort p (s.port p).detached)).trans (.of_touches (touches_punchDetach p _))
    exact (hpunch.trans (posts_loopDetach p _)).portsInv (portsInv_setPort h Port.Sound.detach)
  · exact h

theorem portsInv_samplePresent {s : State} (p : PortId) (v : Level) (h : s.portsInv) : (samplePresent p v s).portsInv := by
  have hp : (s.port p).Sound := (portsInv_iff s).mp h p
  by_cases hv : v = (s.port p).presentLevel
  · rw [samplePresent_agrees hv]
    exact portsInv_setPort h fun hp => hp.setDiffering (by decide)
  · by_cases hcount : (s.port p).presentDiffering + 1 < 20
    · rw [samplePresent_counts hv hcount]
      exact portsInv_setPort h fun hp => hp.setDiffering hcount
    · rw [samplePresent_accepts hv (Nat.not_lt.mp hcount)]
      cases v with
      | high =>
        have hdetached : (s.port p).attached = false := by
          rw [← Bool.not_eq_true, hp.present]
          exact Ne.symm hv
        rw [acceptPresent_high hdetached]
        exact portsInv_attachPort p h
      | low =>
        have hattached : (s.port p).attached = true := by
          rw [hp.present]
          cases hlevel : (s.port p).presentLevel with
          | low => exact absurd hlevel.symm hv
          | high => rfl
        rw [acceptPresent_low hattached]
        exact portsInv_detachPort p h

/-! ### Requests (R178) -/

/-- The kinds whose blocks write a port's record (R182, R183). -/
def Request.writesPort : Request → Bool
  | .configurePort | .fetchNotices => true
  | _ => false

/-- Every other kind's block reaches the ports by posting alone. -/
theorem posts_block {k : Request} (hk : k.writesPort = false) (p : PortId) (body : List Byte) (s : State) :
    Posts s (k.block p body s).1 := by
  have hsame : Posts s s := .refl s
  cases k with
  | configurePort | fetchNotices => cases hk
  | identify | readParameters | tableStatus | trackerStatus | readJournal | readLines | reconfirm => exact .same rfl
  | portStatus | readProfile | readLane | readLoop | readCue | nextCue | insertCue | deleteCue | holdCue | clearTable | setProfile
  | ready | trimJournal =>
    dsimp only [Request.block, answerPortStatus, answerReadProfile, answerReadLane, answerReadLoop, answerReadCue, answerNextCue,
      answerInsert, answerDelete, answerHold, answerClearTable, answerSetProfile, answerReady, answerTrim]
    repeat' split
    all_goals exact .same rfl
  | setParameters =>
    rcases answerSetParameters_cases body s with he | ⟨-, -, he⟩
    all_goals exact .same (congrArg State.ports he :)
  | requestGrant =>
    dsimp only [Request.block, answerRequestGrant]
    split
    · exact (Posts.of_touches (touches_grant s _)).trans (posts_postGrantExcept p _ _)
    · split
      · exact hsame
      · split
        · exact hsame
        · exact .of_touches (touches_grant s _)
  | releaseGrant =>
    dsimp only [Request.block, answerReleaseGrant]
    split
    · exact (posts_releaseNotices p s).trans ((Posts.of_touches (touches_grant _ _)).trans (posts_passGrant _))
    · split
      · exact .of_touches (touches_grant s _)
      · exact hsame
  | amendCue =>
    dsimp only [Request.block, answerAmend]
    split
    · exact hsame
    · split
      · exact hsame
      · exact .of_touches (touches_amendFound _ _ s)
  | setLane =>
    dsimp only [Request.block, answerSetLane]
    split
    · split
      · exact .of_touches (touches_writeRouting _ _ s)
      · exact hsame
    · exact hsame
  | enableLane =>
    dsimp only [Request.block, answerEnable]
    split
    · exact hsame
    · exact .of_touches (touches_laneEnable _ s)
  | disableLane =>
    dsimp only [Request.block, answerDisable]
    split
    · exact hsame
    · exact posts_laneDisable _ s
  | cancelLane =>
    dsimp only [Request.block, answerCancel]
    split
    · exact hsame
    · exact posts_laneCancel _ s
  | clearStage => exact posts_clearStage s
  | tally =>
    dsimp only [Request.block, answerTally]
    split
    · exact hsame
    · exact .of_touches (touches_tallyLane p _ s)
  | startLoop =>
    dsimp only [Request.block, answerStartLoop]
    split
    · exact hsame
    · exact posts_startLoop _ s
  | stopLoop =>
    dsimp only [Request.block, answerStopLoop, stopGroup]
    split
    · exact hsame
    · split
      · exact posts_loopStopActive _ s
      · exact hsame
  | circleTake =>
    dsimp only [Request.block, answerCircle]
    split
    · exact hsame
    · split
      · exact hsame
      · exact posts_circle _ _ s
  | uncircleTake =>
    dsimp only [Request.block, answerUncircle]
    split
    · exact hsame
    · split
      · exact hsame
      · exact posts_uncircle _ _ s
  | setLine =>
    dsimp only [Request.block, answerSetLine]
    split
    · exact hsame
    · exact .of_touches (touches_setInputFrom _ body s)
    · exact .of_touches (touches_setOutputFrom _ body s)

theorem Port.attached_configured (x : Port) (own : Bool) (y : PortSettings) : (x.configured own y).attached = x.attached := by
  unfold Port.configured
  dsimp only
  split
  · rfl
  · rw [takeRate_eq]

/-- The ports keep to their places, and a port that takes requests is attached. -/
def State.serves (s : State) (p : PortId) : Prop := s.portsInv ∧ (s.port p).attached = true

theorem serves_writeSettings {s : State} {p q : PortId} {y : PortSettings} (hy : 1 ≤ y.threshold ∧ y.threshold ≤ 32)
    (h : s.serves p) : (writeSettings p q y s).serves p := by
  obtain ⟨hports, hattached⟩ := h
  rw [portsInv_iff] at hports
  refine ⟨(portsInv_iff _).mpr fun k => ?_, ?_⟩
  · rw [port_writeSettings]
    split
    · exact (hports q).configured _ hy
    · exact hports k
  · rw [port_writeSettings]
    split
    · next hq => rw [Port.attached_configured, hq, hattached]
    · exact hattached

theorem serves_fetch {s : State} {p : PortId} (h : s.serves p) : (answerFetch p s).1.serves p := by
  obtain ⟨hports, hattached⟩ := h
  obtain ⟨hsplit, -⟩ := takeNotices_spec 4 (Config.maxBody - fetchFixed) (s.port p).ordinary
  refine ⟨portsInv_setPort hports fun hp => hp.fetched hattached ?_, ?_⟩
  · have hlength := congrArg List.length hsplit
    rw [List.length_append] at hlength
    omega
  · unfold answerFetch
    rw [State.port_setPort_same]
    exact hattached

theorem serves_block (k : Request) {p : PortId} (body : List Byte) {s : State} (h : s.serves p) :
    (k.block p body s).1.serves p := by
  cases hk : k.writesPort with
  | false =>
    have hposts := posts_block hk p body s
    exact ⟨hposts.portsInv h.1, (hposts.attached p).trans h.2⟩
  | true =>
    cases k with
    | configurePort =>
      dsimp only [Request.block, answerConfigurePort]
      split
      · next hsettings =>
        split
        · exact h
        · exact serves_writeSettings (settingsOf_threshold hsettings) h
      · exact h
    | fetchNotices => exact serves_fetch h
    | _ => cases hk

theorem portsInv_takeRequest {s : State} (k : Request) (p : PortId) (body : List Byte) (h : s.portsInv) :
    (takeRequest p k body (k.block p body) s).portsInv := by
  by_cases hcan : s.canTake p k body
  · have hdrop : (s.dropItem p).serves p := by
      obtain ⟨-, hattached, -⟩ := hcan
      exact ⟨portsInv_dropItem p h, by rw [dropItem_attached, hattached]⟩
    have hjudge : (judge p k body (k.block p body) (s.dropItem p)).1.serves p := by
      unfold judge
      split
      · exact hdrop
      · split
        · exact hdrop
        · split
          · exact hdrop
          · exact serves_block k body hdrop
    rw [takeRequest_of_canTake _ hcan]
    exact portsInv_of_touches (portsInv_placeAnswer hjudge.2 _ hjudge.1) (touches_restartIdle p _)
  · rwa [takeRequest_of_not_canTake _ hcan]

/-! ### The bound of a priority queue (R180) -/

/-- A priority notice is a transport notice or a punch notice of one lane. -/
theorem priorityNotice_one_class (n : PriorityNotice) :
    (if n.isTransport = true then 1 else 0) + (∑ l : LaneId, if n.isPunch l = true then 1 else 0) = 1 := by
  cases n <;> simp [PriorityNotice.isTransport, PriorityNotice.isPunch, PriorityNotice.isPunchIn, PriorityNotice.isPunchOut]

/-- A priority queue is its transport notices and the punch notices of the lanes. -/
theorem length_eq_countP_classes (ns : List PriorityNotice) :
    ns.length = ns.countP PriorityNotice.isTransport + ∑ l : LaneId, ns.countP (PriorityNotice.isPunch l) := by
  induction ns with
  | nil => simp
  | cons n ns ih =>
    have hone := priorityNotice_one_class n
    simp only [List.length_cons, List.countP_cons, Finset.sum_add_distrib]
    omega

/-- One transport notice and one punch notice of each of the eight lanes. -/
theorem priority_length_le {s : State} (h : s.punchInv) (p : PortId) : (s.port p).priority.length ≤ 9 := by
  obtain ⟨htransport, hpunch, -⟩ := h
  have hlanes : ∑ l : LaneId, (s.port p).priority.countP (PriorityNotice.isPunch l) ≤ 8 :=
    Finset.sum_le_card_nsmul Finset.univ _ 1 fun l _ => hpunch p l
  have hone := htransport p
  rw [length_eq_countP_classes]
  omega

/-! ### The step -/

theorem posts_idleExpiry (s : State) : Posts s (idleExpiry s) := by
  unfold idleExpiry
  split
  · exact .refl s
  · exact .ite (posts_revoke _ _ s) (.refl s)

/-- Every operation of a step keeps the ports' places, counters and attach states. -/
theorem kept_portsInv : Kept State.portsInv where
  reset := portsInv_deviceReset
  pending _ h := h
  countDown h := h
  request := portsInv_takeRequest
  posinByte b := (posts_posinByte _ b).portsInv
  abandonWord := (Posts.of_touches (touches_abandonWord _)).portsInv
  waitExpiry := (posts_waitExpiry _).portsInv
  stepExpiry := (posts_stepExpiry _).portsInv
  idleExpiry := (posts_idleExpiry _).portsInv
  locateExpiry := (posts_locateExpiry _).portsInv
  laneTakesAdvance l := (posts_laneTakesAdvance l _).portsInv
  laneTakesLost l := (posts_laneTakesLost l _).portsInv
  punchTakesAdvance := (posts_punchTakesAdvance _).portsInv
  takeStartHandoff l := (Posts.of_touches (touches_takeStartHandoff l _)).portsInv
  takeEndHandoff l := (Posts.of_touches (touches_takeEndHandoff l _)).portsInv
  marksTakeAdvance := (posts_marksTakeAdvance _).portsInv
  sendOverlayWord := (Posts.of_touches (touches_sendOverlayWord _)).portsInv
  loopTakesAdvance := (posts_loopTakesAdvance _).portsInv
  loopTakesLock := (posts_loopTakesLock _).portsInv
  loopTakesLost := (posts_loopTakesLost _).portsInv
  acceptChange i := (posts_acceptChange i _).portsInv
  sampleInput i v := (posts_sampleInput i v _).portsInv
  attachPort := portsInv_attachPort
  detachPort := portsInv_detachPort
  samplePresent := portsInv_samplePresent
  hearAll := portsInv_hearAll
  silence _ h := portsInv_setPort h Port.Sound.silence
  takeFrameError := portsInv_takeFrameError
  takeUnknown := portsInv_takeUnknown
  transmitNext := portsInv_transmitNext
  transmitEnd := portsInv_transmitEnd

/-- Settles O56: each operation of a step keeps the ports, and the punch invariant bounds a priority queue class by class. -/
theorem stepKeepsThePorts : Obligations.StepKeepsThePorts := by
  unfold Obligations.StepKeepsThePorts
  exact ⟨fun _ _ => kept_portsInv.step, fun _ p h => priority_length_le h p⟩

end Sys2Proof.Machine
end

section
/-! ## The receivers: what the characters of a frame leave (O37, O38) -/

namespace Sys2Proof.Machine

set_option Elab.async false

/-! ### One character (R175, R176) -/

/-- A port in the middle of a frame: the bytes after the sync byte. -/
def Port.during (x : Port) (bytes : List Byte) : Port := { x with receiver := some bytes }

section
variable {x : Port}

theorem Port.hear_of_detached (h : x.attached = false) (c : RxChar) : x.hear c = x := by simp [Port.hear, h]

theorem Port.hear_sync (h : x.attached = true) (hr : x.receiver = none) : x.hear (wholeByte 0xA7) = x.during [] := by
  simp [Port.hear, h, hr, wholeByte, Config.frameSync, Port.during]

/-- A hunting receiver discards all but a whole sync byte. -/
theorem Port.hear_hunting (hr : x.receiver = none) {c : RxChar} (hc : c.stop = false ∨ c.byte ≠ 0xA7) : x.hear c = x := by
  have hnot : ¬(c.stop = true ∧ c.byte = Config.frameSync) := by
    rintro ⟨hstop, hsync⟩
    rcases hc with hc | hc
    · exact absurd (hstop.symm.trans hc) (by decide)
    · exact hc hsync
  unfold Port.hear
  rw [hr]
  dsimp only
  rw [if_neg hnot, ite_self]

/-- A whole byte in a frame: what it leaves does not depend on what the receiver held but by the bytes. -/
theorem Port.hear_during (h : x.attached = true) (bytes : List Byte) (b : Byte) :
    (x.during bytes).hear (wholeByte b) = x.frameByte (bytes ++ [b]) := if_pos h

theorem Port.hear_during_noStopBit (h : x.attached = true) (bytes : List Byte) (b : Byte) :
    (x.during bytes).hear { byte := b, stop := false } = x.failFrame .noStopBit := if_pos h

theorem Port.silence_during (h : x.attached = true) (bytes : List Byte) : (x.during bytes).silence = x.failFrame .timeout := if_pos h

/-! ### The bytes of a frame (R176) -/

theorem Port.frameByte_badLength {n : Byte} (hn : n = 0 ∨ 64 < n.toNat) : x.frameByte [n] = x.failFrame .badLength := by
  refine if_pos ⟨rfl, ?_⟩
  rcases hn with rfl | hn
  · exact .inl rfl
  · exact .inr hn

section
variable {n : Byte} {rest : List Byte}

/-- A length in its range is no failure. -/
theorem length_fits (hlow : 1 ≤ n.toNat) (hhigh : n.toNat ≤ 64) :
    ¬((n :: rest).length = 1 ∧ (byteAt (n :: rest) 0 = 0 ∨ 64 < byteAt (n :: rest) 0)) := by
  show ¬(_ ∧ (n.toNat = 0 ∨ 64 < n.toNat))
  omega

theorem Port.frameByte_part (hlow : 1 ≤ n.toNat) (hhigh : n.toNat ≤ 64) (hrest : rest.length ≤ n.toNat) :
    x.frameByte (n :: rest) = x.during (n :: rest) := by
  unfold Port.frameByte
  dsimp only
  rw [if_neg (length_fits hlow hhigh)]
  exact if_pos (Nat.add_lt_add_right (Nat.lt_succ_of_le hrest) 1)

theorem Port.frameByte_whole (hlow : 1 ≤ n.toNat) (hhigh : n.toNat ≤ 64) (hrest : rest.length = n.toNat + 1) :
    x.frameByte (n :: rest) = x.finishFrame (n :: rest) := by
  unfold Port.frameByte
  dsimp only
  rw [if_neg (length_fits hlow hhigh)]
  refine if_neg ?_
  rw [List.length_cons, hrest]
  exact Nat.lt_irrefl _

/-- Characters of a frame in progress. -/
theorem Port.hears_part (h : x.attached = true) (hlow : 1 ≤ n.toNat) (hhigh : n.toNat ≤ 64) (hrest : rest.length ≤ n.toNat) :
    ((n :: rest).map wholeByte).foldl Port.hear (x.during []) = x.during (n :: rest) := by
  induction rest using List.reverseRecOn with
  | nil =>
    show (x.during []).hear (wholeByte n) = _
    rw [Port.hear_during h]
    exact Port.frameByte_part hlow hhigh hrest
  | append_singleton rest b ih =>
    rw [List.length_append, List.length_singleton] at hrest
    rw [← List.cons_append, List.map_append, List.foldl_append, ih (by omega), List.map_singleton, List.foldl_cons, List.foldl_nil,
      Port.hear_during h]
    exact Port.frameByte_part hlow hhigh ((List.length_append (as := rest)).trans_le hrest)

/-- Characters of a whole frame. -/
theorem Port.hears_whole (h : x.attached = true) (hlow : 1 ≤ n.toNat) (hhigh : n.toNat ≤ 64) (hrest : rest.length = n.toNat + 1) :
    ((n :: rest).map wholeByte).foldl Port.hear (x.during []) = x.finishFrame (n :: rest) := by
  obtain ⟨init, b, rfl⟩ := (List.eq_nil_or_concat rest).resolve_left fun hnil => by simp [hnil] at hrest
  have hinit : init.length ≤ n.toNat := by simpa using hrest.le
  rw [List.concat_eq_append, ← List.cons_append, List.map_append, List.foldl_append, Port.hears_part h hlow hhigh hinit,
    List.map_singleton, List.foldl_cons, List.foldl_nil, Port.hear_during h]
  exact Port.frameByte_whole hlow hhigh (by simpa using hrest)

end

/-- The characters of a frame after its sync byte. -/
theorem Port.hears_sync (h : x.attached = true) (hr : x.receiver = none) (cs : List RxChar) :
    (wholeByte 0xA7 :: cs).foldl Port.hear x = cs.foldl Port.hear (x.during []) := by
  rw [List.foldl_cons, Port.hear_sync h hr]

theorem Port.hears_of_detached (h : x.attached = false) (cs : List RxChar) : cs.foldl Port.hear x = x := by
  induction cs with
  | nil => rfl
  | cons c cs ih => rw [List.foldl_cons, Port.hear_of_detached h, ih]

theorem Port.hears_hunting (hr : x.receiver = none) {cs : List RxChar} (hcs : ∀ c ∈ cs, c.stop = false ∨ c.byte ≠ 0xA7) :
    cs.foldl Port.hear x = x := by
  induction cs with
  | nil => rfl
  | cons c cs ih =>
    rw [List.forall_mem_cons] at hcs
    rw [List.foldl_cons, Port.hear_hunting hr hcs.1, ih hcs.2]

theorem Port.silence_hunting (hr : x.receiver = none) : x.silence = x := by simp [Port.silence, hr]

theorem Port.silence_of_detached (h : x.attached = false) : x.silence = x := by
  unfold Port.silence
  split
  · rfl
  · rw [if_neg (by simp [h])]

/-! ### Failed and whole frames (R176, R177) -/

/-- A failed frame is counted, and its item joins or is an overrun. -/
theorem Port.failFrame_eq (x : Port) (f : FrameFailure) :
    x.failFrame f =
      if x.receiveQueue.length < 4 then
        { x with receiver := none, frameErrors := satInc x.frameErrors, receiveQueue := x.receiveQueue ++ [.frameError f] }
      else { x with receiver := none, frameErrors := satInc x.frameErrors, overruns := satInc x.overruns } := rfl

theorem Port.finishFrame_badSum {bytes : List Byte} (h : byteSum bytes ≠ 0) : x.finishFrame bytes = x.failFrame .badSum := if_neg h

/-- A whole frame whose sum is right is the request it spells. -/
theorem Port.finishFrame_request (hr : x.receiver = none) {n kind check : Byte} {body : List Byte}
    (hsum : byteSum (n :: kind :: body ++ [check]) = 0) :
    x.finishFrame (n :: kind :: body ++ [check]) = x.join (.request kind body) := by
  have hx : ({ x with receiver := none } : Port) = x := by rw [← hr]
  have hbody : ((n :: kind :: body ++ [check]).drop 2).dropLast = body := List.dropLast_concat
  unfold Port.finishFrame
  rw [if_pos hsum, hx, hbody]
  rfl

end

/-! ### The commands that bring characters -/

section
variable {p : PortId} {s : State}

theorem exec_receiveFrame (h : s.resetHeld = false) (cs : List RxChar) :
    exec (.receiveFrame p cs) s = .next (s.setPort p (cs.foldl Port.hear (s.port p))) := live_of_released h

theorem exec_interByteTimeout (h : s.resetHeld = false) (bytes : List Byte) :
    exec (.interByteTimeout p bytes) s =
      .next (s.setPort p ((bytes.map wholeByte).foldl Port.hear (s.port p)).silence) := by
  have hexec : exec (.interByteTimeout p bytes) s =
      live (fun t => (hearAll p (bytes.map wholeByte) t).setPort p ((hearAll p (bytes.map wholeByte) t).port p).silence) s := rfl
  rw [hexec, live_of_released h, hearAll, State.port_setPort_same, State.setPort_twice]

end

/-- Settles O37: the sync byte, the length, kind and body, and the check byte that brings the sum to 0. -/
theorem frameReadsBack : Obligations.FrameReadsBack := by
  unfold Obligations.FrameReadsBack
  intro p kind body s hreset hattached hhunts hbody
  have hlength : (BitVec.ofNat 8 (1 + body.length)).toNat = 1 + body.length := by
    rw [BitVec.toNat_ofNat]
    omega
  have hframe : (frameOf kind body).map (fun b => ({ byte := b, stop := true } : RxChar)) =
      wholeByte 0xA7 :: ((BitVec.ofNat 8 (1 + body.length) :: kind :: body) ++
        [0 - byteSum (BitVec.ofNat 8 (1 + body.length) :: kind :: body)]).map wholeByte := rfl
  rw [exec_receiveFrame hreset, hframe, Port.hears_sync hattached hhunts, List.cons_append,
    Port.hears_whole hattached (by omega) (by omega) (by simp; omega)]
  exact congrArg (fun x => Host.Outcome.next (s.setPort p x)) (Port.finishFrame_request hhunts (byteSum_append_check _))

/-! ### What kind FF answers (R177, R178, R188) -/

theorem isRequestCode_eq_false {kind : Byte} (h : kind.toNat ∉ requestCodes) : isRequestCode kind = false := by
  have hcodes : allRequests.map (fun k => k.code.toNat) = requestCodes := by decide
  refine List.any_eq_false.mpr fun k hk hcode => h ?_
  rw [← hcodes, ← beq_iff_eq.mp hcode]
  exact List.mem_map_of_mem hk

section
variable {p : PortId} {s : State}

theorem takeFrameError_first {f : FrameFailure} {rest : List RxItem} (hattached : (s.port p).attached = true)
    (hslot : (s.port p).slot = none) (hqueue : (s.port p).receiveQueue = .frameError f :: rest) :
    takeFrameError p s =
      s.setPort p { s.port p with
        receiveQueue := rest, slot := some { kind := 0xFF, body := num1 f.code ++ [0x00], newRate := none } } := by
  have hfirst : (s.port p).firstError = some f := by rw [Port.firstError, hqueue]
  have hmay : (s.port p).mayTake (.frameError f) = true := by simp [Port.mayTake, hattached, hslot, hqueue]
  unfold takeFrameError
  rw [hfirst]
  dsimp only
  rw [if_pos hmay, dropItem_of_cons hqueue, State.placeAnswer, State.port_setPort_same, State.setPort_twice]

theorem takeUnknown_answered {kind : Byte} {body : List Byte} (hreset : s.resetHeld = false) (hkind : kind.toNat ∉ requestCodes)
    (hattached : (s.port p).attached = true) (hslot : (s.port p).slot = none)
    (hqueue : (s.port p).receiveQueue = [] ∨ (s.port p).receiveQueue.head? = some (.request kind body)) :
    takeUnknown p kind body s = (s.dropItem p).answered p 0xFF [0x11, kind] := by
  have hmay : (s.port p).mayTake (.request kind body) = true := by simp [Port.mayTake, hattached, hslot, hqueue]
  exact if_pos ⟨hreset, isRequestCode_eq_false hkind, hmay⟩

end

/-- Settles O38: each failure by the byte that brings it, what is discarded, and the two answers of kind FF. -/
theorem framesFailAndAreAnswered : Obligations.FramesFailAndAreAnswered := by
  unfold Obligations.FramesFailAndAreAnswered
  intro p s hreset x whole fails
  have hfails {y : Port} {f : FrameFailure} (h : y = x.failFrame f) : (.next (s.setPort p y) : Result) = .next (fails f) :=
    congrArg (fun z => Host.Outcome.next (s.setPort p z)) (h.trans (Port.failFrame_eq x f))
  have hsame {y : Port} (h : y = x) : (.next (s.setPort p y) : Result) = .next s := by rw [h, setPort_port]
  refine ⟨fun hattached hhunts => ⟨fun n hn => ?badLength, fun n rest hlow hhigh hrest hsum => ?badSum,
    fun n c rest hlow hhigh hrest => ⟨?noStopBit, ?timeout⟩, fun c => ?noLength, ?noByte, fun cs hcs => ?hunting,
    fun b hb => ?huntingBytes⟩, fun hattached hbusy => ?silence, fun hdetached => ⟨fun cs => ?detached, fun b => ?detachedBytes⟩,
    fun f rest hattached hslot hqueue => ?frameError, fun kind body hkind hattached hslot hqueue => ?unknownKind⟩
  case badLength =>
    rw [exec_receiveFrame hreset]
    refine hfails ((Port.hears_sync hattached hhunts _).trans ?_)
    exact (Port.hear_during hattached [] n).trans (Port.frameByte_badLength hn)
  case badSum =>
    rw [exec_receiveFrame hreset]
    refine hfails ((Port.hears_sync hattached hhunts _).trans ?_)
    exact (Port.hears_whole hattached hlow hhigh hrest).trans (Port.finishFrame_badSum hsum)
  case noStopBit =>
    rw [exec_receiveFrame hreset, List.foldl_append]
    refine hfails (?_ : Port.hear _ _ = _)
    have hpart := (Port.hears_sync hattached hhunts _).trans (Port.hears_part hattached hlow hhigh hrest)
    exact (congrArg (Port.hear · _) hpart).trans (Port.hear_during_noStopBit hattached _ c)
  case timeout =>
    rw [exec_interByteTimeout hreset]
    have hpart := (Port.hears_sync hattached hhunts _).trans (Port.hears_part hattached hlow hhigh hrest)
    exact hfails ((congrArg Port.silence hpart).trans (Port.silence_during hattached _))
  case noLength =>
    rw [exec_receiveFrame hreset]
    exact hfails ((Port.hears_sync hattached hhunts _).trans (Port.hear_during_noStopBit hattached [] c))
  case noByte =>
    rw [exec_interByteTimeout hreset]
    exact hfails ((congrArg Port.silence (Port.hear_sync hattached hhunts)).trans (Port.silence_during hattached []))
  case hunting =>
    rw [exec_receiveFrame hreset]
    exact hsame (Port.hears_hunting hhunts hcs)
  case huntingBytes =>
    rw [exec_interByteTimeout hreset]
    have hbytes : ∀ c ∈ b.map wholeByte, c.stop = false ∨ c.byte ≠ 0xA7 := by
      simp only [List.forall_mem_map]
      exact fun y hy => .inr fun hsync => hb (hsync ▸ hy)
    exact hsame ((congrArg Port.silence (Port.hears_hunting hhunts hbytes)).trans (Port.silence_hunting hhunts))
  case silence =>
    obtain ⟨bytes, hbytes⟩ := Option.ne_none_iff_exists'.mp hbusy
    have hduring : x.during bytes = x := by rw [Port.during, ← hbytes]
    rw [exec_interByteTimeout hreset]
    exact hfails ((congrArg Port.silence hduring.symm).trans (Port.silence_during hattached bytes))
  case detached =>
    rw [exec_receiveFrame hreset]
    exact hsame (Port.hears_of_detached hdetached cs)
  case detachedBytes =>
    rw [exec_interByteTimeout hreset]
    exact hsame ((congrArg Port.silence (Port.hears_of_detached hdetached _)).trans (Port.silence_of_detached hdetached))
  case frameError =>
    intro code
    have hcode : num1 f.code ++ [0x00] = [code, 0x00] := by cases f <;> rfl
    have hexec : exec (.frameError p) s = .next (takeFrameError p s) := live_of_released hreset
    rw [hexec, takeFrameError_first hattached hslot hqueue, hcode]
  case unknownKind =>
    have hexec : exec (.unknownKind p kind body) s = .next (takeUnknown p kind body s) := live_of_released hreset
    rw [hexec, takeUnknown_answered hreset hkind hattached hslot hqueue]

end Sys2Proof.Machine
end

section
/-! ## The step and the waiting commands (O1, O3)

A step hands the front command to `exec`. `exec` always answers a next state: a device reset keeps the queue it is given, a live
event or a request's block changes none but the parts its `TouchesOnly` lemma names, and the queue is never one of them. -/

namespace Sys2Proof.Machine

set_option Elab.async false

/-- A step with a command waiting is that command on the queue's rest. -/
theorem step_of_pending {s : State} {c : Instr} {rest : List Instr} (h : s.pending = c :: rest) :
    step s = exec c { s with pending := rest } := by
  unfold step
  rw [h]

/-- Settles O1: the front command of such a state is the one put there. -/
theorem stepRunsTheFrontCommand : Obligations.StepRunsTheFrontCommand := by
  unfold Obligations.StepRunsTheFrontCommand
  intro c rest s
  exact step_of_pending rfl

theorem TouchesOnly.pending {xs : List Part} {s t : State} (h : TouchesOnly xs s t) (hqueue : Part.pending ∉ xs := by decide) :
    t.pending = s.pending := h .pending hqueue

/-- The answer is a next state whose queue is the state's own. -/
def LeavesQueue (s : State) (r : Result) : Prop := ∃ t : State, r = .next t ∧ t.pending = s.pending

theorem leavesQueue_next {s t : State} (h : t.pending = s.pending) : LeavesQueue s (.next t) := ⟨t, rfl, h⟩

/-! ### Device reset (log 26) -/

theorem pending_deviceReset (held : Bool) (x : Straps) (queue : List Instr) :
    (State.deviceReset held x queue).pending = queue := rfl

theorem pending_releaseReset (x : Straps) (s : State) : (releaseReset x s).pending = s.pending := by
  unfold releaseReset
  split
  · exact pending_deviceReset _ _ _
  · rfl

/-! ### Live events and requests -/

/-- A live event that touches other parts leaves the queue; while RESET is held it changes nothing at all. -/
theorem leavesQueue_live {xs : List Part} {f : State → State} {s : State} (hf : TouchesOnly xs s (f s))
    (hqueue : Part.pending ∉ xs := by decide) : LeavesQueue s (live f s) :=
  leavesQueue_next ((TouchesOnly.ite _ (.refl xs s) hf).pending hqueue)

theorem touches_posinBytes (bytes : List Byte) (s : State) : TouchesOnly trackerParts s (bytes.foldl posinByte s) :=
  TouchesOnly.foldl touches_posinByte bytes s

/-- Bytes after which a word is given up, for a gap or a missing stop bit (R41). -/
theorem touches_abandonedBytes (bytes : List Byte) (s : State) :
    TouchesOnly trackerParts s (abandonWord (bytes.foldl posinByte s)) :=
  (touches_posinBytes bytes s).andThen (touches_abandonWord _)

theorem pending_block (k : Request) (p : PortId) (body : List Byte) (s : State) : (k.block p body s).1.pending = s.pending := by
  by_cases hk : k = .setParameters
  · subst hk
    show (answerSetParameters body s).1.pending = s.pending
    obtain hsame | ⟨-, -, hwrites⟩ := answerSetParameters_cases body s
    · rw [hsame]
    · rw [hwrites]
  · exact (touches_block hk p body s).pending

theorem leavesQueue_request (k : Request) (p : PortId) (body : List Byte) (s : State) :
    LeavesQueue s (.next (takeRequest p k body (k.block p body) s)) :=
  leavesQueue_next <| takeRequest_keeps (P := fun t => t.pending = s.pending) (fun ht h => ht.pending.trans h) k p body
    (fun h => (pending_block k p body _).trans h) rfl

/-! ### Every command -/

/-- A command is a reset, a live event, or a request. -/
theorem leavesQueue_exec (c : Instr) (s : State) : LeavesQueue s (exec c s) := by
  cases c with
  | resetAssert => exact leavesQueue_next (pending_deviceReset _ _ _)
  | resetRelease o2 o1 o0 => exact leavesQueue_next (pending_releaseReset _ s)
  | positionWord bytes => exact leavesQueue_live (f := fun t => bytes.foldl posinByte t) (touches_posinBytes bytes s)
  | wordGapTimeout bytes | wordByteWithoutStopBit bytes =>
    exact leavesQueue_live (f := fun t => abandonWord (bytes.foldl posinByte t)) (touches_abandonedBytes bytes s)
  | wordWaitExpiry => exact leavesQueue_live (touches_waitExpiry s)
  | freewheelStepExpiry => exact leavesQueue_live (touches_stepExpiry s)
  | locateTimerExpiry => exact leavesQueue_live (touches_locateExpiry s)
  | grantIdleExpiry => exact leavesQueue_live (touches_idleExpiry s)
  | lanePositionAdvance l => exact leavesQueue_live (touches_laneTakesAdvance l s)
  | laneRollLost l => exact leavesQueue_live (touches_laneTakesLost l s)
  | punchPositionAdvance => exact leavesQueue_live (touches_punchTakesAdvance s)
  | markStartHandoff l => exact leavesQueue_live (touches_takeStartHandoff l s)
  | markEndHandoff l => exact leavesQueue_live (touches_takeEndHandoff l s)
  | markPositionAdvance => exact leavesQueue_live (touches_marksTakeAdvance s)
  | loopPositionAdvance => exact leavesQueue_live (touches_loopTakesAdvance s)
  | loopLockEntry => exact leavesQueue_live (touches_loopTakesLock s)
  | loopRollLost => exact leavesQueue_live (touches_loopTakesLost s)
  | overlayWord => exact leavesQueue_live (touches_sendOverlayWord s)
  | inputLineChange i => exact leavesQueue_live (touches_acceptChange i s)
  | inputSample i v => exact leavesQueue_live (touches_sampleInput i v s)
  | portAttach p => exact leavesQueue_live (touches_attachPort p s)
  | portDetach p => exact leavesQueue_live (touches_detachPort p s)
  | presentSample p v => exact leavesQueue_live (touches_samplePresent p v s)
  | receiveFrame p chars => exact leavesQueue_live (touches_hearAll p chars s)
  | interByteTimeout p bytes =>
    exact leavesQueue_live
      (f := fun t => (hearAll p (bytes.map wholeByte) t).setPort p ((hearAll p (bytes.map wholeByte) t).port p).silence)
      ((touches_hearAll p _ s).trans (touches_setPort _ p _))
  | frameError p => exact leavesQueue_live (touches_takeFrameError p s)
  | unknownKind p kind body => exact leavesQueue_live (touches_takeUnknown p kind body s)
  | transmitTake p => exact leavesQueue_live (touches_transmitNext p s)
  | transmitComplete p => exact leavesQueue_live (touches_transmitEnd p s)
  | identify | portStatus | configurePort | fetchNotices | setParameters | readParameters | requestGrant | releaseGrant
  | tableStatus | insertCue | amendCue | deleteCue | holdCue | clearTable | readCue | nextCue | setProfile | readProfile
  | setLane | readLane | enableLane | disableLane | cancelLane | clearStage | trackerStatus | ready | tally | reconfirm
  | startLoop | stopLoop | readLoop | readJournal | circleTake | uncircleTake | trimJournal | setLine | readLines =>
    exact leavesQueue_request _ _ _ s

/-- Settles O3: reset is given the queue it had, and no event and no request has the queue among its parts. -/
theorem everyCommandAnswersAState : Obligations.EveryCommandAnswersAState := by
  unfold Obligations.EveryCommandAnswersAState
  exact leavesQueue_exec

end Sys2Proof.Machine
end
